-- ==== Sys2Proof/Word.lean ====
section
/-! DEFINITION. The plain words of the model: bytes, 32-bit counters and seconds, slot codes, timers.
Conversions that a test could show wrong (byte order, narrowing) stand in `Machine/Coding.lean`. -/

namespace Sys2Proof

/-- One byte, as the data pair, the card port and the start memory carry it (spec 11). -/
abbrev Byte := BitVec 8

/-- A saturating 32-bit counter, 0..4,294,967,295 (R18). -/
abbrev Counter := Fin 4294967296

/-- The seconds part of cabinet time, modulo 2^32 (R83). -/
abbrev Seconds := Fin 4294967296

/-- A slot code 0..15 (spec 00, section 5.4). -/
abbrev Slot := Fin 16

/-- A destination code 0..31: a slot, a group (16..30) or broadcast (31) (spec 00, section 5.4). -/
abbrev Dest := Fin 32

/-- A timer on the local clock: `none` when stopped, else the ticks of 8 ns still to run
(spec 00, sections 5.2 and 5.3). -/
abbrev Timer := Option Nat

/-- The whole nanoseconds (0..7) from a tick to an edge, as the edge interpolator measures them (R90). -/
abbrev EdgeDelay := Fin 8

end Sys2Proof
end

