-- ==== Sys2Proof/Syntax.lean ====
section
/-! DEFINITION. The commands of the part: one constructor of `Instr` for each row of spec/opcode_table.json,
with the operands that the outside supplies with the event (pins, frames heard, bits clocked in, messages).
The table's rows carry no bits, so a command is its constructor and operands. -/

namespace Sys2Proof

/-- The cabinet size strap (spec 10.1). -/
inductive CabinetSize where
  | eight | sixteen
  deriving DecidableEq, Repr, Inhabited

/-- The classes a card frame may have: 1 control, 2 deadline, 3 bulk (spec 00, section 5.5). -/
inductive CardClass where
  | control | deadline | bulk
  deriving DecidableEq, Repr

/-- The two strobe outputs (spec 5.8). -/
inductive Strobe where
  | sta | stb
  deriving DecidableEq, Repr

/-- Reason a station withdraws, as WITHDRAW carries it (spec 11.2). -/
inductive WithdrawCause where
  | ejector | card
  deriving DecidableEq, Repr, Inhabited

/-- The levels read on the five straps (spec 10.1, R190). -/
structure Straps where
  slot          : BitVec 4
  parity        : Bool
  size          : CabinetSize
  sourceCapable : Bool
  collector     : Bool
  deriving DecidableEq, Repr

/-- The levels of the conditioned input pins at one moment: at the coming up of the auxiliary rail, or as sampled at a
tick of the local clock (R128, R129, R153, R171, R183, R188). -/
structure PinLevels where
  /-- SEAT low. -/
  seated       : Bool
  /-- EJECT low. -/
  latched      : Bool
  /-- PGOOD high. -/
  powerGood    : Bool
  /-- IN7..IN0, a set bit for a high pin. -/
  inputsHigh   : BitVec 8
  /-- ALERT pulled low by another station; the own drive is the part's own (R171). -/
  alertPulled  : Bool
  /-- HOLD high. -/
  holdAsserted : Bool
  /-- CRST low. -/
  resetHeld    : Bool
  /-- BUSP and BUSN at the four half bit times of a tick, set for H. A half bit time that is not listed shows what this
  station's own drive leaves on the pair (R8). -/
  pair         : List Bool := []
  /-- The five strap pins (R190). -/
  straps       : Straps := { slot := 0, parity := false, size := .eight, sourceCapable := false, collector := false }
  deriving DecidableEq, Repr

/-- A good DATA frame heard on the pair: the header fields of R197 and the payload. -/
structure DataFrame where
  source   : Slot
  cls      : CardClass
  dest     : Dest
  sequence : Byte
  due      : Option (BitVec 32)
  payload  : List Byte
  deriving DecidableEq, Repr

/-- A coded bit as sampled on the pair: the levels of its two halves, `true` for H (in a claim bit, dominant)
(R7, R197). -/
structure Halves where
  first  : Bool
  second : Bool
  deriving DecidableEq, Repr

/-- The beginning of an activity as sampled on the pair (R14, R197). -/
structure PairStart where
  /-- The interpolator's reading at the first edge, for the receive stamp. -/
  delay  : EdgeDelay
  /-- The level the pair stood at, `true` for H, then that of each half bit time from the first edge on. -/
  levels : List Bool
  deriving DecidableEq, Repr

/-- A received activity as sampled on the pair after what began it (R15, R197). -/
structure Activity where
  /-- The claim field's bits. -/
  claim : List Halves
  /-- The bits after the claim field, up to the end marker or to the quiet: header, body and check. -/
  rest  : List Halves
  deriving DecidableEq, Repr

/-- What the serial memory answered to a load: the acknowledges of its device address in both phases and of the two
address bytes, and the bytes it delivered from address 0 (R192). -/
structure MemoryAnswer where
  ackWrite : Bool
  ackHigh  : Bool
  ackLow   : Bool
  ackRead  : Bool
  bytes    : List Byte
  deriving DecidableEq, Repr

/-- What the sender of a unicast frame sampled in the whole reply window (R13). -/
inductive WindowContent where
  /-- No transition. -/
  | quiet
  /-- Bits as sampled, and whether they began at the opening of the window. -/
  | bits (onTime : Bool) (pattern : List Halves)
  /-- Transitions outside the bit times (overlapping patterns, noise). -/
  | garbled
  deriving DecidableEq, Repr

/-- The fields of a SEND message (R199). -/
structure SendRequest where
  cls         : BitVec 2
  dest        : Dest
  tag         : BitVec 16
  due         : Option (BitVec 32)
  release     : Option Strobe
  lengthField : BitVec 16
  payload     : List Byte
  deriving DecidableEq, Repr

/-- The commands of the VB-C16, one for each row of spec/opcode_table.json. -/
inductive Instr where
  /-- POWER_ON (R127): the auxiliary rail comes up with the pins at these levels. -/
  | powerOn (pins : PinLevels)
  /-- TICK (R86). -/
  | tick
  /-- STROBE_PULSE_END (R96). -/
  | strobePulseEnd (g : Strobe)
  /-- DUE_TIME_PASSED (R31). -/
  | dueTimePassed
  /-- SEAT_SEATED (R133), with the straps that their synchroniser shows on the entry into SEATED (R190). -/
  | seatSeated (straps : Straps)
  /-- SEAT_LOSS (R149). -/
  | seatLoss
  /-- EJECT_OPENED (R141). -/
  | ejectOpened
  /-- EJECT_LATCHED (R134). -/
  | ejectLatched
  /-- PGOOD_GOOD (R135). -/
  | pgoodGood
  /-- PGOOD_LOST (R143). -/
  | pgoodLost
  /-- CARD_RESET (R188). -/
  | cardReset
  /-- CARD_RESET_RELEASE (R188). -/
  | cardResetRelease
  /-- HOLD_ASSERTED (R183). -/
  | holdAsserted
  /-- HOLD_RELEASED (R183). -/
  | holdReleased
  /-- REF_EDGE (R91), with the interpolator's reading. -/
  | refEdge (k : EdgeDelay)
  /-- INPUT_DEBOUNCED_ASSERTION (R155). -/
  | inputAsserted (n : Fin 8)
  /-- INPUT_DEBOUNCED_DEASSERTION (R156). -/
  | inputDeasserted (n : Fin 8)
  /-- ALERT_LEVEL_CHANGE (R171): the filtered level becomes this one. -/
  | alertLevelChange (asserted : Bool)
  /-- SETTLE_GAP_COMPLETE (R1). -/
  | settleGapComplete
  /-- CLAIM_POSITION_BEGIN (R4), with the interpolator's reading for a start taken here. -/
  | claimPositionBegin (k : EdgeDelay)
  /-- START_MARKER_RECEIVED (R1, R197), with what began the activity. -/
  | startMarkerReceived (m : PairStart)
  /-- STRAY_TRANSITION (R14): a transition that begins no start marker. -/
  | strayTransition
  /-- COLLISION_DETECTED (R8). -/
  | collisionDetected
  /-- FRAME_CUT (R1): the activity up to the quiet. -/
  | frameCut (a : Activity)
  /-- BROKEN_FRAME (R15): the activity whose end marker was reached. -/
  | brokenFrame (a : Activity)
  /-- OWN_FRAME_COMPLETE (R9). -/
  | ownFrameComplete
  /-- DATA_HEARD (R50). -/
  | dataHeard (f : DataFrame)
  /-- SYNC_HEARD (R111): source slot and frame body. -/
  | syncHeard (src : Slot) (body : List Byte)
  /-- ANNOUNCE_HEARD (R104). -/
  | announceHeard (src : Slot) (body : List Byte)
  /-- SUMMARY_HEARD (R79). -/
  | summaryHeard (src : Slot) (body : List Byte)
  /-- JOIN_HEARD (R69). -/
  | joinHeard (src : Slot) (body : List Byte)
  /-- WITHDRAW_HEARD (R70). -/
  | withdrawHeard (src : Slot) (body : List Byte)
  /-- GONE_HEARD (R71). -/
  | goneHeard (src : Slot) (body : List Byte)
  /-- READY_HEARD (R78). -/
  | readyHeard (src : Slot)
  /-- REPLY_WINDOW_OPEN (R12). -/
  | replyWindowOpen
  /-- REPLY_WINDOW_END (R13): what the station sampled in the window. -/
  | replyWindowEnd (w : WindowContent)
  /-- SILENCE_TIMEOUT (R72), for the entry of this slot. -/
  | silenceTimeout (slot : Slot)
  /-- BLOCKED_TIMER_EXPIRY (R78). -/
  | blockedTimerExpiry (slot : Slot)
  /-- ANNOUNCE_TIMER_EXPIRY (R103). -/
  | announceTimerExpiry
  /-- ANNOUNCE_TIMEOUT (R105), for the source table entry of this slot. -/
  | announceTimeout (slot : Slot)
  /-- SYNC_TIMEOUT (R122). -/
  | syncTimeout
  /-- REFERENCE_TIMEOUT (R123). -/
  | referenceTimeout
  /-- HOLDOVER_TIMER_EXPIRY (R121). -/
  | holdoverTimerExpiry
  /-- LATE_TIMER_EXPIRY (R31). -/
  | lateTimerExpiry
  /-- UNDELIVERABLE_TIMER_EXPIRY (R35). -/
  | undeliverableTimerExpiry
  /-- POWER_GOOD_TIMER_EXPIRY (R135). -/
  | powerGoodTimerExpiry
  /-- LISTEN_TIMER_EXPIRY (R138). -/
  | listenTimerExpiry
  /-- DRAIN_TIMER_EXPIRY (R143). -/
  | drainTimerExpiry
  /-- GONE_TIMER_EXPIRY (R144). -/
  | goneTimerExpiry
  /-- NOTICE_TIMER_EXPIRY (R145). -/
  | noticeTimerExpiry
  /-- SUMMARY_INTERVAL_TIMER_EXPIRY (R167). -/
  | summaryIntervalTimerExpiry
  /-- SUMMARY_HOLD_OFF_TIMER_EXPIRY (R168). -/
  | summaryHoldOffTimerExpiry
  /-- LOAD_COMPLETE (R194): what the memory answered. -/
  | loadComplete (memory : MemoryAnswer)
  /-- MESSAGE_COMPLETE (R177): the levels of CPDI at the rising edges of CPCLK, up to and with a message's last bit, or
  fill while the port sends (R175). -/
  | messageComplete (edges : List Bool)
  /-- LINK_FAULT (R177). -/
  | linkFault
  /-- MALFORMED_MESSAGE (R177): kind as received, and the tag of a malformed SEND long enough to hold one. -/
  | malformedMessage (kind : Byte) (tag : Option (BitVec 16))
  /-- SEND (R21). -/
  | send (m : SendRequest)
  /-- RAISE (R157). -/
  | raise (code severity : Byte)
  /-- CLEAR (R157). -/
  | clear (code : Byte)
  /-- ACK (R161). -/
  | ack (origin code : Byte)
  /-- FORGET (R73). -/
  | forget (slot : Byte)
  /-- WITHDRAW (R141). -/
  | withdraw
  /-- REJOIN (R147). -/
  | rejoin
  /-- SET_QUALITY (R101). -/
  | setQuality (quality : Byte)
  /-- LABEL_SECOND (R92). -/
  | labelSecond (seconds : Seconds)
  /-- READ_STATE (R184): the n byte and the clear option as received. -/
  | readState (n : Byte) (clear : Bool)
  /-- READ_TIME (R99), with the interpolator's reading at the moment of reading. -/
  | readTime (k : EdgeDelay) (n : Byte) (clear : Bool)
  /-- READ_PEER (R81). -/
  | readPeer (n : Byte) (clear : Bool)
  /-- READ_SOURCES (R126). -/
  | readSources (n : Byte) (clear : Bool)
  /-- READ_ALARMS (R173). -/
  | readAlarms (n : Byte) (clear : Bool)
  /-- READ_COUNTERS (R185), without the clear option. -/
  | readCounters (n : Byte)
  /-- READ_COUNTERS_CLEAR (R19): READ COUNTERS with the clear option. -/
  | readCountersClear (n : Byte)
  /-- NEXT_EVENT (R187). -/
  | nextEvent
  /-- ARBITER_GRANT (R181). -/
  | arbiterGrant
  /-- REPLY_SENT (R181). -/
  | replySent
  /-- RESULT_TRANSFERRED (R182). -/
  | resultTransferred
  /-- DELIVER_COMPLETE (R56). -/
  | deliverComplete
  deriving DecidableEq, Repr

end Sys2Proof
end

