-- ==== Sys2Proof/Decode.lean ====
section
/-! DEFINITION. The word decoder over spec/opcode_table.json. The part takes commands, not instruction words, and
no row of its table gives a bit of an encoding, so no word spells a command. (The frame and message formats of
spec 11, which do have bytes, are in `Machine/Coding.lean` and `Machine/Operands.lean`.) -/

namespace Sys2Proof

/-- The command an opcode-table word spells: none, since no row of the table gives bits. -/
def decodeTableWord (_nbits _w : Nat) : Option Instr := none

end Sys2Proof
end

