-- ==== Sys2Proof/Config.lean ====
section
/-! DEFINITION. Fixed figures of the part (spec 00, section 7), and the free values: opaque constants that
stand where the spec gives an effect but states no value. Nothing in the model or in a proof can evaluate them. -/

namespace Sys2Proof.Config

/-- Local clock ticks in a millisecond: 125 MHz (spec 00, section 5.2). -/
abbrev ticksPerMs : Nat := 125000
/-- Local clock ticks in a second. -/
abbrev ticksPerSecond : Nat := 125000000
/-- Local clock ticks in a microsecond. -/
abbrev ticksPerUs : Nat := 125

/-- Bit times on the pair in one local tick: 250 Mbit/s against 125 MHz (spec 00). -/
abbrev bitsPerTick : Nat := 2

/-- Half bit times on the pair in one local tick. -/
abbrev halvesPerTick : Nat := 2 * bitsPerTick

/-- `n` milliseconds in ticks. -/
abbrev ms (n : Nat) : Nat := ticksPerMs * n

/-- Fraction units in one nanosecond (spec 00, section 5.2). -/
abbrev unitsPerNs : Nat := 65536
/-- Nanoseconds in one second. -/
abbrev nsPerSecond : Nat := 1000000000
/-- M, the length of the whole wrap of the counter in fraction units (spec 5.1). -/
abbrev timeWrap : Nat := 4294967296 * 1000000000 * 65536
/-- The modulus of short time (R84). -/
abbrev shortWrap : Nat := 4000000000
/-- One tick in fraction units (R86). -/
abbrev tickUnits : Int := 524288
/-- 2^21, the residue's modulus (R86). -/
abbrev residueModulus : Int := 2097152
/-- The sync interval of 62.5 ms in nanoseconds (R109). -/
abbrev syncIntervalNs : Nat := 62500000
/-- 2^27, the limit of rate word and integral (R115). -/
abbrev rateLimit : Int := 134217728
/-- F of a SYNC sample (R113). -/
abbrev syncFactor : Int := 17592
/-- F of a REF sample (R113). -/
abbrev refFactor : Int := 1099

/-- Transmit store units (R23). -/
abbrev storeUnits : Nat := 128
/-- Queued card frames plus untaken results (R23). -/
abbrev queuedLimit : Nat := 80
/-- Receive pool units (R46). -/
abbrev poolUnits : Nat := 192
/-- Largest card payload in bytes (R21). -/
abbrev maxPayload : Nat := 1024
/-- Alarm table entries (R162). -/
abbrev alarmEntries : Nat := 32
/-- Entries a summary lists (R165). -/
abbrev summaryEntries : Nat := 8
/-- Messages the incoming queue and the reply queue hold (R176). -/
abbrev portQueue : Nat := 4
/-- The link limit of the card port in body bytes (R199). -/
abbrev linkLimit : Nat := 1536
/-- The bytes of the start memory the record must lie within (R192). -/
abbrev recordLimit : Nat := 512
/-- Largest peer age in milliseconds (spec 4.1). -/
abbrev ageLimitMs : Nat := 65535

/-- Depth of a card queue (R21). -/
def queueDepth : CardClass → Nat
  | .control => 16
  | .deadline => 32
  | .bulk => 32

/-- FREE VALUE (log 1). The cabinet size that the range checks of R21 and R73 compare with before the straps
have ever been read: the start loader holds none then (R190). -/
opaque sizeBeforeStraps : CabinetSize

/-- FREE VALUE (log 2). Whether a remaining time that is no whole number of microseconds is reported rounded up
(R199 states the unit and no rounding), for each number of ticks. -/
opaque timerRoundsUp : Nat → Bool

/-- FREE VALUE (log 2). Whether an age that is no whole number of milliseconds is reported rounded up (R81 and R199
state the unit and no rounding), for each number of ticks. -/
opaque ageRoundsUp : Nat → Bool

/-- FREE VALUE (log 3). The withdraw cause taken from a WITHDRAW body whose cause code is not in the table of
spec 11.2. -/
opaque undefinedCause : Byte → WithdrawCause

end Sys2Proof.Config
end

