-- ==== Sys2Proof/Machine/State.lean ====
section
/-! DEFINITION. The state of one VB-C16 station as plain data, block by block (spec 00, section 4), the reasons a
command could stop, and the state after power-on. -/

namespace Sys2Proof.Machine

open Sys2Proof

/-- A full time: seconds, nanoseconds and fraction (spec 5.1). -/
structure FullTime where
  seconds     : Seconds
  nanoseconds : Fin 1000000000
  fraction    : Fin 65536
  deriving DecidableEq, Repr

/-- A conditioned (filtered) level: the level its filter judged last, the conditioned level, and the ticks the filter
still has to count, if it counts (R128, R129, R171, R183, R188). `true` is the named state: seated, latched, good,
asserted. -/
structure Conditioner where
  pin   : Bool
  level : Bool
  count : Timer
  deriving DecidableEq, Repr

/-- A conditioned level whose pin passes a two-stage synchroniser on the local clock (R171, R183, R188): `stage` is the
first stage, and the filter judges the second, which is `pin`. -/
structure Synchronised extends Conditioner where
  stage : Bool
  deriving DecidableEq, Repr

/-- A value for each of the card classes 1..3. -/
structure PerClass (α : Type) where
  control  : α
  deadline : α
  bulk     : α
  deriving DecidableEq, Repr

/-! ### Bus access unit (spec 1) -/

/-- The bus view (spec 1.1). -/
inductive BusView where
  | inactive | settle | claim | frame | window
  deriving DecidableEq, Repr

/-- The two reply patterns (R12). -/
inductive ReplyCode where
  | accept | full
  deriving DecidableEq, Repr

/-- The internal frames, one slot each (spec 2.1). -/
inductive InternalKind where
  | sync | announce | summary | join | withdraw | gone | ready
  deriving DecidableEq, Repr

/-- Where a frame of this station comes from: an internal slot, or the entry in flight of a card queue. -/
inductive TxSource where
  | internal (k : InternalKind)
  | card (c : CardClass)
  deriving DecidableEq, Repr

/-- An own transmission from its start until its outcome is handed over (R7, R10). -/
structure Transmission where
  source    : TxSource
  cls       : Fin 4
  slot      : Slot
  dest      : Dest
  sequence  : Byte
  due       : Option Nat
  body      : List Byte
  claimWord : BitVec 6
  stamp     : FullTime
  /-- Half bit times driven so far (R7). -/
  driven    : Nat := 0
  /-- A level sampled on the pair differed from the one driven: a collision is detected and driving has stopped (R8). -/
  differed  : Bool := false
  /-- The end marker has been sent; the reply window is awaited (unicast DATA only). -/
  complete  : Bool
  deriving DecidableEq, Repr

/-- What is on the pair in FRAME when the station is not sending (R1, R8, R9). -/
inductive Reception where
  /-- A received frame, with its receive stamp (R16). -/
  | marker (stamp : FullTime)
  /-- An activity that did not begin with a start marker (R14). -/
  | stray
  /-- The rest of an own frame that was cut (R9), not yet judged. -/
  | ownCut
  /-- The rest of an own frame that collided, already judged (R8). -/
  | ownCollided
  deriving DecidableEq, Repr

/-- The reply the receive pool decided for the frame just heard, whether it is being driven, and the bit times its
pattern still lasts then (R12, R197). -/
structure ReplyDrive where
  code    : ReplyCode
  driving : Bool
  left    : Nat := 0
  deriving DecidableEq, Repr

/-- Bus access unit (R2). -/
@[ext] structure Bau where
  view         : BusView
  position     : Fin 64
  /-- MODEL: the settle gap has completed and position 0 has not begun yet (log 12). -/
  positionNew  : Bool
  pointer      : Slot
  collisions   : Nat
  tickCount    : BitVec 6
  tx           : Option Transmission
  rx           : Option Reception
  reply        : Option ReplyDrive
  deriving DecidableEq, Repr

/-! ### Transmit scheduler (spec 2) -/

/-- The result codes of R43, in code order. -/
inductive ResultCode where
  | sent | undeliverable | late | peerLeft | timeLost | withdrawn
  deriving DecidableEq, Repr

/-- A card queue entry (spec 2.1). Its class is the queue it stands in; its store units follow from its payload. -/
@[ext] structure QueueEntry where
  tag      : BitVec 16
  dest     : Dest
  payload  : List Byte
  sequence : Option Byte
  due      : Option Nat
  release  : Option Strobe
  released : Bool
  attempts : Nat
  inFlight : Bool
  mark     : Option ResultCode
  /-- Its frame was on the pair at a card reset (R36). -/
  orphan   : Bool
  deriving DecidableEq, Repr

/-- The states of an internal slot (R25). -/
inductive SlotState where
  | empty | pending | inFlight | inFlightPending
  deriving DecidableEq, Repr

/-- The seven internal slots and the two parameters fixed at a request (R25). -/
@[ext] structure Slots where
  sync          : SlotState
  announce      : SlotState
  summary       : SlotState
  join          : SlotState
  withdraw      : SlotState
  gone          : SlotState
  ready         : SlotState
  withdrawCause : WithdrawCause
  goneForced    : Bool
  deriving DecidableEq, Repr

/-- Transmit scheduler (R20). -/
@[ext] structure Txs where
  queues             : PerClass (List QueueEntry)
  storeFree          : Nat
  slots              : Slots
  nextSeq            : Vector (PerClass Byte) 16
  lateTimer          : Timer
  undeliverableTimer : Timer
  /-- MODEL: drained has been reported since DRAINING was entered (R42). -/
  drainedReported    : Bool
  deriving DecidableEq, Repr

/-! ### Receive pool (spec 3) -/

/-- A stored frame (spec 3.1). -/
structure StoredFrame where
  source     : Slot
  cls        : CardClass
  dest       : Dest
  payload    : List Byte
  late       : Bool
  inTransfer : Bool
  deriving DecidableEq, Repr

/-- Receive pool (R46). -/
@[ext] structure Rxp where
  frames           : List StoredFrame
  free             : Nat
  /-- The refused set, in ascending order. -/
  refused          : List Slot
  readyOutstanding : Bool
  readyLevel       : Nat
  /-- Bit n for group n, 1..15; bit 0 stays clear. -/
  groups           : BitVec 16
  deriving DecidableEq, Repr

/-! ### Alarm types (spec 8), which the peer table's stored summaries share -/

/-- Alarm severities, lowest first (spec 00, section 5.6). -/
inductive Severity where
  | warning | minor | major | critical
  deriving DecidableEq, Repr

/-- The states of an alarm entry (spec 8). -/
inductive AlarmState where
  | active | acked | cleared
  deriving DecidableEq, Repr

/-- An alarm key: origin and code (spec 8.4). Internal codes are counted from 0 here, from 1 in the spec. -/
inductive AlarmKey where
  | input (n : Fin 8)
  | card (n : Fin 32)
  | timing (n : Fin 5)
  | traffic (n : Fin 4)
  | seating (n : Fin 5)
  | start
  deriving DecidableEq, Repr

/-- An entry of a summary's list, with origin and code as carried (R79, R165). -/
structure SummaryEntry where
  origin   : Byte
  code     : Byte
  severity : Option Severity
  state    : AlarmState
  deriving DecidableEq, Repr

/-- A summary: the current one (R165) or one stored from a peer (R79). -/
structure Summary where
  critical : Nat
  major    : Nat
  minor    : Nat
  warning  : Nat
  highest  : Option Severity
  overflow : Bool
  entries  : List SummaryEntry
  deriving DecidableEq, Repr

/-! ### Peer table (spec 4) -/

/-- Peer states (spec 4.3). -/
inductive PeerState where
  | absent | present | draining | gone | lost
  deriving DecidableEq, Repr

/-- The body of the last JOIN heard and the size mismatch flag (R69). -/
structure JoinRecord where
  capable  : Bool
  size     : Byte
  mismatch : Bool
  deriving DecidableEq, Repr

/-- A peer entry (spec 4.1). Its source record is the source table's entry for the slot. -/
@[ext] structure PeerEntry where
  state         : PeerState
  /-- Ticks since the last good frame from the slot, saturating at 65,535 ms. -/
  age           : Option Nat
  blocked       : Bool
  blockedTimer  : Timer
  /-- Last accepted sequence of each class; `none` is unknown. -/
  sequence      : PerClass (Option Byte)
  join          : Option JoinRecord
  withdrawCause : Option WithdrawCause
  goneForced    : Option Bool
  summary       : Option Summary
  frames        : Counter
  gaps          : Counter
  duplicates    : Counter
  deriving DecidableEq, Repr

/-! ### Time unit and servo (spec 5, spec 6) -/

/-- Servo states (spec 6.7). -/
inductive Servo where
  | free | acquire | locked | holdover
  deriving DecidableEq, Repr

/-- The kind of a sample (R100). -/
inductive SampleKind where
  | sync | ref
  deriving DecidableEq, Repr

/-- The servo settings (R114). -/
structure ServoSettings where
  kp            : Nat
  ki            : Nat
  stepThreshold : Nat
  lockThreshold : Nat
  holdoverLimit : Nat
  linkLatency   : Nat
  pitchDelay    : Nat
  deriving DecidableEq, Repr

/-- Settings of a strobe generator (R95). -/
structure StrobeSettings where
  period : Fin 8
  offset : Nat
  width  : Nat
  deriving DecidableEq, Repr

/-- A strobe generator: settings, output, and the ticks the running pulse has left (R96). -/
structure StrobeGen where
  settings : StrobeSettings
  output   : Bool
  left     : Nat
  deriving DecidableEq, Repr

/-- Time unit with the servo (R85, R100). -/
@[ext] structure Tmu where
  time           : FullTime
  rate           : Int
  residue        : Nat
  integral       : Int
  servo          : Servo
  everLocked     : Bool
  lockCount      : Nat
  outlierCount   : Nat
  rateLimitCount : Nat
  holdoverTimer  : Timer
  lastError      : Option (Int × SampleKind)
  settings       : ServoSettings
  label          : Option Seconds
  lastRef        : Option FullTime
  sta            : StrobeGen
  stb            : StrobeGen
  gateOpen       : Bool
  deriving DecidableEq, Repr

/-! ### Source selector (spec 6) -/

/-- The role (R106). -/
inductive Role where
  | follower | source
  deriving DecidableEq, Repr

/-- A source table entry; the announce age is counted in ticks and absent in the own entry (R102, R104). -/
structure SourceEntry where
  slot     : Slot
  quality  : Fin 4
  priority : Byte
  age      : Option Nat
  deriving DecidableEq, Repr

/-- Source selector (R100). -/
@[ext] structure Src where
  quality       : Fin 4
  priority      : Byte
  capable       : Bool
  table         : List SourceEntry
  selection     : Option Slot
  role          : Role
  announceTimer : Timer
  syncTimeout   : Timer
  refTimeout    : Timer
  refSeen       : Bool
  /-- MODEL: the condition of T1 (JOINED with no selection) as last judged (R108). -/
  sourceLost    : Bool
  deriving DecidableEq, Repr

/-! ### Seating controller (spec 7) -/

/-- The thirteen seating states (spec 7.1). -/
inductive Seating where
  | unseated | seated | powering | config | listening | joining | joined
  | draining | forced | withdrawn | isolated | conflict | powerFault
  deriving DecidableEq, Repr

/-- Force causes (R127). -/
inductive ForceCause where
  | drain | power
  deriving DecidableEq, Repr

/-- Conflict causes (R127). -/
inductive ConflictCause where
  | ownSlotHeard | slotHeardWhileListening | suspectedDuplicateSlot
  deriving DecidableEq, Repr

/-- Seating controller (R127) with its outputs (R132). -/
@[ext] structure Sec where
  state          : Seating
  withdrawCause  : Option WithdrawCause
  forceCause     : Option ForceCause
  conflictCause  : Option ConflictCause
  recordLoaded   : Bool
  slotHeard      : Bool
  ejectorOpened  : Bool
  powerGoodTimer : Timer
  listenTimer    : Timer
  drainTimer     : Timer
  goneTimer      : Timer
  noticeTimer    : Timer
  seat           : Conditioner
  eject          : Conditioner
  pgood          : Conditioner
  pwren          : Bool
  drven          : Bool
  rmvok          : Bool
  deriving DecidableEq, Repr

/-! ### Alarm unit (spec 8) -/

/-- Settings of an alarm input (R154). -/
structure InputSettings where
  masked     : Bool
  activeHigh : Bool
  latched    : Bool
  severity   : Severity
  debounceMs : Nat
  deriving DecidableEq, Repr

/-- An alarm input's conditioner: the two stages of its synchroniser, the second of which is the synchronised level,
conditioned level (asserted), debounce count, cause flag, settings (R153, R154). -/
@[ext] structure AlarmInput where
  stage    : Bool
  pinHigh  : Bool
  asserted : Bool
  count    : Timer
  cause    : Bool
  settings : InputSettings
  deriving DecidableEq, Repr

/-- An alarm table entry (spec 8.5). -/
structure AlarmEntry where
  key        : AlarmKey
  severity   : Severity
  state      : AlarmState
  raises     : Nat
  firstRaise : Seconds
  lastChange : Seconds
  deriving DecidableEq, Repr

/-- Alarm unit (R152). -/
@[ext] structure Alu where
  inputs        : Vector AlarmInput 8
  /-- Oldest first raise first. -/
  table         : List AlarmEntry
  /-- Keys holding a suppression mark, in catalogue order. -/
  suppressed    : List AlarmKey
  overflow      : Bool
  summary       : Summary
  intervalTimer : Timer
  holdOffTimer  : Timer
  alertDrive    : Bool
  alert         : Synchronised
  collector     : Bool
  crit          : Bool
  maj           : Bool
  deriving DecidableEq, Repr

/-! ### Start loader (spec 10) -/

/-- Lines an event may be mapped to (R176). -/
inductive NoticeLine where
  | urgent | attention | off
  deriving DecidableEq, Repr

/-- The values accepted from a start record, item by item (R193): the working image of a load, and the image kept
after it. An absent item stands for its default. -/
structure RecordImage where
  priority      : Option Byte
  quality       : Option (Fin 4)
  override      : Option Bool
  groups        : Option (BitVec 16)
  kp            : Option Nat
  ki            : Option Nat
  stepThreshold : Option Nat
  lockThreshold : Option Nat
  holdoverLimit : Option Nat
  linkLatency   : Option Nat
  pitchDelay    : Option Nat
  readyLevel    : Option Nat
  sta           : Option StrobeSettings
  stb           : Option StrobeSettings
  inputs        : Vector (Option InputSettings) 8
  eventMap      : Option (Vector NoticeLine 10)
  deriving DecidableEq, Repr

/-- Start loader: the two stages of the straps' synchroniser, the straps held, the working image while a load runs, and
the image kept (R190, R193, R194). -/
@[ext] structure Stl where
  stage        : Straps
  /-- The second stage, which is what a sampling takes. -/
  synchronised : Straps
  straps       : Option Straps
  load         : Option RecordImage
  image        : Option RecordImage
  deriving DecidableEq, Repr

/-! ### Card port (spec 9) -/

/-- The ten events, highest priority first (spec 9.5). -/
inductive EventKind where
  | seatingFault | powerDownNotice | alertLineChange | seatingStateChange | alarmTableChange
  | timeStateChange | sourceChange | peerChange | counterSaturated | referenceLabelUsed
  deriving DecidableEq, Repr

/-- The items of READ (R199). -/
inductive ReadItem where
  | state | time | peer | sources | alarms | counters
  deriving DecidableEq, Repr

/-- A card message as taken from the link (R177, R199). -/
inductive Message where
  | send (m : SendRequest)
  | raise (code severity : Byte)
  | clear (code : Byte)
  | ack (origin code : Byte)
  | forget (slot : Byte)
  | withdraw
  | rejoin
  | setQuality (quality : Byte)
  | labelSecond (seconds : Seconds)
  | read (item : ReadItem) (n : Byte) (clear : Bool)
  | nextEvent
  | malformed (kind : Byte) (tag : Option (BitVec 16))
  deriving DecidableEq, Repr

/-- Refusal codes, in code order (spec 11.3). -/
inductive RefusalCode where
  | wrongState | badRequest | notJoined | noPeer | timeNotValid | pastDue | queueFull
  deriving DecidableEq, Repr

/-- A REPLY message (R180, R184, R187). -/
inductive Reply where
  | refusal (code : RefusalCode) (kind : Byte) (tag : Option (BitVec 16))
  | item (item : ReadItem) (n : Byte) (fields : List Byte)
  | event (number pending : Nat)
  deriving DecidableEq, Repr

/-- An entry of the results list (R43). -/
structure ResultEntry where
  tag      : BitVec 16
  code     : ResultCode
  attempts : Nat
  deriving DecidableEq, Repr

/-- The message in the output buffer (R181, R182). -/
inductive OutMessage where
  | reply (r : Reply)
  | result (r : ResultEntry)
  | deliver (f : StoredFrame)
  deriving DecidableEq, Repr

/-- What the outgoing direction sends: the message in the output buffer and how many of its bits have gone out (R175,
R181). -/
structure Outgoing where
  message : OutMessage
  sent    : Nat := 0
  deriving DecidableEq, Repr

/-- The parser (R177): what it waits for, with the bytes of the message being received. -/
inductive Parser where
  | hunt
  | header (got : List Byte)
  | body (kind : Byte) (left : Nat) (got : List Byte)
  | skip (kind : Byte) (left : Nat) (got : List Byte)
  deriving DecidableEq, Repr

/-- Card port (R176). -/
@[ext] structure Cpt where
  /-- The bits of the byte being received, first received first, fewer than eight (R199). -/
  bits      : List Bool
  parser    : Parser
  incoming  : List Message
  replies   : List Reply
  /-- `none` is idle: fill bytes. -/
  outgoing  : Option Outgoing
  results   : List ResultEntry
  /-- The pending event set, by priority. -/
  events    : List EventKind
  eventMap  : Vector NoticeLine 10
  urgent    : Bool
  attention : Bool
  hold      : Synchronised
  /-- CRST, asserted while the card reset is held (R188). -/
  crst      : Synchronised
  deriving DecidableEq, Repr

/-- Every counter of the COUNTERS item, in the order R185 lists them. -/
inductive CounterId where
  | framesHeard | framesSent | ownCollisions | collisionsSeen | codeFaults | checkFaults | foreignSlot
  | framesCut | repliesSent | noReply | replyFaults
  | sent | late | undeliverable | peerLeft | fullReplies | refusedSends
  | framesStored | framesDelivered | duplicates | gapFrames | fullSent | groupDrops | lateArrivals | notReceiving
  | ownSlotFrames | peersLost | impliedJoins
  | announcesSent | syncsSent | syncsIgnored | samples | steps | outliers | syncTimeouts | refTimeouts
  | raisesDropped | evictions | summariesSent
  | linkFaults | overruns
  deriving DecidableEq, Repr

/-- One station: its ten blocks, its counters, the levels at its conditioned pins, and what waits outside: pin levels and
commands. -/
@[ext]
structure State where
  bau       : Bau
  txs       : Txs
  rxp       : Rxp
  ptb       : Vector PeerEntry 16
  tmu       : Tmu
  src       : Src
  sec       : Sec
  alu       : Alu
  cpt       : Cpt
  stl       : Stl
  counters  : Vector Counter 41
  /-- The levels standing at the conditioned pins, as sampled last. -/
  pins      : PinLevels
  /-- MODEL: the levels the outside presents at the ticks to come, one a tick; without any the levels stay (log 30). -/
  pinsAhead : List PinLevels
  /-- Commands waiting, first in, first out. -/
  pending   : List Instr
  deriving DecidableEq, Repr

/-- Reasons a command stops the part: none. The spec gives every command of the table an effect, and an event
that cannot occur in the present state leaves it as it is (log 4). -/
inductive Fault : Type where
  deriving DecidableEq, Repr

/-- Reasons a command has no meaning. -/
inductive Refusal : Type where
  /-- The command of this mnemonic has no meaning yet; raised by an arm of `exec` only. Safe. No arm raises it. -/
  | notModelled (mnemonic : String)
  deriving DecidableEq, Repr

/-! ### Power-on values -/

/-- The zero of cabinet time (R85). -/
def FullTime.zero : FullTime := { seconds := 0, nanoseconds := 0, fraction := 0 }

/-- A conditioned level at power-on: the level given, counting its filter when the pin stands at the other. -/
def Conditioner.powerOn (pin level : Bool) (filterTicks : Nat) : Conditioner :=
  { pin := pin, level := level, count := if pin = level then none else some filterTicks }

/-- A synchronised level at power-on, both stages at the level of the pin. -/
def Synchronised.powerOn (pin level : Bool) (filterTicks : Nat) : Synchronised :=
  { toConditioner := .powerOn pin level filterTicks, stage := pin }

/-- A peer entry after a clear (R64). -/
def PeerEntry.cleared : PeerEntry :=
  { state := .absent, age := none, blocked := false, blockedTimer := none,
    sequence := { control := none, deadline := none, bulk := none },
    join := none, withdrawCause := none, goneForced := none, summary := none,
    frames := 0, gaps := 0, duplicates := 0 }

/-- The input settings at power-on (R154). -/
def InputSettings.default : InputSettings :=
  { masked := false, activeHigh := false, latched := false, severity := .minor, debounceMs := 20 }

/-- The servo settings at power-on (R114). -/
def ServoSettings.default : ServoSettings :=
  { kp := 1, ki := 4, stepThreshold := 500, lockThreshold := 100, holdoverLimit := 600,
    linkLatency := 24, pitchDelay := 500 }

/-- STA's settings at power-on (R95). -/
def StrobeSettings.staDefault : StrobeSettings := { period := 2, offset := 0, width := 125 }
/-- STB's settings at power-on (R95). -/
def StrobeSettings.stbDefault : StrobeSettings := { period := 0, offset := 0, width := 125 }

/-- The event map at power-on (R176). -/
def defaultEventMap : Vector NoticeLine 10 :=
  #v[.urgent, .urgent, .urgent, .attention, .attention, .attention, .attention, .attention, .attention, .attention]

/-- The empty summary (R152). -/
def Summary.empty : Summary :=
  { critical := 0, major := 0, minor := 0, warning := 0, highest := none, overflow := false, entries := [] }

/-- All internal slots empty (R20); the parameters of an empty slot are never read (log 6). -/
def Slots.allEmpty : Slots :=
  { sync := .empty, announce := .empty, summary := .empty, join := .empty, withdraw := .empty,
    gone := .empty, ready := .empty, withdrawCause := .ejector, goneForced := false }

/-- An alarm input at power-on with its pin at this level (R152, R153). -/
def AlarmInput.powerOn (high : Bool) : AlarmInput :=
  { stage := high, pinHigh := high, asserted := false, count := if high then none else some (Config.ms 20),
    cause := false, settings := .default }

/-- The state right after the auxiliary rail comes up with the pins at `p` (R2, R20, R46, R64, R85, R100, R127,
R152, R176, R190). -/
def State.powerOn (p : PinLevels) : State :=
  { bau := { view := .inactive, position := 0, positionNew := false, pointer := 0, collisions := 0,
             tickCount := 0, tx := none, rx := none, reply := none }
    txs := { queues := { control := [], deadline := [], bulk := [] }, storeFree := 128, slots := .allEmpty,
             nextSeq := Vector.replicate 16 { control := 0, deadline := 0, bulk := 0 },
             lateTimer := none, undeliverableTimer := none, drainedReported := false }
    rxp := { frames := [], free := 192, refused := [], readyOutstanding := false, readyLevel := 48, groups := 0 }
    ptb := Vector.replicate 16 .cleared
    tmu := { time := .zero, rate := 0, residue := 0, integral := 0, servo := .free, everLocked := false,
             lockCount := 0, outlierCount := 0, rateLimitCount := 0, holdoverTimer := none, lastError := none,
             settings := .default, label := none, lastRef := none,
             sta := { settings := .staDefault, output := false, left := 0 },
             stb := { settings := .stbDefault, output := false, left := 0 }, gateOpen := false }
    src := { quality := 2, priority := 128, capable := false, table := [], selection := none, role := .follower,
             announceTimer := none, syncTimeout := none, refTimeout := none, refSeen := false, sourceLost := false }
    sec := { state := .unseated, withdrawCause := none, forceCause := none, conflictCause := none,
             recordLoaded := false, slotHeard := false, ejectorOpened := false, powerGoodTimer := none,
             listenTimer := none, drainTimer := none, goneTimer := none, noticeTimer := none,
             seat := .powerOn p.seated false (Config.ms 20), eject := .powerOn p.latched false (Config.ms 20),
             pgood := .powerOn p.powerGood false (Config.ms 1), pwren := false, drven := false, rmvok := false }
    alu := { inputs := #v[.powerOn (p.inputsHigh.getLsbD 0), .powerOn (p.inputsHigh.getLsbD 1),
                          .powerOn (p.inputsHigh.getLsbD 2), .powerOn (p.inputsHigh.getLsbD 3),
                          .powerOn (p.inputsHigh.getLsbD 4), .powerOn (p.inputsHigh.getLsbD 5),
                          .powerOn (p.inputsHigh.getLsbD 6), .powerOn (p.inputsHigh.getLsbD 7)],
             table := [], suppressed := [], overflow := false, summary := .empty, intervalTimer := none,
             holdOffTimer := none, alertDrive := false, alert := .powerOn p.alertPulled false (Config.ms 1),
             collector := false, crit := false, maj := false }
    cpt := { bits := [], parser := .hunt, incoming := [], replies := [], outgoing := none, results := [], events := [],
             eventMap := defaultEventMap, urgent := false, attention := false,
             hold := .powerOn p.holdAsserted false Config.ticksPerUs,
             crst := .powerOn p.resetHeld false Config.ticksPerUs }
    stl := { stage := p.straps, synchronised := p.straps, straps := none, load := none, image := none }
    counters := Vector.replicate 41 0
    pins := p
    pinsAhead := []
    pending := [] }

/-- The pin levels that `State.reset` takes: card out, ejector open, card power not good, every alarm input
high, alert line, HOLD and CRST released (log 5). -/
def restPins : PinLevels :=
  { seated := false, latched := false, powerGood := false, inputsHigh := 0xFF, alertPulled := false,
    holdAsserted := false, resetHeld := false }

/-- The station right after power-on. -/
def State.reset : State := State.powerOn restPins

end Sys2Proof.Machine
end

