-- ==== Sys2Proof/Machine/Coding.lean ====
section
/-! DEFINITION. Byte order, the check of R198, and the codes that frames and messages share (spec 11). -/

namespace Sys2Proof

namespace Machine

/-- The low `n` bytes of a number, most significant first (spec 11). -/
def beBytes : Nat → Nat → List Byte
  | 0, _ => []
  | n + 1, v => BitVec.ofNat 8 (v / 256 ^ n) :: beBytes n v

/-- A signed number in `n` bytes of two's complement, most significant first (spec 11). -/
def intBytes (n : Nat) (v : Int) : List Byte := beBytes n (v % (256 ^ n : Nat)).toNat

/-- The number that bytes stand for, most significant first (spec 11). -/
def beNat (bs : List Byte) : Nat := bs.foldl (fun acc b => 256 * acc + b.toNat) 0

/-- Byte `i` of a body; a byte the body lacks is read as 0 (R198). -/
def byteAt (bs : List Byte) (i : Nat) : Byte := bs.getD i 0

/-- The `n`-byte number at offset `i` of a body, lacking bytes read as 0 (R198). -/
def numAt (bs : List Byte) (i n : Nat) : Nat := beNat ((bs.drop i ++ List.replicate n 0).take n)

/-- The bits of a byte in the order sent, most significant first (spec 11). -/
def byteBits (b : Byte) : List Bool := [7, 6, 5, 4, 3, 2, 1, 0].map b.getLsbD

/-- The bits of bytes in the order sent (spec 11). -/
def bitsOf (bs : List Byte) : List Bool := bs.flatMap byteBits

/-- The number that bits stand for, most significant first. -/
def natOfBits (bits : List Bool) : Nat := bits.foldl (fun n b => 2 * n + b.toNat) 0

/-- The whole bytes that received bits make up, eight to a byte (spec 11, R199). -/
def bytesOf : List Bool → List Byte
  | a :: b :: c :: d :: e :: f :: g :: h :: more => BitVec.ofNat 8 (natOfBits [a, b, c, d, e, f, g, h]) :: bytesOf more
  | _ => []

/-- The bits of a byte not yet complete (R199). -/
def bitsLeft (bits : List Bool) : List Bool := bits.drop (8 * (bits.length / 8))

/-- One bit taken by the check register (R198). -/
def crcBit (r : BitVec 32) (bit : Bool) : BitVec 32 :=
  if r.msb != bit then (r <<< 1) ^^^ 0x04C11DB7#32 else r <<< 1

/-- One byte taken by the check register, most significant bit first (R198). -/
def crcByte (r : BitVec 32) (b : Byte) : BitVec 32 :=
  [7, 6, 5, 4, 3, 2, 1, 0].foldl (fun r i => crcBit r (b.getLsbD i)) r

/-- The check over header and body bytes (R198). -/
def crc32 (bs : List Byte) : BitVec 32 := ~~~ (bs.foldl crcByte 0xFFFFFFFF#32)

/-- The check as its four bytes, most significant first (R198). -/
def crcBytes (bs : List Byte) : List Byte := beBytes 4 (crc32 bs).toNat

/-- A flag as a byte of a READ item: 1 or 0 (R199). -/
def flagByte (b : Bool) : Byte := if b then 1 else 0

/-- Severity codes (spec 11.2). -/
def Severity.code : Severity → Nat
  | .warning => 1 | .minor => 2 | .major => 3 | .critical => 4

/-- The severity of a code; a code outside the table is read as none (R198). -/
def severityOf (b : Byte) : Option Severity :=
  match b.toNat with
  | 1 => some .warning | 2 => some .minor | 3 => some .major | 4 => some .critical | _ => none

/-- The byte of a severity, 0 for none (spec 11.2). -/
def severityByte (s : Option Severity) : Byte :=
  match s with
  | none => 0
  | some v => BitVec.ofNat 8 v.code

/-- Severity order: critical > major > minor > warning (spec 00, section 5.6). -/
def Severity.below (a b : Severity) : Bool := decide (a.code < b.code)

/-- The higher of two severities, none being below warning (spec 00, section 5.6). -/
def higher (a b : Option Severity) : Option Severity :=
  match a, b with
  | none, b => b
  | a, none => a
  | some x, some y => if x.below y then some y else some x

/-- Entry state codes (spec 11.2). -/
def AlarmState.code : AlarmState → Byte
  | .active => 1 | .acked => 2 | .cleared => 3

/-- The entry state of a code; a code outside the table is read as ACTIVE (R198). -/
def alarmStateOf (b : Byte) : AlarmState :=
  match b.toNat with
  | 2 => .acked | 3 => .cleared | _ => .active

/-- Origin codes (spec 11.2). -/
def AlarmKey.origin : AlarmKey → Byte
  | .input _ => 1 | .card _ => 2 | .timing _ => 3 | .traffic _ => 4 | .seating _ => 5 | .start => 6

/-- Alarm codes: inputs and card codes from 0, internal ones from 1 (spec 11.2). -/
def AlarmKey.code : AlarmKey → Byte
  | .input n => BitVec.ofNat 8 n.val
  | .card n => BitVec.ofNat 8 n.val
  | .timing n => BitVec.ofNat 8 (n.val + 1)
  | .traffic n => BitVec.ofNat 8 (n.val + 1)
  | .seating n => BitVec.ofNat 8 (n.val + 1)
  | .start => 1

/-- The 55 keys of the catalogue, in its order (spec 8.1). -/
def alarmCatalogue : List AlarmKey :=
  (List.range 8).map (fun i => AlarmKey.input (Fin.ofNat 8 i))
    ++ (List.range 32).map (fun i => AlarmKey.card (Fin.ofNat 32 i))
    ++ (List.range 5).map (fun i => AlarmKey.timing (Fin.ofNat 5 i))
    ++ (List.range 4).map (fun i => AlarmKey.traffic (Fin.ofNat 4 i))
    ++ (List.range 5).map (fun i => AlarmKey.seating (Fin.ofNat 5 i))
    ++ [.start]

/-- The key an ACK names, if its origin and code are in the catalogue (R161). -/
def alarmKeyOf (origin code : Byte) : Option AlarmKey :=
  alarmCatalogue.find? (fun k => k.origin == origin && k.code == code)

end Machine

/-- Withdraw cause codes (spec 11.2). -/
def WithdrawCause.byte : WithdrawCause → Byte
  | .ejector => 1 | .card => 2

namespace Machine

/-- The cause of a WITHDRAW body; of a code outside the table, a free value (log 3). -/
def withdrawCauseOf (b : Byte) : WithdrawCause :=
  match b.toNat with
  | 1 => .ejector
  | 2 => .card
  | _ => Config.undefinedCause b

/-- Result codes (spec 11.3). -/
def ResultCode.byte : ResultCode → Byte
  | .sent => 1 | .undeliverable => 2 | .late => 3 | .peerLeft => 4 | .timeLost => 5 | .withdrawn => 6

/-- Refusal codes (spec 11.3). -/
def RefusalCode.byte : RefusalCode → Byte
  | .wrongState => 1 | .badRequest => 2 | .notJoined => 3 | .noPeer => 4 | .timeNotValid => 5
  | .pastDue => 6 | .queueFull => 7

/-- Item codes of READ (R199). -/
def ReadItem.byte : ReadItem → Byte
  | .state => 1 | .time => 2 | .peer => 3 | .sources => 4 | .alarms => 5 | .counters => 6

/-- The item of a READ code (R199). -/
def readItemOf (b : Byte) : Option ReadItem :=
  match b.toNat with
  | 1 => some .state | 2 => some .time | 3 => some .peer | 4 => some .sources | 5 => some .alarms
  | 6 => some .counters | _ => none

end Machine

/-- The number of slots of a cabinet (spec 00, section 5.4). -/
def CabinetSize.slots : CabinetSize → Nat
  | .eight => 8 | .sixteen => 16

/-- The number of a card class. -/
def CardClass.number : CardClass → Nat
  | .control => 1 | .deadline => 2 | .bulk => 3

namespace Machine

/-- The card class of a number; 0 is no card class (R21). -/
def cardClassOf (n : Nat) : Option CardClass :=
  match n with
  | 1 => some .control | 2 => some .deadline | 3 => some .bulk | _ => none

/-- Store units of a frame of payload length `n`: ceil((n + 32) / 256) (R22). -/
def unitsFor (n : Nat) : Nat := (n + 32 + 255) / 256

/-- Number of an event, 1 the highest priority (spec 9.5). -/
def EventKind.number : EventKind → Nat
  | .seatingFault => 1 | .powerDownNotice => 2 | .alertLineChange => 3 | .seatingStateChange => 4
  | .alarmTableChange => 5 | .timeStateChange => 6 | .sourceChange => 7 | .peerChange => 8
  | .counterSaturated => 9 | .referenceLabelUsed => 10

/-- The ten events by priority (spec 9.5). -/
def eventCatalogue : List EventKind :=
  [.seatingFault, .powerDownNotice, .alertLineChange, .seatingStateChange, .alarmTableChange,
   .timeStateChange, .sourceChange, .peerChange, .counterSaturated, .referenceLabelUsed]

/-- The sixteen slot codes, ascending. -/
def allSlots : List Slot := [0, 1, 2, 3, 4, 5, 6, 7, 8, 9, 10, 11, 12, 13, 14, 15]

/-- A set of slots with one added, kept ascending. -/
def insertSlot (x : Slot) (l : List Slot) : List Slot := allSlots.filter (fun y => y == x || l.contains y)

end Machine

end Sys2Proof
end

