-- ==== Sys2Proof/Machine/Flags.lean ====
section
/-! DEFINITION. The levels and conditions that other blocks read: own slot and cabinet size, output pins of each
seating state, notice lines, time validity, candidacy, peer view, the current summary and the relays. -/

namespace Sys2Proof.Machine

open Sys2Proof

/-! ### Straps (R190, R191) -/

/-- The slot code is valid: odd parity over five bits, and below the cabinet size (R191). -/
def strapsValid (t : Straps) : Bool :=
  let ones := ([0, 1, 2, 3].filter (fun i => t.slot.getLsbD i)).length + (if t.parity then 1 else 0)
  ones % 2 == 1 && decide (t.slot.toNat < t.size.slots)

/-- The own slot, if the straps held give a valid one (R190, R191). -/
def State.ownSlot (s : State) : Option Slot :=
  match s.stl.straps with
  | some t => if strapsValid t then some (Fin.ofNat 16 t.slot.toNat) else none
  | none => none

/-- The cabinet size N in force (R1, R190). -/
def State.cabinet (s : State) : Nat :=
  match s.stl.straps with
  | some t => t.size.slots
  | none => Config.sizeBeforeStraps.slots

/-- The effective source-capable flag: item 3 of the image, else the strap (R190). -/
def effectiveCapable (straps : Option Straps) (image : Option RecordImage) : Bool :=
  match image.bind RecordImage.override with
  | some b => b
  | none => (straps.map Straps.sourceCapable).getD false

/-! ### Outputs of the seating controller (R130, R132) -/

/-- DRVEN in a seating state (R130). -/
def drvenIn : Seating → Bool
  | .joining | .joined | .draining | .forced => true
  | .unseated | .seated | .powering | .config | .listening | .withdrawn | .isolated | .conflict | .powerFault => false

/-- RMVOK in a seating state (R132). -/
def rmvokIn : Seating → Bool
  | .seated | .withdrawn | .isolated | .conflict | .powerFault => true
  | .unseated | .powering | .config | .listening | .joining | .joined | .draining | .forced => false

/-- The states in which the station replies, takes frames and sends summaries (R12, R48, R167). -/
def takesPart : Seating → Bool
  | .joining | .joined | .draining => true
  | .unseated | .seated | .powering | .config | .listening | .forced | .withdrawn | .isolated | .conflict
  | .powerFault => false

/-! ### Notice lines (R186) -/

/-- The line an event is mapped to (R186). -/
def lineOf (map : Vector NoticeLine 10) (e : EventKind) : NoticeLine := map.toList.getD (e.number - 1) .off

/-- Whether a notice line is asserted by a pending set under a map (R186). -/
def lineAsserted (map : Vector NoticeLine 10) (events : List EventKind) (line : NoticeLine) : Bool :=
  events.any (fun e => decide (lineOf map e = line))

/-! ### Time validity (R94) -/

/-- Validity of a servo state in a role (R94). -/
def validIn (servo : Servo) (role : Role) : Bool :=
  match servo with
  | .locked | .holdover => true
  | .free => decide (role = .source)
  | .acquire => false

/-- Time is valid (R94). -/
def State.timeValid (s : State) : Bool := validIn s.tmu.servo s.src.role

/-! ### Candidacy (R102) -/

/-- The three conditions of R102. -/
def State.candidate (s : State) : Bool :=
  decide (s.sec.state = .joined) && s.src.capable && decide (s.src.quality.val ≤ 2)

/-! ### Peer view (R80) -/

/-- How many entries are in a state. -/
def countPeers (ptb : Vector PeerEntry 16) (st : PeerState) : Nat :=
  (ptb.toList.filter (fun e => decide (e.state = st))).length

/-- The highest of the highest severities in the stored summaries (R80). -/
def highestStored (ptb : Vector PeerEntry 16) : Option Severity :=
  ptb.toList.foldl (fun acc e => higher acc (e.summary.bind Summary.highest)) none

/-! ### The current summary (R165) -/

/-- An entry whose cause is present: ACTIVE or ACKED. -/
def AlarmEntry.live (e : AlarmEntry) : Bool := decide (e.state ≠ .cleared)

/-- The ACTIVE and ACKED entries of a severity. -/
def countLive (table : List AlarmEntry) (v : Severity) : Nat :=
  (table.filter (fun e => e.live && decide (e.severity = v))).length

/-- An alarm entry as a summary lists it. -/
def AlarmEntry.listed (e : AlarmEntry) : SummaryEntry :=
  { origin := e.key.origin, code := e.key.code, severity := some e.severity, state := e.state }

/-- The entries of one severity and state, newest first. -/
def listedOf (table : List AlarmEntry) (v : Severity) (st : AlarmState) : List AlarmEntry :=
  (table.filter (fun e => decide (e.severity = v) && decide (e.state = st))).reverse

/-- ACTIVE and ACKED entries in the order of a summary's list (R165). -/
def summaryOrder (table : List AlarmEntry) : List AlarmEntry :=
  [Severity.critical, .major, .minor, .warning].flatMap (fun v => listedOf table v .active ++ listedOf table v .acked)

/-- The highest severity whose count is not 0 (R165). -/
def highestOf (critical major minor warning : Nat) : Option Severity :=
  if critical ≠ 0 then some .critical
  else if major ≠ 0 then some .major
  else if minor ≠ 0 then some .minor
  else if warning ≠ 0 then some .warning
  else none

/-- The summary of an alarm table with an overflow flag, for a station with `lost` LOST and `gone` GONE peers
(R165). -/
def summaryOf (table : List AlarmEntry) (overflow : Bool) (lost gone : Nat) : Summary :=
  let major := countLive table .major + lost
  let warning := countLive table .warning + gone
  { critical := countLive table .critical, major := major, minor := countLive table .minor, warning := warning,
    highest := highestOf (countLive table .critical) major (countLive table .minor) warning
    overflow := overflow
    entries := ((summaryOrder table).take Config.summaryEntries).map AlarmEntry.listed }

/-- The summary as the station's table and peer view stand now (R165, R166). -/
def State.summaryNow (s : State) : Summary :=
  summaryOf s.alu.table s.alu.overflow (countPeers s.ptb .lost) (countPeers s.ptb .gone)

/-! ### Alert drive and relays (R170, R172) -/

/-- The table holds a critical entry in state ACTIVE (R170). -/
def alertDue (table : List AlarmEntry) : Bool :=
  table.any (fun e => decide (e.severity = .critical) && decide (e.state = .active))

/-- The cabinet severity of a collector (R172). -/
def State.cabinetSeverity (s : State) : Option Severity :=
  higher (higher s.alu.summary.highest (highestStored s.ptb))
    (if countPeers s.ptb .lost = 0 then none else some .major)

/-- CRIT as R172 gives it. -/
def State.critDue (s : State) : Bool :=
  s.alu.collector && (decide (s.cabinetSeverity = some .critical) || s.alu.alert.level)

/-- MAJ as R172 gives it. -/
def State.majDue (s : State) : Bool :=
  s.alu.collector && (decide (s.cabinetSeverity = some .critical) || decide (s.cabinetSeverity = some .major))

end Sys2Proof.Machine
end

