-- ==== Sys2Proof/Machine/Operands.lean ====
section
/-! DEFINITION. The forms in which operands reach the part: frames on the data pair with their line code
(R7, R15, R197, R198), reply patterns (R13, R197), and card port messages with the parser that takes them off the link
(R177, R199). -/

namespace Sys2Proof

namespace Machine

/-! ### The line code (R7, R197, spec 11.1) -/

/-- The halves of a coded bit: a one is H then L, a zero L then H (R7, R197). -/
def codeBit (b : Bool) : Halves := { first := b, second := !b }

/-- What a station does to the pair in half a bit time: H or L driven, or the pair left undriven (spec 11.1). -/
inductive Drive where
  | high | low | release
  deriving DecidableEq, Repr

/-- The level the pair reads while one station does this: L where it drives none, from the bias network (spec 11.1). -/
def Drive.level : Drive → Bool
  | .high => true
  | .low | .release => false

/-- The start marker: H for two bit times, then L driven for two (spec 11.1). -/
def startMarker : List Drive := List.replicate 4 .high ++ List.replicate 4 .low

/-- The end marker: H for two bit times, then release (spec 11.1). -/
def endMarker : List Drive := List.replicate 4 .high ++ [.release]

/-- A claim bit takes two bit times: a dominant half drives H, a recessive half leaves the pair undriven (R7). -/
def driveClaimBit (b : Bool) : List Drive :=
  if b then [.high, .high, .release, .release] else [.release, .release, .high, .high]

/-- A bit after the claim field, driven push-pull in one bit time (R197). -/
def driveBit (b : Bool) : List Drive := if b then [.high, .low] else [.low, .high]

/-- The twelve claim bits: class, source slot, claim word, each most significant first (R7, spec 11.1). -/
def claimBits (cls : BitVec 2) (slot : BitVec 4) (word : BitVec 6) : List Bool :=
  [1, 0].map cls.getLsbD ++ [3, 2, 1, 0].map slot.getLsbD ++ [5, 4, 3, 2, 1, 0].map word.getLsbD

end Machine

/-- A receiver recognises a start marker: H begins out of quiet and holds for two bit times (R197). -/
def PairStart.isMarker (m : PairStart) : Bool := decide (m.levels.take 5 = [false, true, true, true, true])

/-- The bit has a transition at its middle: its halves differ (R197). -/
def Halves.clean (h : Halves) : Bool := h.first != h.second

/-- A claim bit with both halves dominant (R15). -/
def Halves.bothH (h : Halves) : Bool := h.first && h.second

/-- A claim bit was seen with both halves dominant (R15). -/
def Activity.bothDominant (a : Activity) : Bool := a.claim.any Halves.bothH

/-- Every symbol was inside the line code: twelve claim bits and the bits after them, each with halves that differ
(R15, R197). -/
def Activity.cleanSymbols (a : Activity) : Bool :=
  decide (a.claim.length = 12) && a.claim.all Halves.clean && a.rest.all Halves.clean

/-- Class in the claim field, its bits 1 and 2 (spec 11.1). -/
def Activity.claimClass (a : Activity) : BitVec 2 := BitVec.ofNat 2 (Machine.natOfBits ((a.claim.take 2).map Halves.first))

/-- Source slot in the claim field, its bits 3 to 6 (spec 11.1). -/
def Activity.claimSlot (a : Activity) : BitVec 4 :=
  BitVec.ofNat 4 (Machine.natOfBits (((a.claim.drop 2).take 4).map Halves.first))

/-- Header, body and check, in the order received: a one has H in its first half (R197). -/
def Activity.bytes (a : Activity) : List Byte := Machine.bytesOf (a.rest.map Halves.first)

/-- Byte `k` begins with H held for two bit times (R197). -/
def Activity.endsBefore (a : Activity) (k : Nat) : Bool :=
  decide (((a.rest.drop (8 * k)).take 2).map (fun h => (h.first, h.second)) = [(true, true), (true, true)])

/-- H held for two bit times here is recognised as the end marker: it stands at a byte boundary after at least the six
header bytes, and none stood at an earlier one (R197). -/
def Activity.endRecognised (a : Activity) : Bool :=
  decide (a.rest.length % 8 = 0) && decide (48 ≤ a.rest.length)
    && (List.range (a.rest.length / 8)).all (fun k => decide (k < 6) || !a.endsBefore k)

namespace Machine

/-! ### Frames -/

/-- The frame kinds (R197). -/
inductive FrameKind where
  | data | sync | announce | summary | join | withdraw | gone | ready
  deriving DecidableEq, Repr

/-- Kind codes (R197). -/
def FrameKind.code : FrameKind → Byte
  | .data => 1 | .sync => 2 | .announce => 3 | .summary => 4 | .join => 5 | .withdraw => 6 | .gone => 7
  | .ready => 8

/-- The kind of a code; any other code is a code violation (R15). -/
def frameKindOf (b : Byte) : Option FrameKind :=
  match b.toNat with
  | 1 => some .data | 2 => some .sync | 3 => some .announce | 4 => some .summary | 5 => some .join
  | 6 => some .withdraw | 7 => some .gone | 8 => some .ready | _ => none

/-- Whether a class belongs to a kind (spec 11.2). -/
def FrameKind.allowsClass (k : FrameKind) (cls : Nat) : Bool :=
  match k with
  | .data => decide (1 ≤ cls ∧ cls ≤ 3)
  | .sync | .announce => cls == 0
  | .summary | .join | .withdraw | .gone | .ready => cls == 1

/-- The fields of a frame header (R197). -/
structure FrameHeader where
  kind     : FrameKind
  cls      : Fin 4
  slot     : Slot
  dest     : Dest
  due      : Option (BitVec 32)
  sequence : Byte
  deriving DecidableEq, Repr

/-- Header and body as sent (R197). -/
def frameContent (h : FrameHeader) (body : List Byte) : List Byte :=
  [h.kind.code, BitVec.ofNat 8 (h.cls.val * 64 + h.slot.val),
   BitVec.ofNat 8 ((if h.due.isSome then 128 else 0) + h.dest.val), h.sequence]
    ++ beBytes 2 body.length
    ++ (match h.due with | none => [] | some d => beBytes 4 d.toNat)
    ++ body

/-- Header, body and check as sent (R197, R198). -/
def frameBytes (h : FrameHeader) (body : List Byte) : List Byte :=
  frameContent h body ++ crcBytes (frameContent h body)

/-- Length of a received header: 10 bytes with a due time, else 6 (R197). -/
def headerLength (bs : List Byte) : Nat := if (byteAt bs 2).getLsbD 7 then 10 else 6

/-- Header and body of a received frame, without the check (R198). -/
def checkedPart (bs : List Byte) : List Byte := bs.take (bs.length - 4)

/-- The header of received bytes, if its kind is one of the eight (R197). -/
def readHeader (bs : List Byte) : Option FrameHeader :=
  match frameKindOf (byteAt bs 0) with
  | none => none
  | some k => some
      { kind := k
        cls := Fin.ofNat 4 ((byteAt bs 1).toNat / 64)
        slot := Fin.ofNat 16 (byteAt bs 1).toNat
        dest := Fin.ofNat 32 (byteAt bs 2).toNat
        due := if (byteAt bs 2).getLsbD 7 then some (BitVec.ofNat 32 (numAt bs 6 4)) else none
        sequence := byteAt bs 3 }

/-- The body of received bytes: what lies between header and check. -/
def readBody (bs : List Byte) : List Byte := (checkedPart bs).drop (headerLength bs)

/-- The causes of R15, in its order. -/
inductive BrokenCause where
  | collision | codeViolation | check | foreignSlot
  deriving DecidableEq, Repr

/-- Cause 2 of R15 as far as the bytes show it: length, kind, class, and agreement with the claim field. -/
def violatesCode (a : Activity) : Bool :=
  match readHeader a.bytes with
  | none => true
  | some h =>
    !(decide (a.bytes.length = headerLength a.bytes + numAt a.bytes 4 2 + 4)
      && h.kind.allowsClass h.cls.val && (h.cls.val == a.claimClass.toNat) && (h.slot.val == a.claimSlot.toNat))

/-- Cause 3 of R15: the check received differs from the one computed (R198). -/
def failsCheck (bs : List Byte) : Bool := decide (numAt bs (bs.length - 4) 4 ≠ (crc32 (checkedPart bs)).toNat)

/-- The judgement of R15 on an activity that reached its end marker in a cabinet of `n` slots: the first cause
that applies, or none when the frame is good. `began` says that the activity began with a start marker. -/
def judgeActivity (n : Nat) (began : Bool) (a : Activity) : Option BrokenCause :=
  if a.bothDominant then some .collision
  else if !began || !a.cleanSymbols || violatesCode a then some .codeViolation
  else if failsCheck a.bytes then some .check
  else match readHeader a.bytes with
    | none => some .codeViolation
    | some h => if n ≤ h.slot.val then some .foreignSlot else none

end Machine

/-- The header of a DATA frame (R197). -/
def DataFrame.header (f : DataFrame) : Machine.FrameHeader :=
  { kind := .data, cls := Fin.ofNat 4 f.cls.number, slot := f.source, dest := f.dest, due := f.due,
    sequence := f.sequence }

namespace Machine

/-- The DATA frame of good received bytes. -/
def readDataFrame (bs : List Byte) : Option DataFrame :=
  match readHeader bs with
  | some h =>
    match h.kind, cardClassOf h.cls.val with
    | .data, some c =>
      some { source := h.slot, cls := c, dest := h.dest, sequence := h.sequence, due := h.due, payload := readBody bs }
    | _, _ => none
  | none => none

/-- The claim field of a frame with this header and claim word (R7). -/
def FrameHeader.claim (h : FrameHeader) (word : BitVec 6) : List Bool :=
  claimBits (BitVec.ofNat 2 h.cls.val) (BitVec.ofNat 4 h.slot.val) word

/-- What a station drives between the markers: claim field, header, body and check (R7, R197). -/
def contentDrive (h : FrameHeader) (word : BitVec 6) (body : List Byte) : List Drive :=
  (h.claim word).flatMap driveClaimBit ++ (bitsOf (frameBytes h body)).flatMap driveBit

/-- What a station drives when it sends a frame whole, from the start marker to the end marker (R7, R197, spec 11.1). -/
def frameDrive (h : FrameHeader) (word : BitVec 6) (body : List Byte) : List Drive :=
  startMarker ++ contentDrive h word body ++ endMarker

/-! ### A frame on the pair (R7 to R9) -/

/-- The kind an internal frame is sent as (R197). -/
def InternalKind.kind : InternalKind → FrameKind
  | .sync => .sync
  | .announce => .announce
  | .summary => .summary
  | .join => .join
  | .withdraw => .withdraw
  | .gone => .gone
  | .ready => .ready

/-- The kind a transmission is sent as (R197). -/
def TxSource.kind : TxSource → FrameKind
  | .card _ => .data
  | .internal k => k.kind

/-- The header of a transmission (R7, R197). -/
def Transmission.header (t : Transmission) : FrameHeader :=
  { kind := t.source.kind, cls := t.cls, slot := t.slot, dest := t.dest, due := t.due.map (BitVec.ofNat 32),
    sequence := t.sequence }

/-- What the sender of a transmission drives, whole (R7, R9, R197). -/
def Transmission.drive (t : Transmission) : List Drive := frameDrive t.header t.claimWord t.body

/-- What is still to be driven of a transmission: nothing once a collision is detected, and no end marker then (R8). -/
def Transmission.left (t : Transmission) : List Drive := if t.differed then [] else t.drive.drop t.driven

/-- The levels the sender compares with the pair, half bit time by half bit time: none in the start marker, then those
its own drive leaves of the claim field and of the rest of the frame, the end marker up to its release included (R8, spec
1.4). -/
def Transmission.compared (t : Transmission) : List (Option Bool) :=
  startMarker.map (fun _ => none)
    ++ (contentDrive t.header t.claimWord t.body ++ endMarker.dropLast).map (fun d => some d.level)

/-- The place of the first sampled level that differs from the one compared with it (R8). -/
def firstDifference : List (Option Bool) → List Bool → Option Nat
  | expected :: more, level :: levels =>
    if expected.any (· != level) then some 0 else (firstDifference more levels).map (· + 1)
  | _, _ => none

/-- One tick of a transmission: the half bit times of a tick are driven, and what the pair shows in them is compared
with what was driven. The half bit time that shows the first difference is the last one driven, so that driving stops
within its bit time (R8, R9). DESIGN CHOICE: it stops with that half (log 36). -/
def Transmission.tick (levels : List Bool) (t : Transmission) : Transmission :=
  if t.complete || t.differed then t
  else match firstDifference (t.compared.drop t.driven) (levels.take Config.halvesPerTick) with
    | some place => { t with driven := t.driven + place + 1, differed := true }
    | none => { t with driven := min (t.driven + Config.halvesPerTick) (t.drive.length - 1) }

/-- The sender has detected a collision (R8). -/
def Transmission.collided (t : Transmission) : Bool := t.differed && !t.complete

/-- The end marker has been driven, up to its release, and no collision detected (R9). -/
def Transmission.ended (t : Transmission) : Bool :=
  !t.differed && !t.complete && decide (t.drive.length ≤ t.driven + 1)

/-- The frame is being sent: neither has it collided nor has its end marker been driven (R8, R9). -/
def Transmission.sending (t : Transmission) : Bool := !t.complete && !t.collided && !t.ended

/-! ### What a receiver reads off the pair (R197) -/

/-- Claim bits off the levels of half bit times: a claim bit takes two bit times, so each of its halves takes two levels
(R7, R197). -/
def readClaim : List Bool → List Halves
  | a :: _ :: b :: _ :: rest => { first := a, second := b } :: readClaim rest
  | _ => []

/-- The bits after the claim field off the levels of half bit times (R197). -/
def readBits : List Bool → List Halves
  | a :: b :: rest => { first := a, second := b } :: readBits rest
  | _ => []

/-- The activity a receiver takes off the pair from the levels between the markers: 24 bit times of claim field, then one
bit time a bit (R7, R197). -/
def readActivity (levels : List Bool) : Activity :=
  { claim := readClaim (levels.take 48), rest := readBits (levels.drop 48) }

/-- The activity another receiver takes off the pair when a station sends this frame undisturbed (R7, R197). -/
def cleanActivity (h : FrameHeader) (word : BitVec 6) (body : List Byte) : Activity :=
  { claim := (h.claim word).map codeBit, rest := (bitsOf (frameBytes h body)).map codeBit }

/-! ### Frame bodies (spec 11.2, read as R198 gives) -/

/-- The count of fraction units that the transmit time of a SYNC body stands for (spec 5.1, spec 11.2). -/
def syncTime (body : List Byte) : Nat :=
  Config.unitsPerNs * (Config.nsPerSecond * numAt body 0 4 + numAt body 4 4) + numAt body 8 2

/-- The quality of an ANNOUNCE body: a two-bit field, the bits outside it ignored (spec 11, spec 11.2). -/
def announceQuality (body : List Byte) : Fin 4 := Fin.ofNat 4 (byteAt body 0).toNat

/-- The priority of an ANNOUNCE body (R104). -/
def announcePriority (body : List Byte) : Byte := byteAt body 1

/-- One entry of a SUMMARY body. -/
def summaryEntryAt (body : List Byte) (i : Nat) : SummaryEntry :=
  { origin := byteAt body (6 + 4 * i), code := byteAt body (7 + 4 * i),
    severity := severityOf (byteAt body (8 + 4 * i)), state := alarmStateOf (byteAt body (9 + 4 * i)) }

/-- How many entries a SUMMARY body gives: at most eight, and none beyond the body (R198). -/
def summaryEntryCount (body : List Byte) : Nat :=
  min (min ((byteAt body 5).toNat % 16) Config.summaryEntries) ((body.length - 6 + 3) / 4)

/-- A SUMMARY body (spec 11.2, R198). -/
def readSummary (body : List Byte) : Summary :=
  { critical := (byteAt body 0).toNat, major := (byteAt body 1).toNat, minor := (byteAt body 2).toNat,
    warning := (byteAt body 3).toNat, highest := severityOf (byteAt body 4),
    overflow := (byteAt body 5).getLsbD 7,
    entries := (List.range (summaryEntryCount body)).map (summaryEntryAt body) }

/-- A summary as a SUMMARY body (spec 11.2). -/
def summaryBody (s : Summary) : List Byte :=
  beBytes 1 s.critical ++ beBytes 1 s.major ++ beBytes 1 s.minor ++ beBytes 1 s.warning
    ++ [severityByte s.highest, BitVec.ofNat 8 ((if s.overflow then 128 else 0) + s.entries.length)]
    ++ s.entries.flatMap (fun e => [e.origin, e.code, severityByte e.severity, e.state.code])

/-- The join record of a JOIN body, for a station whose own cabinet has `n` slots (R69). -/
def readJoin (n : Nat) (body : List Byte) : JoinRecord :=
  { capable := (byteAt body 0).getLsbD 0, size := byteAt body 1,
    mismatch := decide ((byteAt body 1).toNat ≠ n) }

/-! ### Reply patterns (R197) -/

/-- The bits of a reply pattern (R197). -/
def ReplyCode.bits : ReplyCode → List Bool
  | .accept => [true, true, false, true, false, false, true, false]
  | .full => [false, false, true, false, true, true, false, true]

/-- What a replying station drives from the opening of the window: eight bits, then release (R12, R197). -/
def ReplyCode.drive (r : ReplyCode) : List Drive := r.bits.flatMap driveBit ++ [.release]

/-- The classification of a window by the sender of a unicast frame: the reply, and whether content that was
neither reply nor silence was found (R13). -/
def classifyWindow : WindowContent → Option ReplyCode × Bool
  | .quiet => (none, false)
  | .garbled => (none, true)
  | .bits onTime p =>
    if onTime && p == ReplyCode.accept.bits.map codeBit then (some .accept, false)
    else if onTime && p == ReplyCode.full.bits.map codeBit then (some .full, false)
    else (none, true)

/-! ### Card port messages (R177, R199) -/

/-- The start code of a message (R199). -/
def startCode : Byte := 0xC3

/-- The eleven card message kinds and the body lengths each allows (R199). -/
def kindAllowsLength (kind : Byte) (len : Nat) : Bool :=
  match kind.toNat with
  | 1 => decide (11 ≤ len ∧ len ≤ Config.linkLimit)
  | 2 => len == 2
  | 3 => len == 1
  | 4 => len == 2
  | 5 => len == 1
  | 6 => len == 0
  | 7 => len == 0
  | 8 => len == 1
  | 9 => len == 4
  | 10 => len == 3
  | 11 => len == 0
  | _ => false

/-- The fields of a SEND body (R199). -/
def readSend (body : List Byte) : SendRequest :=
  { cls := BitVec.ofNat 2 (byteAt body 0).toNat
    dest := Fin.ofNat 32 (byteAt body 1).toNat
    tag := BitVec.ofNat 16 (numAt body 2 2)
    due := if (byteAt body 4).getLsbD 0 then some (BitVec.ofNat 32 (numAt body 5 4)) else none
    release := if (byteAt body 4).getLsbD 1 then some (if (byteAt body 4).getLsbD 2 then .stb else .sta) else none
    lengthField := BitVec.ofNat 16 (numAt body 9 2)
    payload := body.drop 11 }

/-- A message of a known kind and allowed length (R199). A READ that names none of the six items is answered as a
malformed READ is (R179): BAD REQUEST with the kind and no tag. -/
def readMessage (kind : Byte) (body : List Byte) : Message :=
  match kind.toNat with
  | 1 => .send (readSend body)
  | 2 => .raise (byteAt body 0) (byteAt body 1)
  | 3 => .clear (byteAt body 0)
  | 4 => .ack (byteAt body 0) (byteAt body 1)
  | 5 => .forget (byteAt body 0)
  | 6 => .withdraw
  | 7 => .rejoin
  | 8 => .setQuality (byteAt body 0)
  | 9 => .labelSecond (Fin.ofNat 4294967296 (numAt body 0 4))
  | 10 =>
    match readItemOf (byteAt body 0) with
    | some item => .read item (byteAt body 1) ((byteAt body 2).getLsbD 0)
    | none => .malformed kind none
  | 11 => .nextEvent
  | _ => .malformed kind none

/-- The tag a malformed message carries: a SEND long enough to hold one (R180). -/
def malformedTag (kind : Byte) (body : List Byte) : Option (BitVec 16) :=
  if kind = 1 ∧ 4 ≤ body.length then some (BitVec.ofNat 16 (numAt body 2 2)) else none

/-- What the parser gives out at a byte (R177). -/
inductive PortEvent where
  | message (m : Message)
  | linkFault
  deriving DecidableEq, Repr

/-- The judgement of a header: kind and body length (R177). -/
def judgeHeader (kind : Byte) (len : Nat) : Parser × Option PortEvent :=
  if Config.linkLimit < len then (.hunt, some .linkFault)
  else if kindAllowsLength kind len then
    if len = 0 then (.hunt, some (.message (readMessage kind []))) else (.body kind len [], none)
  else if len = 0 then (.hunt, some (.message (.malformed kind none)))
  else (.skip kind len [], none)

/-- One byte taken by the parser (R177). -/
def Parser.feed (p : Parser) (b : Byte) : Parser × Option PortEvent :=
  match p with
  | .hunt => if b = startCode then (.header [], none) else (.hunt, none)
  | .header got =>
    match got with
    | [kind, hi] => judgeHeader kind (beNat [hi, b])
    | _ => (.header (got ++ [b]), none)
  | .body kind left got =>
    if left ≤ 1 then (.hunt, some (.message (readMessage kind (got ++ [b]))))
    else (.body kind (left - 1) (got ++ [b]), none)
  | .skip kind left got =>
    if left ≤ 1 then (.hunt, some (.message (.malformed kind (malformedTag kind (got ++ [b])))))
    else (.skip kind (left - 1) (got ++ [b]), none)

/-- Bytes taken by the parser, with what it gives out, in order (R177). -/
def Parser.feedAll (p : Parser) : List Byte → Parser × List PortEvent
  | [] => (p, [])
  | b :: bs =>
    let r := p.feed b
    let rest := Parser.feedAll r.1 bs
    (rest.1, r.2.toList ++ rest.2)

/-- The tag that a malformed message may carry: one of kind SEND only (R180). -/
def sendTag (kind : Byte) (tag : Option (BitVec 16)) : Option (BitVec 16) := if kind = 1 then tag else none

/-- Kind code of a message (R199). -/
def Message.kind : Message → Byte
  | .send _ => 0x01 | .raise _ _ => 0x02 | .clear _ => 0x03 | .ack _ _ => 0x04 | .forget _ => 0x05
  | .withdraw => 0x06 | .rejoin => 0x07 | .setQuality _ => 0x08 | .labelSecond _ => 0x09
  | .read _ _ _ => 0x0A | .nextEvent => 0x0B | .malformed k _ => k

end Machine

/-- Flags byte of a SEND (R199). -/
def SendRequest.flags (m : SendRequest) : Byte :=
  BitVec.ofNat 8 ((if m.due.isSome then 1 else 0)
    + (match m.release with | none => 0 | some .sta => 2 | some .stb => 6))

namespace Machine

/-- Body of a message the card sends (R199); of a malformed one nothing is kept. -/
def Message.body : Message → List Byte
  | .send m => [BitVec.ofNat 8 m.cls.toNat, BitVec.ofNat 8 m.dest.val] ++ beBytes 2 m.tag.toNat ++ [m.flags]
      ++ beBytes 4 ((m.due.getD 0).toNat) ++ beBytes 2 m.lengthField.toNat ++ m.payload
  | .raise c v => [c, v]
  | .clear c => [c]
  | .ack o c => [o, c]
  | .forget n => [n]
  | .withdraw => []
  | .rejoin => []
  | .setQuality q => [q]
  | .labelSecond t => beBytes 4 t.val
  | .read item n c => [item.byte, n, flagByte c]
  | .nextEvent => []
  | .malformed _ _ => []

/-- The byte sent when there is no message to send (R199). -/
def fillByte : Byte := 0x00

/-- A message on the link: start code, kind, two length bytes, body (R199). -/
def linkBytes (kind : Byte) (body : List Byte) : List Byte :=
  startCode :: kind :: (beBytes 2 body.length ++ body)

/-- A card message on the link (R199). -/
def Message.bytes (m : Message) : List Byte := linkBytes m.kind m.body

/-- A message of the part on the link: RESULT 0x81, DELIVER 0x82, REPLY 0x83 (R199). -/
def OutMessage.bytes : OutMessage → List Byte
  | .result r => linkBytes 0x81 (beBytes 2 r.tag.toNat ++ [r.code.byte] ++ beBytes 1 r.attempts)
  | .deliver f => linkBytes 0x82
      ([BitVec.ofNat 8 f.source.val, BitVec.ofNat 8 f.cls.number, BitVec.ofNat 8 f.dest.val, flagByte f.late]
        ++ beBytes 2 f.payload.length ++ f.payload)
  | .reply (.refusal code kind tag) => linkBytes 0x83
      ([1, code.byte, kind, flagByte tag.isSome] ++ beBytes 2 (tag.getD 0).toNat)
  | .reply (.item item n fields) => linkBytes 0x83 ([2, item.byte, n] ++ fields)
  | .reply (.event number pending) => linkBytes 0x83 ([3] ++ beBytes 1 number ++ beBytes 1 pending)

end Machine

end Sys2Proof
end

