-- ==== Sys2Proof/Machine/Ops.lean ====
section
/-! DEFINITION. The operations every block uses: events and notice lines, saturating counters, access to peer entries
and queues, conditioned levels, internal slots and the requests that fill them. -/

namespace Sys2Proof.Machine

open Sys2Proof

/-! ### Vectors and per-class values -/

/-- Every element of a vector changed. -/
def mapVector {α β : Type} {n : Nat} (f : α → β) (v : Vector α n) : Vector β n := ⟨⟨v.toList.map f⟩, by simp⟩

/-- The value of one class. -/
def PerClass.get {α : Type} (p : PerClass α) : CardClass → α
  | .control => p.control
  | .deadline => p.deadline
  | .bulk => p.bulk

/-- The value of one class replaced. -/
def PerClass.set {α : Type} (p : PerClass α) (c : CardClass) (x : α) : PerClass α :=
  match c with
  | .control => { p with control := x }
  | .deadline => { p with deadline := x }
  | .bulk => { p with bulk := x }

/-- One value for every class. -/
def PerClass.all {α : Type} (x : α) : PerClass α := { control := x, deadline := x, bulk := x }

/-! ### Events and notice lines (R186) -/

/-- The notice lines brought to the levels the pending set and the event map give (R186). -/
def Cpt.refreshLines (c : Cpt) : Cpt :=
  { c with urgent := lineAsserted c.eventMap c.events .urgent,
           attention := lineAsserted c.eventMap c.events .attention }

/-- The pending set with one event in it, kept by priority (R186). -/
def insertEvent (e : EventKind) (l : List EventKind) : List EventKind :=
  eventCatalogue.filter (fun x => x == e || l.contains x)

/-- An event signalled to the card port (R186). -/
def signal (e : EventKind) (s : State) : State :=
  { s with cpt := ({ s.cpt with events := insertEvent e s.cpt.events } : Cpt).refreshLines }

/-! ### Counters (R18) -/

/-- The place of a counter in the COUNTERS item. -/
def CounterId.index (i : CounterId) : Fin 41 := Fin.ofNat 41 i.ctorIdx

/-- The largest value of a counter (R18). -/
def counterMax : Counter := 4294967295

/-- Saturating addition (R18). -/
def satAdd (c : Counter) (k : Nat) : Counter := Fin.ofNat 4294967296 (min (c.val + k) 4294967295)

/-- The value of a counter. -/
def State.counter (s : State) (i : CounterId) : Counter := s.counters[i.index]

/-- `k` added to a counter; reaching the largest value signals COUNTER SATURATED once (R18). -/
def bumpBy (i : CounterId) (k : Nat) (s : State) : State :=
  let old := s.counter i
  let new := satAdd old k
  let s' := { s with counters := s.counters.set i.index.val new i.index.isLt }
  if old ≠ counterMax ∧ new = counterMax then signal .counterSaturated s' else s'

/-- 1 added to a counter. -/
def bump (i : CounterId) (s : State) : State := bumpBy i 1 s

/-! ### Peer entries -/

/-- The entry of a slot. -/
def State.peer (s : State) (i : Slot) : PeerEntry := s.ptb[i]

/-- The entry of a slot replaced. -/
def State.setPeer (s : State) (i : Slot) (e : PeerEntry) : State := { s with ptb := s.ptb.set i.val e i.isLt }

/-- COUNTER SATURATED when an entry counter has just reached its largest value (R82). -/
def signalIfSaturated (old new : Counter) (s : State) : State :=
  if old ≠ counterMax ∧ new = counterMax then signal .counterSaturated s else s

/-- 1 added to FRAMES of an entry (R65). -/
def countFrame (i : Slot) (s : State) : State :=
  let e := s.peer i
  signalIfSaturated e.frames (satAdd e.frames 1) (s.setPeer i { e with frames := satAdd e.frames 1 })

/-- A gap added to GAPS of an entry (R50). -/
def countGap (i : Slot) (k : Nat) (s : State) : State :=
  let e := s.peer i
  signalIfSaturated e.gaps (satAdd e.gaps k) (s.setPeer i { e with gaps := satAdd e.gaps k })

/-- 1 added to DUPLICATES of an entry (R49). -/
def countDuplicate (i : Slot) (s : State) : State :=
  let e := s.peer i
  signalIfSaturated e.duplicates (satAdd e.duplicates 1) (s.setPeer i { e with duplicates := satAdd e.duplicates 1 })

/-! ### Conditioned levels and timers -/

/-- A conditioned level after its filter has taken this level. -/
def Conditioner.taken (level : Bool) : Conditioner := { pin := level, level := level, count := none }

/-- A synchronised level after its filter has taken this level. -/
def Synchronised.take (level : Bool) (c : Synchronised) : Synchronised := { c with toConditioner := .taken level }

/-- One tick of a running timer; the expiry is an event of its own (log 7). -/
def tickTimer (t : Timer) : Timer := t.map (· - 1)

/-- The count of a filter at a tick: none while what it filters stands at the conditioned level; started at its length
when that is first left; else one less (R128, R129, R153, R171, R183). -/
def filterCount (length : Nat) (settled : Bool) (count : Timer) : Timer :=
  if settled then none
  else match count with
    | none => some length
    | some n => some (n - 1)

/-- A level sampled at a tick, by a filter of `up` ticks towards the named state and `down` ticks away from it: a return
to the conditioned level stops the count, and the next change starts it again (R128, R129). -/
def Conditioner.sample (up down : Nat) (pin : Bool) (c : Conditioner) : Conditioner :=
  { c with pin := pin, count := filterCount (if pin then up else down) (pin == c.level) c.count }

/-- A pin sampled through its synchroniser at a tick: the first stage takes the pin, the second what the first held, and
the filter judges the second (R171, R183, R188). DESIGN CHOICE: the filter judges the level the second stage takes at
this tick (log 30). -/
def Synchronised.sample (up down : Nat) (pin : Bool) (c : Synchronised) : Synchronised :=
  { toConditioner := c.toConditioner.sample up down c.stage, stage := pin }

/-- The pin has held a level other than the conditioned one for the whole filter (R128, R129, R171, R183, R188). -/
def Conditioner.due (c : Conditioner) (level : Bool) : Bool :=
  decide (c = { pin := level, level := !level, count := some 0 })

/-! ### Internal slots (R25, R26) -/

/-- The state of a slot. -/
def Slots.get (t : Slots) : InternalKind → SlotState
  | .sync => t.sync
  | .announce => t.announce
  | .summary => t.summary
  | .join => t.join
  | .withdraw => t.withdraw
  | .gone => t.gone
  | .ready => t.ready

/-- The state of a slot replaced. -/
def Slots.set (t : Slots) (k : InternalKind) (x : SlotState) : Slots :=
  match k with
  | .sync => { t with sync := x }
  | .announce => { t with announce := x }
  | .summary => { t with summary := x }
  | .join => { t with join := x }
  | .withdraw => { t with withdraw := x }
  | .gone => { t with gone := x }
  | .ready => { t with ready := x }

/-- A slot after a request (R25). -/
def SlotState.requested : SlotState → SlotState
  | .empty | .pending => .pending
  | .inFlight | .inFlightPending => .inFlightPending

/-- A slot after its request is withdrawn (R142). -/
def SlotState.withdrawn : SlotState → SlotState
  | .empty | .pending => .empty
  | .inFlight | .inFlightPending => .inFlight

/-- A slot after COLLIDED or CUT (R26). -/
def SlotState.returned : SlotState → SlotState
  | .empty => .empty
  | .pending | .inFlight | .inFlightPending => .pending

/-- A slot after TRANSMITTED (R26). -/
def SlotState.transmitted : SlotState → SlotState
  | .empty | .inFlight => .empty
  | .pending | .inFlightPending => .pending

/-- Whether a slot can be offered as a candidate (R28). -/
def SlotState.offered (x : SlotState) : Bool := decide (x = .pending)

/-- Whether a slot's frame is on the pair. -/
def SlotState.flying (x : SlotState) : Bool := decide (x = .inFlight) || decide (x = .inFlightPending)

/-- The slots replaced. -/
def State.setSlots (s : State) (t : Slots) : State := { s with txs := { s.txs with slots := t } }

/-- A producer's request (R25). -/
def request (k : InternalKind) (s : State) : State :=
  s.setSlots (s.txs.slots.set k (s.txs.slots.get k).requested)

/-- A request of WITHDRAW with its cause (R25, R141). -/
def requestWithdraw (c : WithdrawCause) (s : State) : State :=
  s.setSlots { (s.txs.slots.set .withdraw s.txs.slots.withdraw.requested) with withdrawCause := c }

/-- A request of GONE with its forced flag (R25, R142, R144). -/
def requestGone (forced : Bool) (s : State) : State :=
  s.setSlots { (s.txs.slots.set .gone s.txs.slots.gone.requested) with goneForced := forced }

/-! ### Card queues -/

/-- The queue of a class. -/
def State.queue (s : State) (c : CardClass) : List QueueEntry := s.txs.queues.get c

/-- The queue of a class replaced. -/
def State.setQueue (s : State) (c : CardClass) (q : List QueueEntry) : State :=
  { s with txs := { s.txs with queues := s.txs.queues.set c q } }

/-- Store units a queued entry holds (R22). -/
def QueueEntry.units (e : QueueEntry) : Nat := unitsFor e.payload.length

/-- Store units held by a list of entries. -/
def unitsOf (q : List QueueEntry) : Nat := (q.map QueueEntry.units).sum

/-- Queued card frames of all classes (R23). -/
def State.queued (s : State) : Nat := (s.queue .control).length + (s.queue .deadline).length + (s.queue .bulk).length

/-- Pool units a stored frame holds (R46). -/
def StoredFrame.units (f : StoredFrame) : Nat := unitsFor f.payload.length

/-- Pool units held by stored frames. -/
def poolHeld (l : List StoredFrame) : Nat := (l.map StoredFrame.units).sum

end Sys2Proof.Machine
end

