-- ==== Sys2Proof/Machine/Time.lean ====
section
/-! DEFINITION. Cabinet time: full times and their arithmetic, short time, stamps, crossings (spec 5.1, 5.3 to 5.5). -/

namespace Sys2Proof.Machine

open Sys2Proof

/-- The count of fraction units a full time stands for (spec 5.1). -/
def FullTime.units (t : FullTime) : Nat :=
  Config.unitsPerNs * (Config.nsPerSecond * t.seconds.val + t.nanoseconds.val) + t.fraction.val

/-- The full time of a count, modulo the whole wrap (spec 5.1). -/
def FullTime.ofUnits (n : Nat) : FullTime :=
  { seconds := Fin.ofNat 4294967296 (n / Config.unitsPerNs / Config.nsPerSecond)
    nanoseconds := Fin.ofNat 1000000000 (n / Config.unitsPerNs)
    fraction := Fin.ofNat 65536 n }

/-- A signed offset of fraction units added (R83). -/
def FullTime.add (t : FullTime) (k : Int) : FullTime :=
  .ofUnits ((t.units + k) % (Config.timeWrap : Int)).toNat

/-- The signed difference of two counts (R83). -/
def signedDifference (a b : Int) : Int :=
  let d := (a - b) % (Config.timeWrap : Int)
  if d < (Config.timeWrap / 2 : Nat) then d else d - Config.timeWrap

/-- The signed difference of two full times (R83). -/
def FullTime.sub (a b : FullTime) : Int := signedDifference a.units b.units

/-- The short time of a full time (R84). -/
def FullTime.short (t : FullTime) : Nat := Config.nsPerSecond * (t.seconds.val % 4) + t.nanoseconds.val

/-- A due time is ahead of a short time: (due - now) mod 4,000,000,000 is below 2,000,000,000 (R84). -/
def dueAhead (due now : Nat) : Bool :=
  decide (((due : Int) - now) % (Config.shortWrap : Int) < 2000000000)

/-- A due time has passed by the station's own short time (R84). -/
def State.duePassed (s : State) (due : Nat) : Bool := !dueAhead due s.tmu.time.short

/-- A due time as taken from a frame or message (R198, R199). -/
def dueOf (d : Option (BitVec 32)) : Option Nat := d.map (fun x => x.toNat % Config.shortWrap)

/-- The stamp of an edge `k` nanoseconds after the last tick (R90). -/
def State.stamp (s : State) (k : EdgeDelay) : FullTime := s.tmu.time.add ((Config.unitsPerNs * k.val : Nat) : Int)

/-- The period of a period code, in nanoseconds (spec 5.8). -/
def periodNs (code : Fin 8) : Nat :=
  match code.val with
  | 0 => 1000000000
  | 1 => 100000000
  | 2 => 10000000
  | 3 => 5000000
  | 4 => 2000000
  | 5 => 1000000
  | 6 => 500000
  | _ => 250000

/-- Whether an advance from `before` by `advance` units carries the counter across an instant of fraction 0 whose
nanoseconds, less the offset, are a multiple of the period (R89, R96). -/
def crosses (before : FullTime) (advance : Int) (period offset : Nat) : Bool :=
  let p : Int := ((Config.unitsPerNs * period : Nat) : Int)
  let o : Int := ((Config.unitsPerNs * offset : Nat) : Int)
  decide (((before.units : Int) - o) / p < ((before.units : Int) + advance - o) / p)

/-- Step 1 and 2 of the advance: the correction d and the new residue (R86). -/
def residueStep (residue : Nat) (rate : Int) : Int × Nat :=
  (((residue : Int) + rate) / Config.residueModulus, (((residue : Int) + rate) % Config.residueModulus).toNat)

/-- The whole second nearest a stamp, as a label (R93). -/
def nearestSecond (t : FullTime) : Seconds :=
  if t.nanoseconds.val < 500000000 then t.seconds else t.seconds + 1

/-- The full time at the start of a second (R93). -/
def FullTime.ofSecond (x : Seconds) : FullTime := { seconds := x, nanoseconds := 0, fraction := 0 }

end Sys2Proof.Machine
end

