-- ==== Sys2Proof/Machine/Alarms.lean ====
section
/-! DEFINITION. The alarm unit (spec 8): the table with its raises, clears and acknowledgements, suppression,
eviction, the consequences of a table change, the inputs' causes, and the meanings of the alarm family's events. -/

namespace Sys2Proof.Machine

open Sys2Proof

/-! ### Names of the internal keys (spec 8.4) -/

/-- TIMING T1 SOURCE LOST. -/
abbrev keyT1 : AlarmKey := .timing 0
/-- TIMING T2 HOLDOVER. -/
abbrev keyT2 : AlarmKey := .timing 1
/-- TIMING T3 HOLDOVER EXPIRED. -/
abbrev keyT3 : AlarmKey := .timing 2
/-- TIMING T4 RATE LIMIT. -/
abbrev keyT4 : AlarmKey := .timing 3
/-- TIMING T5 REFERENCE LOST. -/
abbrev keyT5 : AlarmKey := .timing 4
/-- TRAFFIC X1 BUS CONTENTION. -/
abbrev keyX1 : AlarmKey := .traffic 0
/-- TRAFFIC X2 RECEIVE FULL. -/
abbrev keyX2 : AlarmKey := .traffic 1
/-- TRAFFIC X3 LATE DROPS. -/
abbrev keyX3 : AlarmKey := .traffic 2
/-- TRAFFIC X4 UNDELIVERABLE. -/
abbrev keyX4 : AlarmKey := .traffic 3
/-- SEATING H1 POWER FAULT. -/
abbrev keyH1 : AlarmKey := .seating 0
/-- SEATING H2 SLOT CONFLICT. -/
abbrev keyH2 : AlarmKey := .seating 1
/-- SEATING H3 FORCED WITHDRAWAL. -/
abbrev keyH3 : AlarmKey := .seating 2
/-- SEATING H4 ISOLATED. -/
abbrev keyH4 : AlarmKey := .seating 3
/-- SEATING H5 SLOT CODE. -/
abbrev keyH5 : AlarmKey := .seating 4

/-- The severity the catalogue fixes for an internal key; of INPUT and CARD keys the raise brings its own
(spec 8.4). -/
def catalogueSeverity : AlarmKey → Severity
  | .timing n => match n.val with | 0 => .major | 1 => .minor | 2 => .major | 3 => .minor | _ => .major
  | .traffic n => match n.val with | 0 => .major | _ => .minor
  | .seating n => match n.val with | 2 => .major | _ => .critical
  | .start => .minor
  | .input _ => .minor
  | .card _ => .minor

/-! ### What a table change brings up to date (R164, R165, R170, R172) -/

/-- The relays brought up to date (R172). -/
def refreshRelays (s : State) : State := { s with alu := { s.alu with crit := s.critDue, maj := s.majDue } }

/-- The current summary recomputed; a summary change in a state that takes part starts the hold-off timer when it
is not running (R165, R168). -/
def refreshSummary (s : State) : State :=
  if s.summaryNow = s.alu.summary then s
  else { s with alu := { s.alu with
    summary := s.summaryNow
    holdOffTimer := if takesPart s.sec.state && s.alu.holdOffTimer.isNone then some (Config.ms 10)
                    else s.alu.holdOffTimer } }

/-- A notice of the peer view: the current summary and the relays brought up to date (R80, R165, R172). -/
def noticePeerView (s : State) : State := refreshRelays (refreshSummary s)

/-- The alert drive brought up to date (R170). -/
def refreshAlert (s : State) : State := { s with alu := { s.alu with alertDrive := alertDue s.alu.table } }

/-- A new alarm table and overflow flag, as one table change (R164). -/
def changeTable (table : List AlarmEntry) (overflow : Bool) (s : State) : State :=
  refreshRelays (refreshSummary (refreshAlert
    (signal .alarmTableChange { s with alu := { s.alu with table := table, overflow := overflow } })))

/-! ### Suppression marks -/

/-- A key marked suppressed, the marks kept in catalogue order (R162, R163). -/
def markKey (k : AlarmKey) (s : State) : State :=
  { s with alu := { s.alu with
      suppressed := alarmCatalogue.filter (fun x => x == k || s.alu.suppressed.contains x) } }

/-- The suppression mark of a key removed. -/
def unmarkKey (k : AlarmKey) (s : State) : State :=
  { s with alu := { s.alu with suppressed := s.alu.suppressed.filter (fun x => !(x == k)) } }

/-! ### Inputs -/

/-- An alarm input. -/
def State.input (s : State) (n : Fin 8) : AlarmInput := s.alu.inputs[n]

/-- An alarm input replaced. -/
def State.setInput (s : State) (n : Fin 8) (x : AlarmInput) : State :=
  { s with alu := { s.alu with inputs := s.alu.inputs.set n.val x n.isLt } }

/-- The cause flag of an input set or cleared. -/
def setCause (n : Fin 8) (on : Bool) (s : State) : State := s.setInput n { s.input n with cause := on }

/-! ### Victims (R162) -/

/-- The oldest of the lowest severity in a list kept oldest first. -/
def lowestOldest : List AlarmEntry → Option AlarmEntry
  | [] => none
  | e :: rest =>
    match lowestOldest rest with
    | none => some e
    | some m => if m.severity.below e.severity then some m else some e

/-- The victim a raise of severity `v` finds in a full table (R162). -/
def findVictim (table : List AlarmEntry) (v : Severity) : Option AlarmEntry :=
  match lowestOldest (table.filter (fun e => decide (e.state = .cleared))) with
  | some e => some e
  | none =>
    match lowestOldest (table.filter (fun e => decide (e.state = .acked) && e.severity.below v)) with
    | some e => some e
    | none => lowestOldest (table.filter (fun e => decide (e.state = .active) && e.severity.below v))

/-- What a victim's leaving does to its cause: a live victim's key is marked, but a LATCHED input whose level is
deasserted ends its cause instead; a CLEARED victim takes no mark (R156, R162). -/
def evictCause (e : AlarmEntry) (s : State) : State :=
  if e.state = .cleared then s
  else match e.key with
    | .input n =>
      if (s.input n).settings.latched && !(s.input n).asserted then setCause n false s else markKey e.key s
    | _ => markKey e.key s

/-! ### Raise, clear, removal, ACK (R159 to R163) -/

/-- The entry of a key. -/
def findEntry (k : AlarmKey) (table : List AlarmEntry) : Option AlarmEntry := table.find? (fun e => decide (e.key = k))

/-- A table with the entry of its key replaced. -/
def replaceEntry (e : AlarmEntry) (table : List AlarmEntry) : List AlarmEntry :=
  table.map (fun x => if x.key = e.key then e else x)

/-- A table without the entry of a key. -/
def dropEntry (k : AlarmKey) (table : List AlarmEntry) : List AlarmEntry :=
  table.filter (fun x => decide (x.key ≠ k))

/-- A new entry (R159). -/
def freshEntry (k : AlarmKey) (v : Severity) (now : Seconds) : AlarmEntry :=
  { key := k, severity := v, state := .active, raises := 1, firstRaise := now, lastChange := now }

/-- An entry after a further raise, before its time of change is set (R159, spec 8.5). -/
def AlarmEntry.raised (e : AlarmEntry) (v : Severity) : AlarmEntry :=
  { e with state := if e.state = .cleared then .active else e.state, severity := v, raises := min 255 (e.raises + 1) }

/-- A raise of a key with a severity (R159, R162, R163). -/
def raiseKey (k : AlarmKey) (v : Severity) (s : State) : State :=
  if s.alu.suppressed.contains k then s
  else match findEntry k s.alu.table with
    | some e =>
      if e.raised v = e then s
      else changeTable (replaceEntry { e.raised v with lastChange := s.tmu.time.seconds } s.alu.table) s.alu.overflow s
    | none =>
      if s.alu.table.length < Config.alarmEntries then
        changeTable (s.alu.table ++ [freshEntry k v s.tmu.time.seconds]) s.alu.overflow s
      else match findVictim s.alu.table v with
        | some e =>
          let s1 := evictCause e (bump .evictions s)
          changeTable (dropEntry e.key s.alu.table ++ [freshEntry k v s.tmu.time.seconds]) s.alu.overflow s1
        | none =>
          let s1 := markKey k (bump .raisesDropped s)
          if s.alu.overflow then s1 else changeTable s.alu.table true s1

/-- A raise of an internal key with the catalogue's severity (R158). -/
def raiseInternal (k : AlarmKey) (s : State) : State := raiseKey k (catalogueSeverity k) s

/-- The entry of a key removed: the overflow flag is cleared (R163). -/
def removeEntry (k : AlarmKey) (s : State) : State := changeTable (dropEntry k s.alu.table) false s

/-- A clear of a key: its cause has gone away (R160). -/
def clearKey (k : AlarmKey) (s : State) : State :=
  match findEntry k s.alu.table with
  | some e =>
    match e.state with
    | .active =>
      changeTable (replaceEntry { e with state := .cleared, lastChange := s.tmu.time.seconds } s.alu.table)
        s.alu.overflow s
    | .acked => removeEntry k s
    | .cleared => s
  | none => unmarkKey k s

/-- An acknowledgement of the entry of a key; an entry of a LATCHED input whose level is deasserted is removed and
its cause ends (R156, R161). -/
def ackEntry (e : AlarmEntry) (s : State) : State :=
  let becomeAcked :=
    changeTable (replaceEntry { e with state := .acked, lastChange := s.tmu.time.seconds } s.alu.table) s.alu.overflow s
  match e.state with
  | .cleared => removeEntry e.key s
  | .acked => s
  | .active =>
    match e.key with
    | .input n =>
      if (s.input n).settings.latched && !(s.input n).asserted then setCause n false (removeEntry e.key s)
      else becomeAcked
    | _ => becomeAcked

/-- Every CARD entry and CARD mark removed at a card reset (R157). -/
def isCardKey : AlarmKey → Bool
  | .card _ => true
  | _ => false

/-- The alarm unit's part of a card reset (R152, R157). -/
def resetCardAlarms (s : State) : State :=
  let s1 := { s with alu := { s.alu with suppressed := s.alu.suppressed.filter (fun k => !isCardKey k) } }
  if s.alu.table.any (fun e => isCardKey e.key) then
    changeTable (s.alu.table.filter (fun e => !isCardKey e.key)) false s1
  else s1

/-! ### Input events (R153, R155, R156) -/

/-- The input's synchronised level is the asserted one (R153). -/
def AlarmInput.pinAsserted (x : AlarmInput) : Bool := x.pinHigh == x.settings.activeHigh

/-- A pin level sampled at a tick through the input's synchroniser, whose second stage the debounce judges (R153). -/
def AlarmInput.sample (high : Bool) (x : AlarmInput) : AlarmInput :=
  { x with stage := high
           pinHigh := x.stage
           count := filterCount (Config.ms x.settings.debounceMs) ((x.stage == x.settings.activeHigh) == x.asserted) x.count }

/-- The input has held a level other than its conditioned one for the whole debounce time (R153). -/
def AlarmInput.due (x : AlarmInput) (level : Bool) : Bool :=
  decide (x.pinAsserted = level ∧ x.asserted = !level ∧ x.count = some 0)

/-- A debounced assertion (R155, R156). -/
def assertInput (n : Fin 8) (s : State) : State :=
  let x := s.input n
  if x.due true then
    let s1 := s.setInput n { x with asserted := true, count := none }
    if x.settings.masked then s1 else raiseKey (.input n) x.settings.severity (setCause n true s1)
  else s

/-- What a debounced deassertion does to the cause of an unmasked input (R155, R156). -/
def endInputCause (n : Fin 8) (s : State) : State :=
  if (s.input n).settings.latched then
    match findEntry (.input n) s.alu.table with
    | some e =>
      match e.state with
      | .acked => clearKey (.input n) (setCause n false s)
      | .active => s
      | .cleared => s
    | none => if (s.input n).cause then unmarkKey (.input n) (setCause n false s) else s
  else clearKey (.input n) (setCause n false s)

/-- A debounced deassertion (R155, R156). -/
def deassertInput (n : Fin 8) (s : State) : State :=
  let x := s.input n
  if x.due false then
    let s1 := s.setInput n { x with asserted := false, count := none }
    if x.settings.masked then s1 else endInputCause n s1
  else s

/-- New settings taken by one input at the completion of CONFIG: its cause ends, the settings are taken, its
conditioning restarts (R154). -/
def takeInputSettings (settings : InputSettings) (n : Fin 8) (s : State) : State :=
  let s1 := clearKey (.input n) (setCause n false s)
  let x := s1.input n
  s1.setInput n { x with
    asserted := false, settings := settings
    count := if x.pinHigh = settings.activeHigh then some (Config.ms settings.debounceMs) else none }

/-! ### Meanings -/

/-- INPUT_DEBOUNCED_ASSERTION (R155, R156). -/
def execInputAsserted (n : Fin 8) (s : State) : Host.Outcome State Fault Refusal := .next (assertInput n s)

/-- INPUT_DEBOUNCED_DEASSERTION (R155, R156). -/
def execInputDeasserted (n : Fin 8) (s : State) : Host.Outcome State Fault Refusal := .next (deassertInput n s)

/-- ALERT_LEVEL_CHANGE: once the line has held the level for the filter, it is taken, ALERT LINE CHANGE is signalled and
the relays follow (R171, R172). -/
def execAlertLevelChange (asserted : Bool) (s : State) : Host.Outcome State Fault Refusal :=
  .next (if s.alu.alert.due asserted then
           refreshRelays (signal .alertLineChange { s with alu := { s.alu with alert := s.alu.alert.take asserted } })
         else s)

/-- SUMMARY_INTERVAL_TIMER_EXPIRY: SUMMARY is requested and the timer restarts (R167). -/
def execSummaryIntervalTimerExpiry (s : State) : Host.Outcome State Fault Refusal :=
  .next (if s.alu.intervalTimer.isNone then s
         else request .summary { s with alu := { s.alu with intervalTimer := some (Config.ms 100) } })

/-- SUMMARY_HOLD_OFF_TIMER_EXPIRY: SUMMARY is requested and the interval timer restarts (R168). -/
def execSummaryHoldOffTimerExpiry (s : State) : Host.Outcome State Fault Refusal :=
  .next (if s.alu.holdOffTimer.isNone then s
         else request .summary
           { s with alu := { s.alu with holdOffTimer := none, intervalTimer := some (Config.ms 100) } })

end Sys2Proof.Machine
end

