-- ==== Sys2Proof/Machine/Transmit.lean ====
section
/-! DEFINITION. The transmit scheduler (spec 2): admission, candidates, retirements and purges, the outcomes of card
frames, how own frames end on the pair (spec 1.4), and the meanings of its events. -/

namespace Sys2Proof.Machine

open Sys2Proof

/-! ### Results (R43) -/

/-- The result of an entry with a code. -/
def QueueEntry.result (e : QueueEntry) (code : ResultCode) : ResultEntry :=
  { tag := e.tag, code := code, attempts := e.attempts }

/-- Results appended to the tail of the results list (R43). -/
def appendResults (rs : List ResultEntry) (s : State) : State :=
  { s with cpt := { s.cpt with results := s.cpt.results ++ rs } }

/-- Store units returned. -/
def freeUnits (k : Nat) (s : State) : State := { s with txs := { s.txs with storeFree := s.txs.storeFree + k } }

/-- The counter of a result code, for the codes that have one (R44). -/
def resultCounter : ResultCode → Option CounterId
  | .sent => some .sent
  | .late => some .late
  | .undeliverable => some .undeliverable
  | .peerLeft => some .peerLeft
  | .timeLost => none
  | .withdrawn => none

/-- `k` retirements with a code counted (R44). -/
def countResults (code : ResultCode) (k : Nat) (s : State) : State :=
  match resultCounter code with
  | some i => bumpBy i k s
  | none => s

/-! ### Purges (R36 to R40) -/

/-- An entry marked by a purge, unless a mark is already set (R36). -/
def QueueEntry.marked (e : QueueEntry) (code : ResultCode) : QueueEntry :=
  { e with mark := if e.mark.isNone then some code else e.mark }

/-- The entries a purge removes: those it names that are not in flight. -/
def purgedBy (p : QueueEntry → Bool) (q : List QueueEntry) : List QueueEntry := q.filter (fun e => p e && !e.inFlight)

/-- The entries a purge leaves, those it names being in flight and marked. -/
def keptBy (p : QueueEntry → Bool) (code : ResultCode) (q : List QueueEntry) : List QueueEntry :=
  (q.filter (fun e => !(p e && !e.inFlight))).map (fun e => if p e then e.marked code else e)

/-- A purge of one queue (R36, R37). -/
def purgeQueue (p : QueueEntry → Bool) (code : ResultCode) (c : CardClass) (s : State) : State :=
  let gone := purgedBy p (s.queue c)
  countResults code gone.length
    (appendResults (gone.map (fun e => e.result code))
      (freeUnits (unitsOf gone) (s.setQueue c (keptBy p code (s.queue c)))))

/-- A purge of C1, then C2, then C3 (spec 2.7). -/
def purgeQueues (p : QueueEntry → Bool) (code : ResultCode) (s : State) : State :=
  purgeQueue p code .bulk (purgeQueue p code .deadline (purgeQueue p code .control s))

/-- The unicast destination of an entry is this slot. -/
def QueueEntry.isFor (i : Slot) (e : QueueEntry) : Bool := decide (e.dest.val = i.val)

/-- The peer-left purge (R37). -/
def purgePeerLeft (i : Slot) (s : State) : State := purgeQueues (QueueEntry.isFor i) .peerLeft s

/-- The time-lost purge of C2 (R38). -/
def purgeTimeLost (s : State) : State := purgeQueue (fun _ => true) .timeLost .deadline s

/-- The withdrawn purge (R39, R40). -/
def purgeWithdrawn (s : State) : State := purgeQueues (fun _ => true) .withdrawn s

/-! ### Late removal (R31) -/

/-- A class-2 entry whose due time has passed while it is queued and not in flight (R31). -/
def State.lateNow (s : State) (e : QueueEntry) : Bool :=
  !e.inFlight && e.due.any s.duePassed

/-- One removal with LATE: X3 is raised and the LATE timer restarts (R31). -/
def retireLate (e : QueueEntry) (s : State) : State :=
  let s1 := bump .late (appendResults [e.result .late] (freeUnits e.units s))
  let s2 := raiseInternal keyX3 s1
  { s2 with txs := { s2.txs with lateTimer := some (Config.ms 1000) } }

/-- Entries retired with LATE, in their order. -/
def retireAll : List QueueEntry → State → State
  | [], s => s
  | e :: rest, s => retireAll rest (retireLate e s)

/-- Every class-2 entry whose due time has passed removed with LATE, in admission order (R31). -/
def sweepLate (s : State) : State :=
  let q := s.queue .deadline
  retireAll (q.filter s.lateNow) (s.setQueue .deadline (q.filter (fun e => !s.lateNow e)))

/-! ### Drained (R42) -/

/-- The card queues are empty and nothing of the station is on the pair (R42). -/
def State.drained (s : State) : Bool := decide (s.queued = 0) && s.bau.tx.isNone

/-- The drained report, made once in each DRAINING, on which GONE is requested (R42, R142). -/
def reportDrained (s : State) : State :=
  if s.sec.state = .draining ∧ s.txs.drainedReported = false ∧ s.drained = true then
    requestGone false { s with txs := { s.txs with drainedReported := true } }
  else s

/-! ### The entry in flight -/

/-- The entry in flight of a queue. -/
def flightOf (q : List QueueEntry) : Option QueueEntry := q.find? QueueEntry.inFlight

/-- A queue without its entry in flight. -/
def withoutFlight (q : List QueueEntry) : List QueueEntry := q.eraseP QueueEntry.inFlight

/-- A queue with its entry in flight replaced. -/
def changeFlight (f : QueueEntry → QueueEntry) : List QueueEntry → List QueueEntry
  | [] => []
  | e :: rest => if e.inFlight then f e :: rest else e :: changeFlight f rest

/-- The entry in flight leaves its queue and its units are freed. -/
def leaveQueue (c : CardClass) (e : QueueEntry) (s : State) : State :=
  freeUnits e.units (s.setQueue c (withoutFlight (s.queue c)))

/-- The entry in flight retired with a result code (R33, R35, R36). -/
def retireFlight (c : CardClass) (e : QueueEntry) (code : ResultCode) (s : State) : State :=
  countResults code 1 (appendResults [e.result code] (leaveQueue c e s))

/-- The entry in flight returned to its place with this attempt count; a class-2 entry whose due time has passed
is removed at this moment (R32, R34, R35, R31). -/
def returnFlight (c : CardClass) (attempts : Nat) (s : State) : State :=
  let s1 := s.setQueue c
    (changeFlight (fun e => { e with inFlight := false, attempts := attempts }) (s.queue c))
  match c with
  | .deadline => sweepLate s1
  | .control | .bulk => s1

/-- The outcomes the bus access unit hands over (R10). -/
inductive TxOutcome where
  | transmitted | accept | full | noReply | collided | cut
  deriving DecidableEq, Repr

/-- TRANSMITTED or ACCEPT. -/
def TxOutcome.success : TxOutcome → Bool
  | .transmitted | .accept => true
  | .full | .noReply | .collided | .cut => false

/-- The blocked flag of a destination set, its timer started or restarted (R34, R77). -/
def blockPeer (d : Dest) (s : State) : State :=
  if d.val < 16 then
    let i : Slot := Fin.ofNat 16 d.val
    s.setPeer i { s.peer i with blocked := true, blockedTimer := some (Config.ms 2) }
  else s

/-- A marked entry's outcome other than success (R36). -/
def outcomeMarked (c : CardClass) (e : QueueEntry) (code : ResultCode) (o : TxOutcome) (s : State) : State :=
  let s1 := retireFlight c e code s
  if o = .full then bump .fullReplies s1 else s1

/-- NONE on an unmarked entry (R35). -/
def outcomeNoReply (c : CardClass) (e : QueueEntry) (s : State) : State :=
  if e.attempts + 1 < 3 then returnFlight c (e.attempts + 1) s
  else
    let s1 := raiseInternal keyX4 (retireFlight c { e with attempts := 3 } .undeliverable s)
    { s1 with txs := { s1.txs with undeliverableTimer := some (Config.ms 1000) } }

/-- The outcome of a card frame (R32 to R36). DESIGN CHOICE: a FULL answered to an orphan sets no blocked flag, with or
without a purge mark; R34 and R77 set it for an unmarked entry, and R36 does not name it among the effects of an orphan's
outcome (log 40). -/
def cardOutcome (c : CardClass) (o : TxOutcome) (s : State) : State :=
  match flightOf (s.queue c) with
  | none => s
  | some e =>
    if e.orphan then leaveQueue c e s
    else if o.success then retireFlight c e .sent s
    else match e.mark with
      | some code => outcomeMarked c e code o s
      | none =>
        match o with
        | .full => returnFlight c e.attempts (blockPeer e.dest (bump .fullReplies s))
        | .noReply => outcomeNoReply c e s
        | .collided | .cut | .transmitted | .accept => returnFlight c e.attempts s

/-- COLLIDED or CUT of an own frame: a card entry returns or retires by its mark, an internal slot becomes pending
(R26, R32, R36). -/
def lostOutcome (t : Transmission) (o : TxOutcome) (s : State) : State :=
  match t.source with
  | .card c => cardOutcome c o s
  | .internal k => s.setSlots (s.txs.slots.set k (s.txs.slots.get k).returned)

/-! ### How an own frame ends on the pair (R8 to R11) -/

/-- The unit's fields replaced. -/
def State.setBau (s : State) (f : Bau → Bau) : State := { s with bau := f s.bau }

/-- The pointer after a good frame from a slot (R6). -/
def State.pointerAfter (s : State) (i : Slot) : Slot := Fin.ofNat 16 ((i.val + 1) % s.cabinet)

/-- The counter of a cause; a collision counts under OWN COLLISIONS when the station sent the frame (R15, R17). -/
def causeCounter (own : Bool) : BrokenCause → CounterId
  | .collision => if own then .ownCollisions else .collisionsSeen
  | .codeViolation => .codeFaults
  | .check => .checkFaults
  | .foreignSlot => .foreignSlot

/-- A frame judged broken: the pointer becomes 0 and its cause is counted (R6, R15). -/
def judgeBroken (own : Bool) (cause : BrokenCause) (s : State) : State :=
  bump (causeCounter own cause) (s.setBau (fun b => { b with pointer := 0 }))

/-- A transmission is unicast DATA, whose outcome waits for the reply window (R10). -/
def Transmission.awaitsReply (t : Transmission) : Bool :=
  match t.source with
  | .card _ => decide (t.dest.val < 16)
  | .internal _ => false

/-- An own frame has been sent to its end marker: FRAMES SENT, the pointer, the consecutive-collision count 0, X1 cleared,
and TRANSMITTED of a card frame, or the wait for its reply (R9 to R11). -/
def endSent (t : Transmission) (s : State) : State :=
  let s1 := s.setBau (fun b => { b with
    view := .window, pointer := s.pointerAfter t.slot, collisions := 0, rx := none
    tx := if t.awaitsReply then some { t with complete := true } else none })
  let s2 := clearKey keyX1 (bump .framesSent s1)
  match t.source with
  | .card c => if t.awaitsReply then s2 else cardOutcome c .transmitted s2
  | .internal _ => s2

/-- The consecutive-collision count one higher, with X1 at 4 (R11). -/
def countCollision (s : State) : State :=
  let n := min (s.bau.collisions + 1) 8
  let s1 := s.setBau (fun b => { b with collisions := n })
  if n = 4 then raiseInternal keyX1 s1 else s1

/-- An own frame has collided: COLLIDED is handed over, the frame is judged broken, and the rest of the activity is
awaited (R8 to R11). DESIGN CHOICE: COLLIDED is handed over before the count can reach 8, so that a class-2 entry whose
due time has passed leaves with LATE and not with the WITHDRAWN of the purge that CONFLICT makes (R31, R39, log 33). -/
def endCollided (t : Transmission) (s : State) : State :=
  let s1 := s.setBau (fun b => { b with tx := none, rx := some .ownCollided })
  countCollision (judgeBroken true .collision (lostOutcome t .collided s1))

/-- The end of an own frame that the pair has shown and no command has taken yet, taken as far as the frame and its card
entry go (R9, R10, R144; log 41). -/
def takeEnding (s : State) : State :=
  match s.bau.tx with
  | some t => if t.ended then endSent t s else if t.collided then endCollided t s else s
  | none => s

/-! ### Slot emptying (R27) -/

/-- Every slot emptied but those kept; the parameters stay. -/
def Slots.emptied (t : Slots) (keep : InternalKind → Bool) : Slots :=
  { sync := if keep .sync then t.sync else .empty
    announce := if keep .announce then t.announce else .empty
    summary := if keep .summary then t.summary else .empty
    join := if keep .join then t.join else .empty
    withdraw := if keep .withdraw then t.withdraw else .empty
    gone := if keep .gone then t.gone else .empty
    ready := if keep .ready then t.ready else .empty
    withdrawCause := t.withdrawCause, goneForced := t.goneForced }

/-- The internal slots emptied but those kept (R27). -/
def emptySlots (keep : InternalKind → Bool) (s : State) : State := s.setSlots (s.txs.slots.emptied keep)

/-! ### Sequence numbers (R24) -/

/-- Fresh sequence numbers from `n` for the entries to a slot, in order; the next number after them. -/
def renumber (i : Slot) (n : Byte) : List QueueEntry → List QueueEntry × Byte
  | [] => ([], n)
  | e :: rest =>
    if e.isFor i then
      let r := renumber i (n + 1) rest
      ({ e with sequence := some n } :: r.1, r.2)
    else
      let r := renumber i n rest
      (e :: r.1, r.2)

/-- The sequence counters of a slot set to 0 and its queued entries renumbered (R24). -/
def resetSequence (i : Slot) (s : State) : State :=
  let c1 := renumber i 0 (s.queue .control)
  let c2 := renumber i 0 (s.queue .deadline)
  let c3 := renumber i 0 (s.queue .bulk)
  { s with txs := { s.txs with
      queues := { control := c1.1, deadline := c2.1, bulk := c3.1 }
      nextSeq := s.txs.nextSeq.set i.val { control := c1.2, deadline := c2.2, bulk := c3.2 } i.isLt } }

/-! ### Admission (R21, R22) -/

/-- Condition 1 of R21. -/
def State.sendMalformed (s : State) (m : SendRequest) : Bool :=
  (m.cls == 0) || decide (Config.maxPayload < m.payload.length)
    || (decide (m.dest.val < 16) && (decide (s.cabinet ≤ m.dest.val) || decide (s.ownSlot.map Fin.val = some m.dest.val)))
    || (m.cls != 2 && (m.release.isSome || m.due.isSome))

/-- Condition 3 of R21: a slot whose entry is neither PRESENT nor DRAINING. -/
def State.noPeer (s : State) (d : Dest) : Bool :=
  decide (d.val < 16) &&
    (match (s.peer (Fin.ofNat 16 d.val)).state with
     | .present | .draining => false
     | .absent | .gone | .lost => true)

/-- Condition 6 of R21. -/
def State.sendFull (s : State) (c : CardClass) (len : Nat) : Bool :=
  decide (Config.queueDepth c ≤ (s.queue c).length) || decide (s.txs.storeFree < unitsFor len)
    || decide (Config.queuedLimit ≤ s.queued + s.cpt.results.length)

/-- The refusal of a SEND, by the first condition that holds (R21); `Except.ok` names its class when admitted. -/
def sendJudgement (m : SendRequest) (s : State) : Except RefusalCode CardClass :=
  if s.sendMalformed m then .error .badRequest
  else if s.sec.state ≠ .joined then .error .notJoined
  else if s.noPeer m.dest then .error .noPeer
  else if m.cls == 2 && !s.timeValid then .error .timeNotValid
  else if m.cls == 2 && (dueOf m.due).any s.duePassed then .error .pastDue
  else match cardClassOf m.cls.toNat with
    | none => .error .badRequest
    | some c => if s.sendFull c m.payload.length then .error .queueFull else .ok c

/-- The sequence number a SEND takes: the counter's value for a unicast destination (R22). -/
def State.sequenceFor (s : State) (c : CardClass) (d : Dest) : Option Byte :=
  if d.val < 16 then some ((s.txs.nextSeq[(Fin.ofNat 16 d.val : Slot)]).get c) else none

/-- The counter of a unicast destination and class advanced (R22). -/
def advanceSequence (c : CardClass) (d : Dest) (s : State) : State :=
  if d.val < 16 then
    let i : Slot := Fin.ofNat 16 d.val
    let p := s.txs.nextSeq[i]
    { s with txs := { s.txs with nextSeq := s.txs.nextSeq.set i.val (p.set c (p.get c + 1)) i.isLt } }
  else s

/-- The entry an admitted SEND makes (R22). -/
def State.entryFor (s : State) (c : CardClass) (m : SendRequest) : QueueEntry :=
  { tag := m.tag, dest := m.dest, payload := m.payload, sequence := s.sequenceFor c m.dest, due := dueOf m.due,
    release := m.release, released := m.release.isNone, attempts := 0, inFlight := false, mark := none, orphan := false }

/-- A SEND admitted to the queue of its class (R22). -/
def admitSend (c : CardClass) (m : SendRequest) (s : State) : State :=
  let s1 := advanceSequence c m.dest (s.setQueue c (s.queue c ++ [s.entryFor c m]))
  { s1 with txs := { s1.txs with storeFree := s1.txs.storeFree - unitsFor m.payload.length } }

/-! ### Candidates (R28, R29) -/

/-- A destination is blocked: it names a slot whose blocked flag is set (R29). -/
def State.destBlocked (s : State) (d : Dest) : Bool :=
  decide (d.val < 16) && (s.peer (Fin.ofNat 16 d.val)).blocked

/-- The place of the card candidate in a queue: the oldest entry with no older entry to its destination (`seen`),
not blocked and released (R29). -/
def headCandidate (blocked : Dest → Bool) (seen : List Dest) : List QueueEntry → Option Nat
  | [] => none
  | e :: rest =>
    if !seen.contains e.dest && !blocked e.dest && e.released && !e.inFlight then some 0
    else (headCandidate blocked (e.dest :: seen) rest).map (· + 1)

/-- The card candidate of a queue (R29); C2 has one only while time is valid. -/
def State.cardCandidate (s : State) (c : CardClass) : Option Nat :=
  match c with
  | .deadline => if s.timeValid then headCandidate s.destBlocked [] (s.queue .deadline) else none
  | .control | .bulk => headCandidate s.destBlocked [] (s.queue c)

/-- The first pending slot of a list. -/
def State.firstPending (s : State) (ks : List InternalKind) : Option InternalKind :=
  ks.find? (fun k => (s.txs.slots.get k).offered)

/-- A candidate: an internal frame, or the entry at a place of a card queue. -/
inductive Candidate where
  | internal (k : InternalKind)
  | card (c : CardClass) (place : Nat)
  deriving DecidableEq, Repr

/-- The candidate of a class (R28). -/
def State.candidateOf (s : State) (cls : Nat) : Option Candidate :=
  match s.sec.state with
  | .joined | .draining =>
    match cls with
    | 0 => (s.firstPending [.sync, .announce]).map .internal
    | 1 =>
      match s.firstPending [.withdraw, .gone, .join, .ready, .summary] with
      | some k => some (.internal k)
      | none => (s.cardCandidate .control).map (.card .control)
    | 2 => (s.cardCandidate .deadline).map (.card .deadline)
    | 3 => (s.cardCandidate .bulk).map (.card .bulk)
    | _ => none
  | .joining => if cls = 1 then (s.firstPending [.join]).map .internal else none
  | .forced => if cls = 1 then (s.firstPending [.gone]).map .internal else none
  | .unseated | .seated | .powering | .config | .listening | .withdrawn | .isolated | .conflict | .powerFault => none

/-! ### Release (R30) -/

/-- Every class-2 entry that waits on a strobe released (R30). -/
def releaseOn (g : Strobe) (s : State) : State :=
  s.setQueue .deadline ((s.queue .deadline).map (fun e => if e.release = some g then { e with released := true } else e))

/-! ### Card reset (R41) -/

/-- A queue after a card reset: the entry whose frame is on the pair stays as an orphan. -/
def orphaned (q : List QueueEntry) : List QueueEntry :=
  (q.filter QueueEntry.inFlight).map (fun e => { e with orphan := true })

/-- One queue's part of a card reset (R41). -/
def resetQueue (c : CardClass) (s : State) : State :=
  freeUnits (unitsOf ((s.queue c).filter (fun e => !e.inFlight))) (s.setQueue c (orphaned (s.queue c)))

/-- The transmit scheduler's part of a card reset (R41). -/
def resetQueues (s : State) : State := resetQueue .bulk (resetQueue .deadline (resetQueue .control s))

/-! ### Meanings -/

/-- DUE_TIME_PASSED: every queued class-2 entry whose due time has passed by the counter leaves with LATE (R31). -/
def execDueTimePassed (s : State) : Host.Outcome State Fault Refusal := .next (reportDrained (sweepLate s))

/-- LATE_TIMER_EXPIRY: X3 is cleared (R31). -/
def execLateTimerExpiry (s : State) : Host.Outcome State Fault Refusal :=
  .next (if s.txs.lateTimer.isNone then s
         else clearKey keyX3 { s with txs := { s.txs with lateTimer := none } })

/-- UNDELIVERABLE_TIMER_EXPIRY: X4 is cleared (R35). -/
def execUndeliverableTimerExpiry (s : State) : Host.Outcome State Fault Refusal :=
  .next (if s.txs.undeliverableTimer.isNone then s
         else clearKey keyX4 { s with txs := { s.txs with undeliverableTimer := none } })

end Sys2Proof.Machine
end

