-- ==== Sys2Proof/Machine/Receive.lean ====
section
/-! DEFINITION. The receive pool (spec 3): which frames it takes, the unicast decision, group frames, READY, and what
each kind of reset does to it. -/

namespace Sys2Proof.Machine

open Sys2Proof

/-- The conditions of R58. -/
def State.readyDue (s : State) : Bool :=
  !s.rxp.refused.isEmpty && decide (s.rxp.readyLevel ≤ s.rxp.free) && !s.rxp.readyOutstanding

/-- READY requested at the first moment its conditions hold (R58). -/
def testReady (s : State) : State :=
  if s.readyDue then request .ready { s with rxp := { s.rxp with readyOutstanding := true } } else s

/-- A DATA frame is addressed to the station (R47). -/
def State.addressed (s : State) (d : Dest) : Bool :=
  if d.val < 16 then decide (s.ownSlot.map Fin.val = some d.val)
  else if d.val = 31 then true
  else s.rxp.groups.getLsbD (d.val - 15)

/-- The late mark of a frame at its end marker (R53). -/
def State.lateMark (s : State) (f : DataFrame) : Bool :=
  decide (f.cls = .deadline) && s.timeValid
    && (dueOf f.due).any s.duePassed

/-- A frame as the pool stores it. -/
def State.storedForm (s : State) (f : DataFrame) : StoredFrame :=
  { source := f.source, cls := f.cls, dest := f.dest, payload := f.payload, late := s.lateMark f, inTransfer := false }

/-- A frame stored at the tail: its units are taken, FRAMES STORED and, when late, LATE ARRIVALS add 1 (R50, R53,
R54). -/
def storeFrame (f : DataFrame) (s : State) : State :=
  let x := s.storedForm f
  let s1 := { s with rxp := { s.rxp with frames := s.rxp.frames ++ [x], free := s.rxp.free - x.units } }
  let s2 := bump .framesStored s1
  if x.late then bump .lateArrivals s2 else s2

/-- The reply the pool decides, to be driven when the window opens (R12). -/
def setReply (code : ReplyCode) (s : State) : State :=
  { s with bau := { s.bau with reply := some { code := code, driving := false } } }

/-- The gap between a frame's sequence and the last accepted one (R50). -/
def gapOf (sequence last : Byte) : Nat := (sequence - last - 1).toNat

/-- The last accepted sequence of a class set (R50, R74). -/
def setAccepted (i : Slot) (c : CardClass) (sequence : Byte) (s : State) : State :=
  s.setPeer i { s.peer i with sequence := (s.peer i).sequence.set c (some sequence) }

/-- The gap of a frame counted in the entry and in GAP FRAMES, when it is not 0 (R50). -/
def countGapOf (f : DataFrame) (s : State) : State :=
  match (s.peer f.source).sequence.get f.cls with
  | none => s
  | some last =>
    if gapOf f.sequence last = 0 then s
    else bumpBy .gapFrames (gapOf f.sequence last) (countGap f.source (gapOf f.sequence last) s)

/-- A duplicate: answered ACCEPT and discarded (R49). -/
def takeDuplicate (f : DataFrame) (s : State) : State :=
  setReply .accept (countDuplicate f.source (bump .duplicates s))

/-- A unicast frame stored and answered ACCEPT (R50). -/
def acceptUnicast (f : DataFrame) (s : State) : State :=
  setReply .accept (setAccepted f.source f.cls f.sequence (storeFrame f (countGapOf f s)))

/-- A unicast frame refused FULL: the sender joins the refused set and X2 is raised (R51). -/
def refuseUnicast (f : DataFrame) (s : State) : State :=
  let s1 := { s with rxp := { s.rxp with refused := insertSlot f.source s.rxp.refused } }
  setReply .full (testReady (raiseInternal keyX2 (bump .fullSent s1)))

/-- The unicast decision (R49 to R51). -/
def takeUnicast (f : DataFrame) (s : State) : State :=
  if (s.peer f.source).sequence.get f.cls = some f.sequence then takeDuplicate f s
  else if unitsFor f.payload.length ≤ s.rxp.free then acceptUnicast f s
  else refuseUnicast f s

/-- A group or broadcast frame: stored if there is room, else dropped (R54). -/
def takeGroup (f : DataFrame) (s : State) : State :=
  if unitsFor f.payload.length ≤ s.rxp.free then storeFrame f s else bump .groupDrops s

/-- A DATA frame passed to the receive pool (R47 to R54). -/
def poolTake (f : DataFrame) (s : State) : State :=
  if s.addressed f.dest then
    if takesPart s.sec.state then
      if f.dest.val < 16 then takeUnicast f s else takeGroup f s
    else bump .notReceiving s
  else s

/-- The report that READY was transmitted (R59). -/
def readyTransmitted (s : State) : State :=
  testReady (clearKey keyX2 { s with rxp := { s.rxp with refused := [], readyOutstanding := false } })

/-- READY outstanding becomes no at a transition that emptied its slot, and the condition is tested (R58, R60). -/
def readyWithdrawn (s : State) : State := testReady { s with rxp := { s.rxp with readyOutstanding := false } }

/-- The pool at seat loss (R46). -/
def poolSeatLoss (s : State) : State :=
  clearKey keyX2 { s with rxp := { s.rxp with
    frames := [], free := Config.poolUnits, refused := [], readyOutstanding := false } }

/-- The pool at a card reset (R61). -/
def poolCardReset (s : State) : State :=
  testReady { s with rxp := { s.rxp with frames := [], free := Config.poolUnits } }

/-- The head frame in transfer leaves the pool (R56). -/
def poolDelivered (s : State) : State :=
  match s.rxp.frames with
  | f :: rest =>
    if f.inTransfer then
      testReady (bump .framesDelivered { s with rxp := { s.rxp with frames := rest, free := s.rxp.free + f.units } })
    else s
  | [] => s

/-- The head frame the pool offers: none while a frame is in transfer (R55). -/
def State.offeredFrame (s : State) : Option StoredFrame :=
  match s.rxp.frames with
  | f :: _ => if f.inTransfer then none else some f
  | [] => none

/-- The head frame put in transfer (R55). -/
def markTransfer (s : State) : State :=
  match s.rxp.frames with
  | f :: rest => { s with rxp := { s.rxp with frames := { f with inTransfer := true } :: rest } }
  | [] => s

end Sys2Proof.Machine
end

