-- ==== Sys2Proof/Machine/Servo.lean ====
section
/-! DEFINITION. Validity and the strobe gate (R94, R97), the servo (R112 to R124), the tick with the sampling of the
pins (R86, R89, R96, log 30), the reference input (R91, R93), and the meanings of the time family's events. -/

namespace Sys2Proof.Machine

open Sys2Proof

/-! ### Validity and gate (R94, R97) -/

/-- A strobe output cut (R97). -/
def StrobeGen.low (g : StrobeGen) : StrobeGen := { g with output := false, left := 0 }

/-- The gate opened; the outputs stay low until a boundary is crossed (R97). -/
def openGate (s : State) : State := { s with tmu := { s.tmu with gateOpen := true } }

/-- The gate shut: running pulses are cut, and C2 is purged with TIME LOST (R94, R97, R38). -/
def shutGate (s : State) : State :=
  purgeTimeLost { s with tmu := { s.tmu with gateOpen := false, sta := s.tmu.sta.low, stb := s.tmu.stb.low } }

/-- Validity re-evaluated after a change of servo state or role, from what it was before (R94). -/
def reevaluate (before : Bool) (s : State) : State :=
  if before = s.timeValid then s else if s.timeValid then openGate s else shutGate s

/-- A change of servo state (R94). -/
def setServo (v : Servo) (s : State) : State :=
  if s.tmu.servo = v then s
  else reevaluate s.timeValid (signal .timeStateChange { s with tmu := { s.tmu with servo := v } })

/-- A change of role (R94, R107): the reference timeout is started or stopped, reference seen becomes no on becoming
SOURCE, T5 is cleared, and validity is re-evaluated. -/
def setRole (r : Role) (s : State) : State :=
  if s.src.role = r then s
  else
    let src := match r with
      | .source => { s.src with role := r, refTimeout := some (Config.ms 2000), refSeen := false }
      | .follower => { s.src with role := r, refTimeout := none }
    reevaluate s.timeValid (clearKey keyT5 (signal .timeStateChange { s with src := src }))

/-! ### Servo arithmetic (R115, R116) -/

/-- The clamp to ±134,217,728 (R115). -/
def clampRate (x : Int) : Int := max (-Config.rateLimit) (min Config.rateLimit x)

/-- P or ΔI: the exact product divided and truncated toward zero (R115). -/
def servoTerm (e f : Int) (shift : Nat) : Int := (e * f).tdiv (2 ^ (16 + shift) : Nat)

/-- The new integral (R115, step 3). -/
def newIntegral (s : State) (e f : Int) : Int := clampRate (s.tmu.integral + servoTerm e f s.tmu.settings.ki)

/-- The new rate word (R115, step 4). -/
def newRate (s : State) (e f : Int) : Int := clampRate (newIntegral s e f + servoTerm e f s.tmu.settings.kp)

/-- A clamp of step 3 or step 4 changed the value it was given (R116). -/
def updateClamped (s : State) (e f : Int) : Bool :=
  decide (newIntegral s e f ≠ s.tmu.integral + servoTerm e f s.tmu.settings.ki)
    || decide (newRate s e f ≠ newIntegral s e f + servoTerm e f s.tmu.settings.kp)

/-- The rate-limit count after an update, with T4 raised at 8 and cleared by an update that did not clamp (R116). -/
def countClamp (clamped : Bool) (s : State) : State :=
  if clamped then
    if 8 ≤ s.tmu.rateLimitCount then s
    else
      let s1 := { s with tmu := { s.tmu with rateLimitCount := s.tmu.rateLimitCount + 1 } }
      if s1.tmu.rateLimitCount = 8 then raiseInternal keyT4 s1 else s1
  else clearKey keyT4 { s with tmu := { s.tmu with rateLimitCount := 0 } }

/-- A servo update (R115, R116). -/
def servoUpdate (e f : Int) (s : State) : State :=
  countClamp (updateClamped s e f)
    { s with tmu := { s.tmu with integral := newIntegral s e f, rate := newRate s e f } }

/-! ### Servo states (R117 to R124) -/

/-- |e| is within a threshold given in nanoseconds (R114). -/
def within (e : Int) (ns : Nat) : Bool := decide (e.natAbs ≤ Config.unitsPerNs * ns)

/-- A step of the counter (R88, R118). -/
def stepTime (e : Int) (s : State) : State :=
  bump .steps { s with tmu := { s.tmu with time := s.tmu.time.add e, lockCount := 0 } }

/-- LOCKED reached in ACQUIRE (R118). -/
def reachLocked (s : State) : State :=
  setServo .locked { s with tmu := { s.tmu with everLocked := true, outlierCount := 0 } }

/-- A sample judged in ACQUIRE (R118). -/
def acquireSample (e f : Int) (s : State) : State :=
  if within e s.tmu.settings.stepThreshold then
    let s1 := servoUpdate e f s
    let n := if within e s.tmu.settings.lockThreshold then s1.tmu.lockCount + 1 else 0
    let s2 := { s1 with tmu := { s1.tmu with lockCount := n } }
    if n = 4 then reachLocked s2 else s2
  else stepTime e s

/-- ACQUIRE entered with both counts at 0 (R117, R119, R120). -/
def enterAcquire (s : State) : State :=
  setServo .acquire { s with tmu := { s.tmu with lockCount := 0, outlierCount := 0 } }

/-- HOLDOVER entered (R121). DEDUCED: R becomes I, the outlier count 0 and the holdover timer is started there also when a
seat loss or the entry into LISTENING, which empties the source table, is what makes the servo enter it (R124), although
the tables of R85 and R100 have R, the count and the timer unchanged at both (log 37). -/
def enterHoldover (s : State) : State :=
  let s1 := setServo .holdover { s with tmu := { s.tmu with rate := s.tmu.integral, outlierCount := 0 } }
  let s2 := raiseInternal keyT2 s1
  { s2 with tmu := { s2.tmu with holdoverTimer := some (Config.ticksPerSecond * s2.tmu.settings.holdoverLimit) } }

/-- What leaving HOLDOVER clears and stops (R121). -/
def leaveHoldover (s : State) : State :=
  let s1 := clearKey keyT3 (clearKey keyT2 s)
  { s1 with tmu := { s1.tmu with holdoverTimer := none } }

/-- The rule of a lost source: a timeout or a selection of none (R122 to R124). -/
def loseSource (s : State) : State :=
  match s.tmu.servo with
  | .locked => enterHoldover s
  | .acquire => if s.tmu.everLocked then enterHoldover s else setServo .free s
  | .free | .holdover => s

/-- A sample in LOCKED beyond the step threshold (R119). -/
def outlierSample (e f : Int) (s : State) : State :=
  let s1 := bump .outliers { s with tmu := { s.tmu with outlierCount := s.tmu.outlierCount + 1 } }
  if 4 ≤ s1.tmu.outlierCount then acquireSample e f (enterAcquire s1) else s1

/-- A sample judged in the state the servo holds (R117 to R120). -/
def judgeSample (e f : Int) (s : State) : State :=
  match s.tmu.servo with
  | .free => acquireSample e f (enterAcquire s)
  | .acquire => acquireSample e f s
  | .locked =>
    if within e s.tmu.settings.stepThreshold then
      let s1 := servoUpdate e f s
      { s1 with tmu := { s1.tmu with outlierCount := 0 } }
    else outlierSample e f s
  | .holdover =>
    if within e s.tmu.settings.stepThreshold then
      let s1 := servoUpdate e f (setServo .locked (leaveHoldover s))
      { s1 with tmu := { s1.tmu with outlierCount := 0 } }
    else acquireSample e f (enterAcquire (leaveHoldover s))

/-- A sample formed: SAMPLES adds 1, the last error is kept, and the servo judges it (R113). -/
def takeSample (e : Int) (kind : SampleKind) (s : State) : State :=
  let s1 := bump .samples { s with tmu := { s.tmu with lastError := some (e, kind) } }
  judgeSample e (match kind with | .sync => Config.syncFactor | .ref => Config.refFactor) s1

/-- The modelled path delay between two slots, in fraction units (R112). -/
def pathUnits (settings : ServoSettings) (a b : Slot) : Nat :=
  Config.unitsPerNs * settings.linkLatency
    + ((a.val : Int) - b.val).natAbs * (Config.unitsPerNs * settings.pitchDelay / 1000)

/-- The error of a SYNC sample (R113). -/
def syncError (transmit path : Nat) (stamp : FullTime) : Int :=
  signedDifference (((transmit : Int) + path) % (Config.timeWrap : Int)) stamp.units

/-! ### The tick (R2, R86, R89, R96, R109) -/

/-- Ages counted in ticks: one more, saturating at 65,535 ms (spec 4.1). -/
def tickAge (a : Option Nat) : Option Nat := a.map (fun x => min (x + 1) (Config.ms Config.ageLimitMs))

/-- One tick in a peer entry. -/
def PeerEntry.tick (e : PeerEntry) : PeerEntry :=
  { e with age := tickAge e.age, blockedTimer := tickTimer e.blockedTimer }

/-- One tick in a source table entry. -/
def SourceEntry.tick (e : SourceEntry) : SourceEntry := { e with age := e.age.map (· + 1) }

/-- The eight alarm inputs sampled at a tick, bit n of the levels for input n (R153). -/
def sampleInputs (high : BitVec 8) (v : Vector AlarmInput 8) : Vector AlarmInput 8 :=
  #v[v[0].sample (high.getLsbD 0), v[1].sample (high.getLsbD 1), v[2].sample (high.getLsbD 2),
     v[3].sample (high.getLsbD 3), v[4].sample (high.getLsbD 4), v[5].sample (high.getLsbD 5),
     v[6].sample (high.getLsbD 6), v[7].sample (high.getLsbD 7)]

/-- One tick of a pulse: a tick less of its width, and a pulse that has lasted its width is over (R96). -/
def StrobeGen.tick (g : StrobeGen) : StrobeGen :=
  if g.left = 0 then { g with output := false } else { g with left := g.left - 1 }

/-- One tick of a reply: the pair is released after its eighth bit (R197). -/
def ReplyDrive.tick (r : ReplyDrive) : Option ReplyDrive :=
  if r.driving then
    if r.left ≤ Config.bitsPerTick then none else some { r with left := r.left - Config.bitsPerTick }
  else some r

/-- Every timer and age of the station one local tick on (spec 00, section 5.2), with the claim tick count (R2), the
frame or reply being driven, and every filter with the level sampled at its pin, through the synchronisers of the alarm
inputs, ALERT, HOLD and CRST; the straps pass theirs; the alert line reads asserted while this station or another pulls
it (R8, R128, R129, R153, R171, R183, R188, R190). -/
def tickTimers (s : State) : State :=
  { s with
    bau := { s.bau with tickCount := s.bau.tickCount + 1, tx := s.bau.tx.map (Transmission.tick s.pins.pair)
                        reply := s.bau.reply.bind ReplyDrive.tick }
    txs := { s.txs with lateTimer := tickTimer s.txs.lateTimer,
                        undeliverableTimer := tickTimer s.txs.undeliverableTimer }
    ptb := mapVector PeerEntry.tick s.ptb
    tmu := { s.tmu with holdoverTimer := tickTimer s.tmu.holdoverTimer,
                        sta := s.tmu.sta.tick, stb := s.tmu.stb.tick }
    src := { s.src with table := s.src.table.map SourceEntry.tick,
                        announceTimer := tickTimer s.src.announceTimer,
                        syncTimeout := tickTimer s.src.syncTimeout, refTimeout := tickTimer s.src.refTimeout }
    sec := { s.sec with powerGoodTimer := tickTimer s.sec.powerGoodTimer, listenTimer := tickTimer s.sec.listenTimer,
                        drainTimer := tickTimer s.sec.drainTimer, goneTimer := tickTimer s.sec.goneTimer,
                        noticeTimer := tickTimer s.sec.noticeTimer,
                        seat := s.sec.seat.sample (Config.ms 20) (Config.ms 1) s.pins.seated,
                        eject := s.sec.eject.sample (Config.ms 20) (Config.ms 20) s.pins.latched,
                        pgood := s.sec.pgood.sample (Config.ms 1) (Config.ms 1) s.pins.powerGood }
    alu := { s.alu with inputs := sampleInputs s.pins.inputsHigh s.alu.inputs,
                        alert := s.alu.alert.sample (Config.ms 1) (Config.ms 1) (s.pins.alertPulled || s.alu.alertDrive),
                        intervalTimer := tickTimer s.alu.intervalTimer, holdOffTimer := tickTimer s.alu.holdOffTimer }
    cpt := { s.cpt with hold := s.cpt.hold.sample Config.ticksPerUs Config.ticksPerUs s.pins.holdAsserted,
                        crst := s.cpt.crst.sample Config.ticksPerUs Config.ticksPerUs s.pins.resetHeld }
    stl := { s.stl with stage := s.pins.straps, synchronised := s.stl.stage } }

/-- The advance of one tick in fraction units (R86). -/
def State.tickAdvance (s : State) : Int := Config.tickUnits + (residueStep s.tmu.residue s.tmu.rate).1

/-- The counter and the residue one tick on (R86). -/
def advanceCounter (s : State) : State :=
  { s with tmu := { s.tmu with time := s.tmu.time.add s.tickAdvance,
                               residue := (residueStep s.tmu.residue s.tmu.rate).2 } }

/-- A strobe generator. -/
def Tmu.strobe (t : Tmu) : Strobe → StrobeGen
  | .sta => t.sta
  | .stb => t.stb

/-- A strobe generator replaced. -/
def Tmu.setStrobe (t : Tmu) (g : Strobe) (x : StrobeGen) : Tmu :=
  match g with
  | .sta => { t with sta := x }
  | .stb => { t with stb := x }

/-- The start of a pulse: the output goes high for its width, and the entries waiting on the strobe are released
(R96, R30). DESIGN CHOICE: where a pulse still runs, one begun before new settings were taken or before a step, the width
of the new one is counted from its own start, and the output stays high till then (R95, log 39). -/
def startPulse (g : Strobe) (s : State) : State :=
  let x := s.tmu.strobe g
  releaseOn g { s with tmu := s.tmu.setStrobe g { x with output := true, left := x.settings.width } }

/-- A pulse if this advance of the counter crosses a boundary of the generator while the gate is open (R96, R97). -/
def strobeTick (g : Strobe) (before : FullTime) (advance : Int) (s : State) : State :=
  let x := (s.tmu.strobe g).settings
  if s.tmu.gateOpen && crosses before advance (periodNs x.period) x.offset then startPulse g s else s

/-- The three conditions of R109. -/
def State.syncDue (s : State) : Bool :=
  decide (s.src.role = .source) && decide (s.sec.state = .joined) && decide (s.tmu.servo ≠ .acquire)

/-- SYNC requested if this advance crosses a sync boundary (R109). -/
def syncTick (before : FullTime) (advance : Int) (s : State) : State :=
  if s.syncDue && crosses before advance Config.syncIntervalNs 0 then request .sync s else s

/-- The pin levels sampled at the next tick: the first of those to come, else the ones that stand. -/
def State.pinsNext (s : State) : PinLevels := s.pinsAhead.headD s.pins

/-- The pin levels of this tick taken. -/
def takePins (s : State) : State := { s with pins := s.pinsNext, pinsAhead := s.pinsAhead.tail }

/-- One tick of the local clock (R86). -/
def tickState (s : State) : State :=
  let before := s.tmu.time
  let advance := s.tickAdvance
  syncTick before advance
    (strobeTick .stb before advance (strobeTick .sta before advance (advanceCounter (tickTimers (takePins s)))))

/-! ### The reference input (R91 to R93, R123) -/

/-- The label time of an edge: the pending label, else the nearest second (R93). -/
def State.labelFor (s : State) (stamp : FullTime) : Seconds := s.tmu.label.getD (nearestSecond stamp)

/-- The pending label consumed by an edge (R93). -/
def useLabel (s : State) : State :=
  if s.tmu.label.isSome then signal .referenceLabelUsed { s with tmu := { s.tmu with label := none } } else s

/-- An edge taken with role SOURCE: the reference timeout restarts, reference seen becomes yes, T5 is cleared, and
the pair forms a sample (R93, R113, R123). -/
def takeReference (stamp : FullTime) (s : State) : State :=
  let e := (FullTime.ofSecond (s.labelFor stamp)).sub stamp
  let s1 := clearKey keyT5 (useLabel
    { s with src := { s.src with refTimeout := some (Config.ms 2000), refSeen := true } })
  takeSample e .ref s1

/-- A rising edge on REF (R91). -/
def refEdge (k : EdgeDelay) (s : State) : State :=
  let stamp := s.stamp k
  let s1 := { s with tmu := { s.tmu with lastRef := some stamp } }
  match s.src.role with
  | .follower => s1
  | .source => takeReference stamp s1

/-! ### Meanings -/

/-- TICK (R86). -/
def execTick (s : State) : Host.Outcome State Fault Refusal := .next (tickState s)

/-- STROBE_PULSE_END: a pulse that has lasted its width goes low (R96). -/
def execStrobePulseEnd (g : Strobe) (s : State) : Host.Outcome State Fault Refusal :=
  .next (if (s.tmu.strobe g).left = 0 then { s with tmu := s.tmu.setStrobe g (s.tmu.strobe g).low } else s)

/-- REF_EDGE (R91, R93). -/
def execRefEdge (k : EdgeDelay) (s : State) : Host.Outcome State Fault Refusal := .next (reportDrained (refEdge k s))

/-- SYNC_TIMEOUT (R122). -/
def execSyncTimeout (s : State) : Host.Outcome State Fault Refusal :=
  .next (if s.src.syncTimeout.isNone then s
         else reportDrained (loseSource (bump .syncTimeouts { s with src := { s.src with syncTimeout := none } })))

/-- REFERENCE_TIMEOUT (R123). -/
def execReferenceTimeout (s : State) : Host.Outcome State Fault Refusal :=
  .next (if s.src.refTimeout.isNone then s
         else
           let s1 := bump .refTimeouts { s with src := { s.src with refTimeout := none } }
           reportDrained (loseSource (if s1.src.refSeen then raiseInternal keyT5 s1 else s1)))

/-- HOLDOVER_TIMER_EXPIRY: T3 is raised (R121). -/
def execHoldoverTimerExpiry (s : State) : Host.Outcome State Fault Refusal :=
  .next (if s.tmu.holdoverTimer.isNone then s
         else raiseInternal keyT3 { s with tmu := { s.tmu with holdoverTimer := none } })

end Sys2Proof.Machine
end

