-- ==== Sys2Proof/Machine/Sources.lean ====
section
/-! DEFINITION. The source selector (spec 6.1 to 6.5): its table, selection and role, candidacy, ANNOUNCE and SYNC
frames taken, and the meanings of its events. -/

namespace Sys2Proof.Machine

open Sys2Proof

/-! ### The table (R104 to R106) -/

/-- `a` stands before `b` in the order of R106: lowest quality, then priority, then slot. -/
def SourceEntry.before (a b : SourceEntry) : Bool :=
  decide (a.quality.val < b.quality.val)
    || (decide (a.quality.val = b.quality.val)
      && (decide (a.priority.toNat < b.priority.toNat)
        || (decide (a.priority.toNat = b.priority.toNat) && decide (a.slot.val < b.slot.val))))

/-- The first entry in the order of R106. -/
def bestSource : List SourceEntry → Option SourceEntry
  | [] => none
  | e :: rest =>
    match bestSource rest with
    | none => some e
    | some m => if m.before e then some m else some e

/-- The entry of a slot. -/
def findSource (i : Slot) (l : List SourceEntry) : Option SourceEntry := l.find? (fun x => decide (x.slot = i))

/-- The table with the entry of its slot added or replaced, kept in the order of slots. -/
def putSource (e : SourceEntry) (l : List SourceEntry) : List SourceEntry :=
  allSlots.filterMap (fun i => if i = e.slot then some e else findSource i l)

/-- The table without the entry of a slot. -/
def removeSource (i : Slot) (l : List SourceEntry) : List SourceEntry := l.filter (fun x => decide (x.slot ≠ i))

/-- The table replaced. -/
def State.setTable (s : State) (l : List SourceEntry) : State := { s with src := { s.src with table := l } }

/-! ### Selection (R106 to R108) -/

/-- T1 judged: raised when JOINED with no selection begins, cleared when that ends (R108). -/
def judgeSourceLost (s : State) : State :=
  let now := decide (s.sec.state = .joined) && s.src.selection.isNone
  if now = s.src.sourceLost then s
  else
    let s1 := { s with src := { s.src with sourceLost := now } }
    if now then raiseInternal keyT1 s1 else clearKey keyT1 s1

/-- The role that a selection gives (R106). -/
def State.roleFor (s : State) (sel : Option Slot) : Role :=
  if sel.isSome ∧ sel = s.ownSlot then .source else .follower

/-- The sync timeout that a new selection leaves: 250 ms for a peer, stopped otherwise (R107). -/
def State.syncTimeoutFor (s : State) (sel : Option Slot) : Timer :=
  if sel.isSome ∧ sel ≠ s.ownSlot then some (Config.ms 250) else none

/-- A changed selection and its consequences: the role and validity follow at the same moment, then the
loss-of-source rule when nothing is selected (R107). -/
def changeSelection (sel : Option Slot) (s : State) : State :=
  let s1 := signal .sourceChange
    { s with src := { s.src with selection := sel, syncTimeout := s.syncTimeoutFor sel } }
  let s2 := setRole (s1.roleFor sel) s1
  if sel.isNone then loseSource s2 else s2

/-- A run of selection (R106, R107). -/
def selectSource (s : State) : State :=
  let sel := (bestSource s.src.table).map SourceEntry.slot
  if sel = s.src.selection then s else changeSelection sel s

/-- A run of selection, after which T1 is judged (R108). -/
def runSelection (s : State) : State := judgeSourceLost (selectSource s)

/-- A slot's entry removed; its removal is a change of the table (R105). -/
def dropSource (i : Slot) (s : State) : State :=
  if (findSource i s.src.table).isSome then runSelection (s.setTable (removeSource i s.src.table)) else s

/-! ### Candidacy (R102, R103) -/

/-- The own entry (R102). -/
def State.ownEntry (s : State) (own : Slot) : SourceEntry :=
  { slot := own, quality := s.src.quality, priority := s.src.priority, age := none }

/-- The own entry added, replaced or removed as the conditions of R102 stand now. -/
def updateCandidacy (s : State) : State :=
  match s.ownSlot with
  | none => s
  | some own =>
    if s.candidate then
      if findSource own s.src.table = some (s.ownEntry own) then s
      else runSelection (s.setTable (putSource (s.ownEntry own) s.src.table))
    else dropSource own s

/-- ANNOUNCE requested and the announce timer started or restarted (R103). -/
def requestAnnounce (s : State) : State :=
  request .announce { s with src := { s.src with announceTimer := some (Config.ms 125) } }

/-- The value of SET QUALITY or of the record taken as own quality (R101). -/
def clampQuality (b : Byte) : Fin 4 := Fin.ofNat 4 (min b.toNat 3)

/-- SET QUALITY (R101). -/
def setQuality (b : Byte) (s : State) : State :=
  if clampQuality b = s.src.quality then s
  else
    let s1 := updateCandidacy { s with src := { s.src with quality := clampQuality b } }
    if s.sec.state = .joined ∧ s.src.capable = true then requestAnnounce s1 else s1

/-! ### Seating transitions -/

/-- The source selector emptied at seat loss and on entering LISTENING (R100). -/
def clearSources (s : State) : State :=
  let s1 := { s with src := { s.src with table := [], announceTimer := none } }
  runSelection s1

/-- JOINED entered: the own entry, the first ANNOUNCE, T1 (R102, R103, R108). -/
def sourcesJoined (s : State) : State :=
  let s1 := judgeSourceLost (updateCandidacy s)
  if s.src.capable then requestAnnounce s1 else s1

/-- JOINED left: the announce timer stops, the own entry goes, T1 is judged (R102, R103, R108). -/
def sourcesLeft (s : State) : State :=
  judgeSourceLost (updateCandidacy { s with src := { s.src with announceTimer := none } })

/-! ### Frames taken (R104, R111 to R113) -/

/-- An ANNOUNCE from a slot whose entry is PRESENT, acted on by its quality (R104). -/
def takePresentAnnounce (i : Slot) (quality : Fin 4) (priority : Byte) (s : State) : State :=
  if quality.val = 3 then dropSource i s
  else
    let e : SourceEntry := { slot := i, quality := quality, priority := priority, age := some 0 }
    let s1 := s.setTable (putSource e s.src.table)
    match findSource i s.src.table with
    | none => runSelection s1
    | some old => if old.quality = quality ∧ old.priority = priority then s1 else runSelection s1

/-- An ANNOUNCE passed to the source selector (R104); a station with no own slot takes none (R100). -/
def takeAnnounce (i : Slot) (quality : Fin 4) (priority : Byte) (s : State) : State :=
  if s.ownSlot.isSome ∧ (s.peer i).state = .present then takePresentAnnounce i quality priority s else s

/-- A SYNC passed to the source selector: a sample from the selected source of a FOLLOWER, else ignored and counted
(R111 to R113). A station with no own slot takes none as a sample (R100), and counts it like any other it ignores. -/
def takeSync (i : Slot) (transmit : Nat) (stamp : FullTime) (s : State) : State :=
  match s.ownSlot with
  | none => bump .syncsIgnored s
  | some own =>
    if s.src.role = .follower ∧ s.src.selection = some i then
      takeSample (syncError transmit (pathUnits s.tmu.settings own i) stamp) .sync
        { s with src := { s.src with syncTimeout := some (Config.ms 250) } }
    else bump .syncsIgnored s

/-! ### Meanings -/

/-- ANNOUNCE_TIMER_EXPIRY: ANNOUNCE is requested and the timer restarts (R103). -/
def execAnnounceTimerExpiry (s : State) : Host.Outcome State Fault Refusal :=
  .next (if s.src.announceTimer.isNone then s else requestAnnounce s)

/-- ANNOUNCE_TIMEOUT: the entry of a peer leaves the table (R105). The own entry has no announce age. -/
def execAnnounceTimeout (slot : Slot) (s : State) : Host.Outcome State Fault Refusal :=
  .next (if ((findSource slot s.src.table).bind SourceEntry.age).isSome then reportDrained (dropSource slot s) else s)

end Sys2Proof.Machine
end

