-- ==== Sys2Proof/Machine/Peers.lean ====
section
/-! DEFINITION. The peer table (spec 4): states, restarts, hand-offs, frames taken from peers, FORGET, clears, and the
meanings of its timeouts. -/

namespace Sys2Proof.Machine

open Sys2Proof

/-! ### State of an entry (spec 4.3) -/

/-- The state of an entry after a frame of a kind (R68 to R71). -/
def stateAfter (k : FrameKind) (old : PeerState) : PeerState :=
  match k with
  | .join => .present
  | .withdraw => .draining
  | .gone => .gone
  | .data | .sync | .announce | .summary | .ready =>
    match old with
    | .draining => .draining
    | .absent | .present | .gone | .lost => .present

/-- The frame restarts the peer (R68, R69). -/
def restarts (k : FrameKind) (old : PeerState) : Bool := decide (k = .join) || decide (old = .gone)

/-- Every class of an entry's sequence state unknown. -/
def PeerEntry.forgotten (e : PeerEntry) : PeerEntry := { e with sequence := .all none }

/-- The blocked flag cleared and its timer stopped (R78). -/
def PeerEntry.unblocked (e : PeerEntry) : PeerEntry := { e with blocked := false, blockedTimer := none }

/-! ### Hand-offs (R67) -/

/-- Entering GONE or LOST discards the stored summary and clears the blocked flag (R67). -/
def dropDeparted (i : Slot) (s : State) : State :=
  match (s.peer i).state with
  | .gone | .lost => s.setPeer i { (s.peer i).unblocked with summary := none }
  | .absent | .present | .draining => s

/-- Frames to a slot that entered GONE, LOST or ABSENT are purged (R37, R67). -/
def purgeDeparted (i : Slot) (s : State) : State :=
  match (s.peer i).state with
  | .gone | .lost | .absent => purgePeerLeft i s
  | .present | .draining => s

/-- The count of LOST or of GONE entries changes between two states of an entry. -/
def countChanges (a b : PeerState) : Bool :=
  (decide (a = .lost) != decide (b = .lost)) || (decide (a = .gone) != decide (b = .gone))

/-- The hand-offs for the change of an entry's state from `old` (R67). -/
def handOff (i : Slot) (old : PeerState) (restarted : Bool) (s : State) : State :=
  let new := (s.peer i).state
  if new = old then
    if restarted then signal .peerChange s else s
  else
    let s1 := purgeDeparted i (dropDeparted i s)
    let s2 := if old = .present then dropSource i s1 else s1
    let s3 := if countChanges old new then noticePeerView s2 else s2
    signal .peerChange s3

/-! ### Frames taken (R65, R66) -/

/-- A restart: every class of the entry's sequence state unknown, the sequence counters for the slot reset; IMPLIED
JOINS counts one made by a frame that is no JOIN (R68, R69). -/
def restartPeer (i : Slot) (k : FrameKind) (s : State) : State :=
  let s1 := resetSequence i (s.setPeer i (s.peer i).forgotten)
  if k = .join then s1 else bump .impliedJoins s1

/-- The records a frame of a kind leaves in its sender's entry (R69 to R71). -/
def PeerEntry.recorded (e : PeerEntry) (n : Nat) (k : FrameKind) (body : List Byte) : PeerEntry :=
  match k with
  | .join => { e with join := some (readJoin n body), withdrawCause := none, goneForced := none }
  | .withdraw => { e with withdrawCause := some (withdrawCauseOf (byteAt body 0)) }
  | .gone => { e with goneForced := some ((byteAt body 0).getLsbD 0) }
  | .data | .sync | .announce | .summary | .ready => e

/-- The entry update of R65: age 0, FRAMES, a restart, the new state and records. -/
def updateEntry (i : Slot) (k : FrameKind) (body : List Byte) (s : State) : State :=
  let old := (s.peer i).state
  let s1 := countFrame i (s.setPeer i { s.peer i with age := some 0 })
  let s2 := if restarts k old then restartPeer i k s1 else s1
  s2.setPeer i { (s2.peer i).recorded s2.cabinet k body with state := stateAfter k old }

/-- A SUMMARY stored whole, and the alarm unit told (R79). -/
def storeSummary (i : Slot) (body : List Byte) (s : State) : State :=
  noticePeerView (s.setPeer i { s.peer i with summary := some (readSummary body) })

/-- A READY heard while the blocked flag is set clears it (R78). -/
def hearReady (i : Slot) (s : State) : State :=
  if (s.peer i).blocked then s.setPeer i (s.peer i).unblocked else s

/-- A good frame from another slot: the entry update, then what its kind does with the body, then the hand-offs of
the net change (R65 to R67). -/
def hearPeer (i : Slot) (k : FrameKind) (body : List Byte) (act : State → State) (s : State) : State :=
  let old := (s.peer i).state
  handOff i old (restarts k old) (act (updateEntry i k body s))

/-! ### Silence, FORGET, clears, JOIN -/

/-- The age of an entry whose silence timeout is taken: at least 350 ms (R72). -/
def silentAge (a : Option Nat) : Option Nat := some (max (a.getD 0) (Config.ms 350))

/-- The silence timeout (R72). -/
def loseSilent (i : Slot) (s : State) : State :=
  let old := (s.peer i).state
  handOff i old false
    (bump .peersLost (s.setPeer i { s.peer i with state := .lost, age := silentAge (s.peer i).age }))

/-- A FORGET of a GONE or LOST entry: ABSENT, with only its sequence state kept (R73). -/
def forgetPeer (i : Slot) (s : State) : State :=
  let old := (s.peer i).state
  handOff i old false (s.setPeer i { PeerEntry.cleared with sequence := (s.peer i).sequence })

/-- The table cleared (R64). -/
def clearTable (s : State) : State :=
  let known := s.ptb.toList.any (fun e => decide (e.state ≠ .absent))
  let s1 := noticePeerView { s with ptb := Vector.replicate 16 .cleared }
  if known then signal .peerChange s1 else s1

/-- The own JOIN was transmitted: every entry's sequence state becomes unknown (R75). -/
def forgetSequences (s : State) : State := { s with ptb := mapVector PeerEntry.forgotten s.ptb }

/-! ### Meanings -/

/-- SILENCE_TIMEOUT, of a PRESENT or DRAINING entry (R72). -/
def execSilenceTimeout (slot : Slot) (s : State) : Host.Outcome State Fault Refusal :=
  .next (match (s.peer slot).state with
    | .present | .draining => reportDrained (loseSilent slot s)
    | .absent | .gone | .lost => s)

/-- BLOCKED_TIMER_EXPIRY: the blocked flag is cleared (R78). -/
def execBlockedTimerExpiry (slot : Slot) (s : State) : Host.Outcome State Fault Refusal :=
  .next (if (s.peer slot).blockedTimer.isNone then s else s.setPeer slot (s.peer slot).unblocked)

end Sys2Proof.Machine
end

