-- ==== Sys2Proof/Machine/Seating.lean ====
section
/-! DEFINITION. The seating controller (spec 7): what each change of seating state does to every block, the entries into
the thirteen states, and the meanings of the pin, timer, WITHDRAW and REJOIN events. -/

namespace Sys2Proof.Machine

open Sys2Proof

/-! ### One change of seating state, block by block -/

/-- The states whose entry purges the card queues with WITHDRAWN (R39, R40). -/
def purgesOn : Seating → Bool
  | .forced | .conflict | .isolated | .unseated => true
  | .seated | .powering | .config | .listening | .joining | .joined | .draining | .withdrawn | .powerFault => false

/-- The controller's own part: state, DRVEN and RMVOK, every timer stopped, a running load aborted, and SEATING STATE
CHANGE (R127, R130, R132, R136, R151). -/
def enterBase (new : Seating) (s : State) : State :=
  signal .seatingStateChange { s with
    sec := { s.sec with
      state := new, drven := drvenIn new, rmvok := rmvokIn new,
      powerGoodTimer := none, listenTimer := none, drainTimer := none, goneTimer := none, noticeTimer := none }
    stl := { s.stl with load := if new = .config then s.stl.load else none } }

/-- The card queues' part (R39, R40). -/
def enterQueues (new : Seating) (s : State) : State := if purgesOn new then purgeWithdrawn s else s

/-- The internal slots' and sequence counters' part (R20, R27). -/
def enterSlots (new : Seating) (s : State) : State :=
  match new with
  | .forced => requestGone true (emptySlots (fun k => decide (k = .gone)) s)
  | .isolated | .conflict | .unseated => emptySlots (fun _ => false) s
  | .listening =>
    let s1 := emptySlots (fun k => decide (k = .ready)) s
    { s1 with txs := { s1.txs with nextSeq := Vector.replicate 16 (PerClass.all 0) } }
  | .seated | .powering | .config | .joining | .joined | .draining | .withdrawn | .powerFault => s

/-- A change to a state cuts this transmission: the drivers go off, or the state is FORCED and the frame is no GONE
(R9). A frame whose end marker has been driven, or that has collided, is no longer being sent, and ends as it did
(R144). -/
def cutBy (new : Seating) (t : Transmission) : Bool :=
  t.sending && (!drvenIn new || (decide (new = .forced) && decide (t.source ≠ .internal .gone)))

/-- An own frame cut: FRAMES CUT, the outcome CUT, and the rest of the activity awaits its judgement (R9, R10). -/
def cutFrame (t : Transmission) (s : State) : State :=
  lostOutcome t .cut (bump .framesCut { s with bau := { s.bau with tx := none, rx := some .ownCut } })

/-- The cut that a change to a state makes, if an own frame is on the pair (R9). -/
def enterCut (new : Seating) (s : State) : State :=
  match s.bau.tx with
  | some t => if cutBy new t then cutFrame t s else s
  | none => s

/-- A frame whose reply window is open at seat loss: the window never ends here, and the frame counts as cut for its
entry (R40). -/
def dropAwaited (s : State) : State :=
  match s.bau.tx with
  | some t => lostOutcome t .cut { s with bau := { s.bau with tx := none } }
  | none => s

/-- The bus access unit's part: own frames and replies stop; the values of R2 at seat loss and LISTENING; the view
leaves INACTIVE on entering SEATED (R1, R2, R9, R12). -/
def enterBus (new : Seating) (s : State) : State :=
  let s1 := enterCut new s
  let s2 := if takesPart new then s1 else { s1 with bau := { s1.bau with reply := none } }
  match new with
  | .unseated =>
    let s3 := dropAwaited (takeEnding s2)
    { s3 with bau := { s3.bau with view := .inactive, position := 0, positionNew := false, rx := none } }
  | .listening => { s2 with bau := { s2.bau with pointer := 0, collisions := 0 } }
  | .seated => if s2.bau.view = .inactive then { s2 with bau := { s2.bau with view := .settle } } else s2
  | .powering | .config | .joining | .joined | .draining | .forced | .withdrawn | .isolated | .conflict
  | .powerFault => s2

/-- The receive pool's part (R46, R60). -/
def enterPool (new : Seating) (s : State) : State :=
  match new with
  | .unseated => poolSeatLoss s
  | .forced | .conflict | .isolated => readyWithdrawn s
  | .seated | .powering | .config | .listening | .joining | .joined | .draining | .withdrawn | .powerFault => s

/-- The peer table's part (R64). -/
def enterPeers (new : Seating) (s : State) : State :=
  match new with
  | .unseated | .listening => clearTable s
  | .seated | .powering | .config | .joining | .joined | .draining | .forced | .withdrawn | .isolated | .conflict
  | .powerFault => s

/-- The source selector's part (R100, R102, R103, R108). -/
def enterSources (old new : Seating) (s : State) : State :=
  match new with
  | .unseated | .listening => clearSources s
  | .joined => sourcesJoined s
  | .seated | .powering | .config | .joining | .draining | .forced | .withdrawn | .isolated | .conflict
  | .powerFault => if old = .joined then sourcesLeft s else s

/-- SUMMARY requested and the interval timer restarted (R167). -/
def requestSummary (s : State) : State :=
  request .summary { s with alu := { s.alu with intervalTimer := some (Config.ms 100) } }

/-- The summary timers' part (R152, R167). -/
def enterSummaries (new : Seating) (s : State) : State :=
  match new with
  | .joining => { s with alu := { s.alu with intervalTimer := some (Config.ms 100) } }
  | .joined => requestSummary s
  | .draining => s
  | .unseated | .seated | .powering | .config | .listening | .forced | .withdrawn | .isolated | .conflict
  | .powerFault => { s with alu := { s.alu with intervalTimer := none, holdOffTimer := none } }

/-- Leaving CONFLICT clears H2, leaving ISOLATED clears H4 (R147). -/
def leaveAlarms (old : Seating) (s : State) : State :=
  match old with
  | .conflict => clearKey keyH2 s
  | .isolated => clearKey keyH4 s
  | .unseated | .seated | .powering | .config | .listening | .joining | .joined | .draining | .forced | .withdrawn
  | .powerFault => s

/-- A change of seating state with each block's part in it (R127 to R149). -/
def enterState (new : Seating) (s : State) : State :=
  let old := s.sec.state
  leaveAlarms old (enterSummaries new (enterSources old new (enterPeers new (enterPool new (enterBus new
    (enterSlots new (enterQueues new (enterBase new s))))))))

/-! ### Fields of the controller -/

/-- The controller's fields replaced. -/
def State.setSec (s : State) (f : Sec → Sec) : State := { s with sec := f s.sec }

/-- Withdrawal, force and conflict cause become none (R127). -/
def clearCauses (s : State) : State :=
  s.setSec (fun c => { c with withdrawCause := none, forceCause := none, conflictCause := none })

/-- PWREN switched (R131). -/
def setPower (on : Bool) (s : State) : State := s.setSec (fun c => { c with pwren := on })

/-- A PGOOD loss the controller acts on: PWREN off, H1 raised (R131, R150). -/
def losePower (s : State) : State := raiseInternal keyH1 (setPower false s)

/-! ### Entries into the states -/

/-- LISTENING entered (R137). -/
def enterListening (s : State) : State :=
  let s1 := clearKey keyH3 (clearCauses (enterState .listening s))
  s1.setSec (fun c => { c with listenTimer := some (Config.ms 300), slotHeard := false })

/-- A working image with no item accepted (R193). -/
def RecordImage.empty : RecordImage :=
  { priority := none, quality := none, override := none, groups := none, kp := none, ki := none,
    stepThreshold := none, lockThreshold := none, holdoverLimit := none, linkLatency := none, pitchDelay := none,
    readyLevel := none, sta := none, stb := none, inputs := Vector.replicate 8 none, eventMap := none }

/-- CONFIG entered: a load begins with an empty working image (R136, R192, R193). -/
def enterConfig (s : State) : State :=
  let s1 := enterState .config s
  { s1 with stl := { s1.stl with load := some .empty } }

/-- PGOOD good in POWERING (R135). -/
def powerUp (s : State) : State :=
  let s1 := clearKey keyH1 s
  if s1.sec.recordLoaded then enterListening s1 else enterConfig s1

/-- POWERING entered; PGOOD that is already good is acted on at once (R135). -/
def enterPowering (s : State) : State :=
  let s1 := clearKey keyH3 (clearCauses (setPower true (enterState .powering s)))
  let s2 := s1.setSec (fun c => { c with powerGoodTimer := some (Config.ms 100) })
  if s2.sec.pgood.level then powerUp s2 else s2

/-- The notice timer started and POWER DOWN NOTICE signalled (R145). -/
def startNotice (s : State) : State :=
  signal .powerDownNotice (s.setSec (fun c => { c with noticeTimer := some (Config.ms 100) }))

/-- WITHDRAWN entered with the cause that stands; from CONFIG, LISTENING, ISOLATED and CONFLICT the cause becomes
EJECTOR. With cause EJECTOR the ejector is judged at entry (R145). -/
def enterWithdrawn (s : State) : State :=
  let s1 := match s.sec.state with
    | .config | .listening | .isolated | .conflict => s.setSec (fun c => { c with withdrawCause := some .ejector })
    | .unseated | .seated | .powering | .joining | .joined | .draining | .forced | .withdrawn | .powerFault => s
  let s2 := enterState .withdrawn s1
  if s2.sec.withdrawCause = some .ejector then
    if s2.sec.eject.level then enterPowering s2
    else if s2.sec.pwren then startNotice s2 else s2
  else s2

/-- POWER FAULT entered (R148). -/
def enterPowerFault (s : State) : State :=
  let s1 := signal .seatingFault (setPower false (enterState .powerFault s))
  s1.setSec (fun c => { c with ejectorOpened := !c.eject.level })

/-- CONFLICT entered with its cause (R146). -/
def enterConflict (cause : ConflictCause) (s : State) : State :=
  let s1 := (enterState .conflict s).setSec (fun c => { c with conflictCause := some cause })
  signal .seatingFault (raiseInternal keyH2 s1)

/-- ISOLATED entered (R146). -/
def enterIsolated (s : State) : State := signal .seatingFault (raiseInternal keyH4 (enterState .isolated s))

/-- FORCED entered with its cause (R143, R144). -/
def enterForced (cause : ForceCause) (s : State) : State :=
  (enterState .forced s).setSec (fun c => { c with forceCause := some cause, goneTimer := some (Config.ms 20) })

/-- DRAINING entered: WITHDRAW is requested, the drain timer started, and an already empty station reports drained at
once (R141, R42). -/
def enterDraining (cause : WithdrawCause) (s : State) : State :=
  let s1 := requestWithdraw cause (enterState .draining s)
  let s2 := s1.setSec (fun c => { c with withdrawCause := some cause, drainTimer := some (Config.ms 250) })
  reportDrained { s2 with txs := { s2.txs with drainedReported := false } }

/-- JOINED entered; an open ejector drains at once (R140). -/
def enterJoined (s : State) : State :=
  let s1 := clearCauses (enterState .joined s)
  if s1.sec.eject.level then s1 else enterDraining .ejector s1

/-- JOINING entered: JOIN is requested (R139). -/
def enterJoining (s : State) : State := request .join (enterState .joining s)

/-- The straps sampled: what their synchroniser shows is held and handed on (R190). -/
def sampleStraps (s : State) : State :=
  { s with
    stl := { s.stl with straps := some s.stl.synchronised }
    src := { s.src with capable := effectiveCapable (some s.stl.synchronised) s.stl.image }
    alu := { s.alu with collector := s.stl.synchronised.collector } }

/-- SEATED entered, from UNSEATED or from POWERING: the straps are sampled; an invalid slot code raises H5, a valid one
with the ejector latched goes on to POWERING (R133 to R135, R190, R191). -/
def enterSeated (s : State) : State :=
  let s1 := refreshRelays (enterState .seated (sampleStraps s))
  if strapsValid s.stl.synchronised then
    if s1.sec.eject.level then enterPowering s1 else s1
  else raiseInternal keyH5 s1

/-- UNSEATED entered at seat loss (R149). -/
def enterUnseated (s : State) : State :=
  let s1 := clearCauses (setPower false (enterState .unseated s))
  let s2 := s1.setSec (fun c => { c with slotHeard := false, ejectorOpened := false })
  let s3 := clearKey keyH5 (clearKey keyH4 (clearKey keyH3 (clearKey keyH2 (clearKey keyH1 s2))))
  refreshRelays { s3 with alu := { s3.alu with collector := false } }

/-! ### Reports from other blocks -/

/-- An own-slot frame reported by the peer table (R76, R138, R139, R142). -/
def ownSlotHeard (s : State) : State :=
  match s.sec.state with
  | .listening => s.setSec (fun c => { c with slotHeard := true })
  | .joining | .joined | .draining => enterConflict .ownSlotHeard s
  | .unseated | .seated | .powering | .config | .forced | .withdrawn | .isolated | .conflict | .powerFault => s

/-- Eight consecutive collisions reported by the bus access unit (R11, R146). -/
def duplicateSuspected (s : State) : State :=
  match s.sec.state with
  | .joining | .joined | .draining | .forced => enterConflict .suspectedDuplicateSlot s
  | .unseated | .seated | .powering | .config | .listening | .withdrawn | .isolated | .conflict | .powerFault => s

/-- The own JOIN transmitted, as the controller takes it (R139). -/
def joinTransmitted (s : State) : State :=
  match s.sec.state with
  | .joining => enterJoined s
  | .unseated | .seated | .powering | .config | .listening | .joined | .draining | .forced | .withdrawn | .isolated
  | .conflict | .powerFault => s

/-- The own GONE transmitted, as the controller takes it (R142, R144). -/
def goneTransmitted (s : State) : State :=
  match s.sec.state with
  | .draining => enterWithdrawn s
  | .forced => if s.sec.forceCause = some .power then enterPowerFault s else enterWithdrawn s
  | .unseated | .seated | .powering | .config | .listening | .joining | .joined | .withdrawn | .isolated | .conflict
  | .powerFault => s

/-! ### Messages of the card (R141, R147) -/

/-- A REJOIN acts now: WITHDRAWN by the card with the ejector latched, or CONFLICT or ISOLATED with PWREN on and the
ejector latched (R145, R147). -/
def State.mayRejoin (s : State) : Bool :=
  match s.sec.state with
  | .withdrawn => decide (s.sec.withdrawCause = some .card) && s.sec.eject.level
  | .conflict | .isolated => s.sec.pwren && s.sec.eject.level
  | .unseated | .seated | .powering | .config | .listening | .joining | .joined | .draining | .forced
  | .powerFault => false

/-! ### Ejector and power events -/

/-- The withdrawal cause becomes EJECTOR within a state (R151). -/
def becomeEjector (s : State) : State :=
  signal .seatingStateChange (s.setSec (fun c => { c with withdrawCause := some .ejector }))

/-- The ejector latched again in a drain by ejector: the requests of WITHDRAW and GONE are withdrawn, JOIN is
requested, and the station is JOINED again (R142). -/
def relatch (s : State) : State :=
  let t := s.txs.slots
  let s1 := s.setSlots { t with withdraw := t.withdraw.withdrawn, gone := t.gone.withdrawn }
  enterJoined (request .join s1)

/-- What EJECT opened does in each state. -/
def ejectorOpens (s : State) : State :=
  match s.sec.state with
  | .powering => enterSeated (setPower false s)
  | .config | .listening | .conflict | .isolated => enterWithdrawn s
  | .joined => enterDraining .ejector s
  | .draining => if s.sec.withdrawCause = some .card then requestWithdraw .ejector (becomeEjector s) else s
  | .forced => if s.sec.withdrawCause = some .ejector then s else becomeEjector s
  | .withdrawn => if s.sec.withdrawCause = some .card then startNotice (becomeEjector s) else s
  | .powerFault => s.setSec (fun c => { c with ejectorOpened := true })
  | .unseated | .seated | .joining => s

/-- What EJECT latched does in each state. -/
def ejectorLatches (s : State) : State :=
  match s.sec.state with
  | .seated => if s.ownSlot.isSome then enterPowering s else s
  | .draining => if s.sec.withdrawCause = some .ejector then relatch s else s
  | .withdrawn => if s.sec.withdrawCause = some .ejector then enterPowering s else s
  | .powerFault => if s.sec.ejectorOpened then enterPowering s else s
  | .unseated | .powering | .config | .listening | .joining | .joined | .forced | .isolated | .conflict => s

/-- What PGOOD lost does in each state (R131, R136, R138, R139, R143 to R147). -/
def powerLost (s : State) : State :=
  match s.sec.state with
  | .config | .listening | .joining => enterPowerFault (losePower s)
  | .joined | .draining => enterForced .power (losePower s)
  | .forced =>
    if s.sec.forceCause = some .drain then
      (losePower s).setSec (fun c => { c with forceCause := some .power })
    else s
  | .isolated | .conflict => if s.sec.pwren then enterPowerFault (losePower s) else s
  | .withdrawn => if s.sec.withdrawCause = some .card then enterPowerFault (losePower s) else s
  | .unseated | .seated | .powering | .powerFault => s

/-! ### Meanings -/

/-- POWER_ON: every block takes its power-on value, with the pins at the levels found; commands and pin levels still
waiting outside stay waiting (R127). -/
def execPowerOn (pins : PinLevels) (s : State) : Host.Outcome State Fault Refusal :=
  .next { State.powerOn pins with pinsAhead := s.pinsAhead, pending := s.pending }

/-- SEAT_SEATED: SEAT has been low for the seat debounce in UNSEATED (R128, R133). DESIGN CHOICE: the command names the
straps that the synchroniser shows, and is that sampling; with others it changes nothing (log 34). -/
def execSeatSeated (straps : Straps) (s : State) : Host.Outcome State Fault Refusal :=
  .next (if s.sec.state = .unseated ∧ s.sec.seat.due true = true ∧ s.stl.synchronised = straps then
           enterSeated (s.setSec (fun c => { c with seat := .taken true }))
         else s)

/-- SEAT_LOSS: SEAT has been high for 1 ms outside UNSEATED (R128, R149). -/
def execSeatLoss (s : State) : Host.Outcome State Fault Refusal :=
  .next (if s.sec.state ≠ .unseated ∧ s.sec.seat.due false = true then
           enterUnseated (s.setSec (fun c => { c with seat := .taken false }))
         else s)

/-- EJECT_OPENED: the pin has held its level for 20 ms, and the conditioned level becomes open (R129, R141). -/
def execEjectOpened (s : State) : Host.Outcome State Fault Refusal :=
  .next (if s.sec.eject.due false then ejectorOpens (s.setSec (fun c => { c with eject := .taken false })) else s)

/-- EJECT_LATCHED: the pin has held its level for 20 ms, and the conditioned level becomes latched (R129, R134). -/
def execEjectLatched (s : State) : Host.Outcome State Fault Refusal :=
  .next (if s.sec.eject.due true then ejectorLatches (s.setSec (fun c => { c with eject := .taken true })) else s)

/-- PGOOD_GOOD: the pin has held its level for 1 ms; acted on in POWERING (R129, R131, R135). -/
def execPgoodGood (s : State) : Host.Outcome State Fault Refusal :=
  .next (if s.sec.pgood.due true then
           let s1 := s.setSec (fun c => { c with pgood := .taken true })
           if s1.sec.state = .powering then powerUp s1 else s1
         else s)

/-- PGOOD_LOST: the pin has held its level for 1 ms (R129, R131, R143). -/
def execPgoodLost (s : State) : Host.Outcome State Fault Refusal :=
  .next (if s.sec.pgood.due false then powerLost (s.setSec (fun c => { c with pgood := .taken false })) else s)

/-- POWER_GOOD_TIMER_EXPIRY (R135). -/
def execPowerGoodTimerExpiry (s : State) : Host.Outcome State Fault Refusal :=
  .next (if s.sec.state = .powering ∧ s.sec.powerGoodTimer.isSome = true then enterPowerFault (losePower s) else s)

/-- LISTEN_TIMER_EXPIRY (R138). -/
def execListenTimerExpiry (s : State) : Host.Outcome State Fault Refusal :=
  .next (if s.sec.state = .listening ∧ s.sec.listenTimer.isSome = true then
           if s.sec.slotHeard then enterConflict .slotHeardWhileListening s else enterJoining s
         else s)

/-- DRAIN_TIMER_EXPIRY (R143). -/
def execDrainTimerExpiry (s : State) : Host.Outcome State Fault Refusal :=
  .next (if s.sec.state = .draining ∧ s.sec.drainTimer.isSome = true then raiseInternal keyH3 (enterForced .drain s)
         else s)

/-- GONE_TIMER_EXPIRY (R144). -/
def execGoneTimerExpiry (s : State) : Host.Outcome State Fault Refusal :=
  .next (if s.sec.state = .forced ∧ s.sec.goneTimer.isSome = true then enterIsolated s else s)

/-- NOTICE_TIMER_EXPIRY: PWREN goes off (R145). -/
def execNoticeTimerExpiry (s : State) : Host.Outcome State Fault Refusal :=
  .next (if s.sec.state = .withdrawn ∧ s.sec.noticeTimer.isSome = true then
           (setPower false s).setSec (fun c => { c with noticeTimer := none })
         else s)

end Sys2Proof.Machine
end

