-- ==== Sys2Proof/Machine/Bus.lean ====
section
/-! DEFINITION. The bus access unit (spec 1): the bus view, the claim cycle and own starts, collisions, cuts, the
judgement of received activities, good frames of each kind, the reply window, and the outcomes handed over. -/

namespace Sys2Proof.Machine

open Sys2Proof

/-! ### Fields of the unit -/

/-- The rank of a slot (R4). -/
def State.rankOf (s : State) (own : Slot) : Nat :=
  (((own.val : Int) - s.bau.pointer.val) % (s.cabinet : Int)).toNat

/-! ### Own starts (R4, R7, R25) -/

/-- The class an internal frame is sent in (spec 11.2). -/
def InternalKind.cls : InternalKind → Fin 4
  | .sync | .announce => 0
  | .summary | .join | .withdraw | .gone | .ready => 1

/-- What is still to be driven of a reply: the bits left, then the release; nothing before it is driven (R12, R197). -/
def ReplyDrive.drive (r : ReplyDrive) : List Drive :=
  if r.driving then (r.code.bits.drop (r.code.bits.length - r.left)).flatMap driveBit ++ [.release] else []

/-- What the station drives on the pair from now on: the rest of the frame it is sending, or of a reply, or nothing (R7,
R9, R12, R197). -/
def State.pairDrive (s : State) : List Drive :=
  match s.bau.tx.filter (fun t => !t.complete), s.bau.reply with
  | some t, _ => t.left
  | none, some r => r.drive
  | none, none => []

/-- The body of an internal frame, built at its start with the start stamp (R25, spec 11.2). -/
def State.internalBody (s : State) (k : InternalKind) (stamp : FullTime) : List Byte :=
  match k with
  | .sync => beBytes 4 stamp.seconds.val ++ beBytes 4 stamp.nanoseconds.val ++ beBytes 2 stamp.fraction.val
  | .announce => beBytes 1 s.src.quality.val ++ [s.src.priority]
  | .summary => summaryBody s.summaryNow
  | .join => flagByte s.src.capable :: beBytes 1 s.cabinet
  | .withdraw => [s.txs.slots.withdrawCause.byte]
  | .gone => [flagByte s.txs.slots.goneForced]
  | .ready => []

/-- A transmission begun with these fields: the view is FRAME, and the claim word is the claim tick count (R5, R7). -/
def beginFrame (t : Transmission) (s : State) : State :=
  s.setBau (fun b => { b with view := .frame, positionNew := false, tx := some t, rx := none, reply := none })

/-- An internal frame starts: its slot is in flight (R25). -/
def startInternal (k : InternalKind) (own : Slot) (stamp : FullTime) (s : State) : State :=
  beginFrame
    { source := .internal k, cls := k.cls, slot := own, dest := 31, sequence := 0, due := none,
      body := s.internalBody k stamp, claimWord := s.bau.tickCount, stamp := stamp, complete := false }
    (s.setSlots (s.txs.slots.set k .inFlight))

/-- The entry at a place of a queue marked in flight. -/
def flyAt : Nat → List QueueEntry → List QueueEntry
  | _, [] => []
  | 0, e :: rest => { e with inFlight := true } :: rest
  | n + 1, e :: rest => e :: flyAt n rest

/-- A card frame starts: its entry is in flight. -/
def startCard (c : CardClass) (place : Nat) (own : Slot) (stamp : FullTime) (s : State) : State :=
  match (s.queue c)[place]? with
  | none => s
  | some e =>
    beginFrame
      { source := .card c, cls := Fin.ofNat 4 c.number, slot := own, dest := e.dest,
        sequence := e.sequence.getD 0, due := e.due, body := e.payload, claimWord := s.bau.tickCount,
        stamp := stamp, complete := false }
      (s.setQueue c (flyAt place (s.queue c)))

/-- A candidate starts (R4, R7). -/
def startCandidate (x : Candidate) (own : Slot) (stamp : FullTime) (s : State) : State :=
  match x with
  | .internal k => startInternal k own stamp s
  | .card c place => startCard c place own stamp s

/-- The station's own position: its rank in the class of the position, with the drivers on (R4). -/
def State.ownPosition (s : State) (own : Slot) (p : Nat) : Bool :=
  s.sec.drven && decide (p % s.cabinet = s.rankOf own)

/-- The beginning of claim position `p`: the candidate of its class starts at the own rank (R3, R4). At a class-2
position an entry whose due time has passed leaves first (R31). -/
def claimPosition (p : Nat) (k : EdgeDelay) (s : State) : State :=
  match s.ownSlot with
  | none => s
  | some own =>
    if s.ownPosition own p then
      let s1 := if p / s.cabinet = 2 then reportDrained (sweepLate s) else s
      match s1.candidateOf (p / s1.cabinet) with
      | none => s1
      | some x => startCandidate x own (s1.stamp k) s1
    else s

/-- The position that begins: 0 after the settle gap, else the next one, wrapping after 4N - 1 (R3). -/
def State.nextPosition (s : State) : Fin 64 :=
  if s.bau.positionNew then 0 else Fin.ofNat 64 ((s.bau.position.val + 1) % (4 * s.cabinet))

/-- An activity of another sender begins in SETTLE or CLAIM: the view is FRAME. Elsewhere a transition is part of what is
already on the pair (R1, R14). -/
def beginActivity (rx : Reception) (s : State) : State :=
  match s.bau.view with
  | .settle | .claim =>
    s.setBau (fun b => { b with view := .frame, positionNew := false, rx := some rx, reply := none })
  | .inactive | .frame | .window => s

/-! ### Judgements (R6, R15, R17) -/

/-- The cause of an activity that is broken however its bytes read, being cut or begun without a start marker: the first
of R15's order. DEDUCED: an activity that began with a stray transition, which R1 and R14 name a code violation, counts as
a collision when its claim bits show one, since R15 checks that first (log 32). -/
def cutCause (bothDominant : Bool) : BrokenCause := if bothDominant then .collision else .codeViolation

/-- The judgement of a cut activity: none again for an own frame that collided (R8, R15). -/
def judgeCut (rx : Reception) (bothDominant : Bool) (s : State) : State :=
  match rx with
  | .marker _ => judgeBroken false (cutCause bothDominant) s
  | .stray => judgeBroken false (cutCause bothDominant) s
  | .ownCut => judgeBroken true (cutCause bothDominant) s
  | .ownCollided => s

/-- The view enters WINDOW at an end marker, with nothing left to receive (R1). -/
def enterWindow (s : State) : State := s.setBau (fun b => { b with view := .window, rx := none })

/-- The end marker of an activity that is broken whatever it carried: one begun without a start marker, or the rest of
an own frame that was cut or collided, with which another station's frame ends (R1, R9, R14). -/
def endBroken (rx : Reception) (bothDominant : Bool) (s : State) : State := enterWindow (judgeCut rx bothDominant s)

/-- The judgement of an activity that reached its end marker, when it is broken (R15). -/
def takeBroken (rx : Reception) (a : Activity) (s : State) : State :=
  match rx with
  | .stray | .ownCut | .ownCollided => endBroken rx a.bothDominant s
  | .marker _ =>
    match judgeActivity s.cabinet true a with
    | none => s
    | some cause => enterWindow (judgeBroken false cause s)

/-! ### Good frames (R16) -/

/-- A frame judged good at its end marker: FRAMES HEARD, the pointer, and the record handed to the peer table, or the
report of the own slot (R6, R16, R65, R76). -/
def takeGood (i : Slot) (k : FrameKind) (body : List Byte) (act : State → State) (s : State) : State :=
  let s1 := enterWindow (bump .framesHeard (s.setBau (fun b => { b with pointer := s.pointerAfter i })))
  if s1.ownSlot = some i then ownSlotHeard (bump .ownSlotFrames s1) else hearPeer i k body act s1

/-- A frame heard: the end marker of a frame that began with a start marker and was not sent here. A source slot outside
the cabinet is judged broken (R15), and so is the activity in which an own frame was cut or collided, or that began
without a start marker, although another station's frame reaches its end in it (R1, R9, R14). -/
def hearFrame (i : Slot) (k : FrameKind) (body : List Byte) (act : FullTime → State → State) (s : State) : State :=
  match s.bau.view, s.bau.tx, s.bau.rx with
  | .frame, none, some (.marker stamp) =>
    if s.cabinet ≤ i.val then enterWindow (judgeBroken false .foreignSlot s)
    else reportDrained (takeGood i k body (act stamp) s)
  | .frame, none, some .stray => endBroken .stray false s
  | .frame, none, some .ownCut => endBroken .ownCut false s
  | .frame, none, some .ownCollided => endBroken .ownCollided false s
  | _, _, _ => s

/-! ### Outcomes of own frames (R9 to R11) -/

/-- A producer told that its frame was transmitted (R26). -/
def tellProducer (k : InternalKind) (s : State) : State :=
  match k with
  | .join => joinTransmitted (forgetSequences s)
  | .gone => goneTransmitted s
  | .withdraw => s
  | .ready => readyTransmitted s
  | .summary => bump .summariesSent s
  | .announce => bump .announcesSent s
  | .sync => bump .syncsSent s

/-- TRANSMITTED of an internal frame; a slot emptied meanwhile discards it (R26). -/
def internalTransmitted (k : InternalKind) (s : State) : State :=
  if (s.txs.slots.get k).flying then
    tellProducer k (s.setSlots (s.txs.slots.set k (s.txs.slots.get k).transmitted))
  else s

/-- An own frame completes, and the producer of an internal frame is told (R9 to R11, R26). -/
def completeFrame (t : Transmission) (s : State) : State :=
  match t.source with
  | .card _ => endSent t s
  | .internal k => internalTransmitted k (endSent t s)

/-- An own frame collides; at the eighth collision in a row a duplicate of the slot is suspected (R8 to R11). -/
def collideFrame (t : Transmission) (s : State) : State :=
  let s1 := endCollided t s
  if s1.bau.collisions = 8 then duplicateSuspected s1 else s1

/-- The outcome of a window (R10, R13). -/
def windowOutcome : Option ReplyCode → TxOutcome
  | some .accept => .accept
  | some .full => .full
  | none => .noReply

/-- NO REPLY and REPLY FAULTS after an own window (R13, R17). -/
def countWindow (x : Option ReplyCode × Bool) (s : State) : State :=
  let s1 := if x.1.isNone then bump .noReply s else s
  if x.2 then bump .replyFaults s1 else s1

/-- The window of an own unicast frame ends with what was sampled in it (R13). -/
def closeOwnWindow (t : Transmission) (w : WindowContent) (s : State) : State :=
  let x := classifyWindow w
  let s1 := countWindow x (s.setBau (fun b => { b with tx := none }))
  match t.source with
  | .card c => cardOutcome c (windowOutcome x.1) s1
  | .internal _ => s1

/-! ### Meanings -/

/-- SETTLE_GAP_COMPLETE: the view enters CLAIM at position 0 (R1). -/
def execSettleGapComplete (s : State) : Host.Outcome State Fault Refusal :=
  .next (if s.bau.view = .settle then
           s.setBau (fun b => { b with view := .claim, position := 0, positionNew := true })
         else s)

/-- CLAIM_POSITION_BEGIN (R3, R4). -/
def execClaimPositionBegin (k : EdgeDelay) (s : State) : Host.Outcome State Fault Refusal :=
  .next (if s.bau.view = .claim then
           claimPosition s.nextPosition.val k
             (s.setBau (fun b => { b with position := s.nextPosition, positionNew := false }))
         else s)

/-- START_MARKER_RECEIVED: the beginning of an activity; where its levels are a start marker it is received with its
receive stamp, else it is a stray transition (R1, R14, R16, R197). -/
def execStartMarkerReceived (m : PairStart) (s : State) : Host.Outcome State Fault Refusal :=
  .next (beginActivity (if m.isMarker then .marker (s.stamp m.delay) else .stray) s)

/-- STRAY_TRANSITION: FRAME as a frame already broken; inside a frame it is part of that frame, and in a window it is
judged with the window (R1, R14). -/
def execStrayTransition (s : State) : Host.Outcome State Fault Refusal :=
  .next (beginActivity .stray s)

/-- COLLISION_DETECTED: while the station sends, a level sampled on the pair has differed from the one driven (R8). -/
def execCollisionDetected (s : State) : Host.Outcome State Fault Refusal :=
  .next (match s.bau.view, s.bau.tx with
    | .frame, some t => if t.collided then reportDrained (collideFrame t s) else s
    | _, _ => s)

/-- FRAME_CUT: quiet without an end marker; the frame is judged and the view enters SETTLE (R1, R15). -/
def execFrameCut (a : Activity) (s : State) : Host.Outcome State Fault Refusal :=
  .next (match s.bau.view, s.bau.tx, s.bau.rx with
    | .frame, none, some rx =>
      (judgeCut rx a.bothDominant s).setBau (fun b => { b with view := .settle, rx := none })
    | _, _, _ => s)

/-- BROKEN_FRAME: an end marker after an activity that R15 judges broken. Where the activity does not stand at a byte
boundary after the six header bytes, there is no end marker (R197). -/
def execBrokenFrame (a : Activity) (s : State) : Host.Outcome State Fault Refusal :=
  .next (match s.bau.view, s.bau.tx, s.bau.rx with
    | .frame, none, some rx => if a.endRecognised then takeBroken rx a s else s
    | _, _, _ => s)

/-- OWN_FRAME_COMPLETE: the end marker has been sent and no collision detected (R9). -/
def execOwnFrameComplete (s : State) : Host.Outcome State Fault Refusal :=
  .next (match s.bau.view, s.bau.tx with
    | .frame, some t => if t.ended then reportDrained (completeFrame t s) else s
    | _, _ => s)

/-- DATA_HEARD: the entry update, then the receive pool's decision (R16, R47 to R54). -/
def execDataHeard (f : DataFrame) (s : State) : Host.Outcome State Fault Refusal :=
  .next (hearFrame f.source .data f.payload (fun _ => poolTake f) s)

/-- SYNC_HEARD (R111). -/
def execSyncHeard (src : Slot) (body : List Byte) (s : State) : Host.Outcome State Fault Refusal :=
  .next (hearFrame src .sync body (fun stamp => takeSync src (syncTime body) stamp) s)

/-- ANNOUNCE_HEARD (R104). -/
def execAnnounceHeard (src : Slot) (body : List Byte) (s : State) : Host.Outcome State Fault Refusal :=
  .next (hearFrame src .announce body (fun _ => takeAnnounce src (announceQuality body) (announcePriority body)) s)

/-- SUMMARY_HEARD (R79). -/
def execSummaryHeard (src : Slot) (body : List Byte) (s : State) : Host.Outcome State Fault Refusal :=
  .next (hearFrame src .summary body (fun _ => storeSummary src body) s)

/-- JOIN_HEARD (R69). -/
def execJoinHeard (src : Slot) (body : List Byte) (s : State) : Host.Outcome State Fault Refusal :=
  .next (hearFrame src .join body (fun _ => id) s)

/-- WITHDRAW_HEARD (R70). -/
def execWithdrawHeard (src : Slot) (body : List Byte) (s : State) : Host.Outcome State Fault Refusal :=
  .next (hearFrame src .withdraw body (fun _ => id) s)

/-- GONE_HEARD (R71). -/
def execGoneHeard (src : Slot) (body : List Byte) (s : State) : Host.Outcome State Fault Refusal :=
  .next (hearFrame src .gone body (fun _ => id) s)

/-- READY_HEARD (R78). -/
def execReadyHeard (src : Slot) (s : State) : Host.Outcome State Fault Refusal :=
  .next (hearFrame src .ready [] (fun _ => hearReady src) s)

/-- REPLY_WINDOW_OPEN: the reply decided for the frame just heard is driven and counted (R12, R17). -/
def execReplyWindowOpen (s : State) : Host.Outcome State Fault Refusal :=
  .next (match s.bau.view, s.bau.reply with
    | .window, some r =>
      if r.driving || !takesPart s.sec.state then s
      else bump .repliesSent
        (s.setBau (fun b => { b with reply := some { r with driving := true, left := r.code.bits.length } }))
    | _, _ => s)

/-- REPLY_WINDOW_END: the view enters SETTLE, and the sender of a unicast frame classifies the window (R1, R13). -/
def execReplyWindowEnd (w : WindowContent) (s : State) : Host.Outcome State Fault Refusal :=
  .next (if s.bau.view = .window then
           let s1 := s.setBau (fun b => { b with view := .settle, reply := none })
           match s1.bau.tx with
           | some t => reportDrained (closeOwnWindow t w s1)
           | none => s1
         else s)

end Sys2Proof.Machine
end

