-- ==== Sys2Proof/Machine/StartRecord.lean ====
section
/-! DEFINITION. The start loader (spec 10.2, spec 11.4): the dialogue with the serial memory, the judgement of what it
answered, the items with their clamping, the hand-on of the image, and the meaning of LOAD_COMPLETE. -/

namespace Sys2Proof

namespace Machine

/-! ### Items (R193, spec 11.4) -/

/-- A number clamped to a range (R193). -/
def clampTo (lo hi n : Nat) : Nat := max lo (min hi n)

/-- A strobe item: the period code and width clamped, the offset reduced modulo the period (R193). -/
def readStrobe (v : List Byte) : StrobeSettings :=
  let code : Fin 8 := Fin.ofNat 8 (clampTo 0 7 (numAt v 0 1))
  { period := code, offset := numAt v 1 4 % periodNs code, width := clampTo 1 255 (numAt v 5 1) }

/-- An alarm input item, each field clamped over its code range (R193). -/
def readInput (v : List Byte) : InputSettings :=
  { masked := decide (clampTo 0 1 (numAt v 0 1) = 1)
    activeHigh := decide (clampTo 0 1 (numAt v 1 1) = 1)
    latched := decide (clampTo 0 1 (numAt v 2 1) = 1)
    severity := match clampTo 1 4 (numAt v 3 1) with
      | 1 => .warning | 2 => .minor | 3 => .major | _ => .critical
    debounceMs := clampTo 1 255 (numAt v 4 1) }

/-- A line code of item 23: 0 none, 1 ATTENTION, 2 URGENT (spec 11.4). -/
def lineOfCode (b : Byte) : NoticeLine :=
  match clampTo 0 2 b.toNat with
  | 0 => .off | 1 => .attention | _ => .urgent

/-- The event map of item 23, event 1 first (spec 11.4). -/
def readEventMap (v : List Byte) : Vector NoticeLine 10 := ⟨⟨(List.range 10).map (fun i => lineOfCode (byteAt v i))⟩, by simp⟩

/-- The length the table gives an item number; none for a number not in the table (R193). -/
def itemLength (n : Nat) : Option Nat :=
  match n with
  | 1 | 2 | 3 | 5 | 6 | 10 | 12 => some 1
  | 4 | 8 | 11 => some 2
  | 7 | 9 => some 4
  | 13 | 14 => some 6
  | 15 | 16 | 17 | 18 | 19 | 20 | 21 | 22 => some 5
  | 23 => some 10
  | _ => none

/-- The working image after an item of the right length (R193). -/
def acceptItem (n : Nat) (v : List Byte) (g : RecordImage) : RecordImage :=
  match n with
  | 1 => { g with priority := some (byteAt v 0) }
  | 2 => { g with quality := some (Fin.ofNat 4 (clampTo 0 3 (numAt v 0 1))) }
  | 3 => { g with override := some (decide (clampTo 0 1 (numAt v 0 1) = 1)) }
  | 4 => { g with groups := some (BitVec.ofNat 16 (numAt v 0 2) &&& 0xFFFE) }
  | 5 => { g with kp := some (clampTo 0 8 (numAt v 0 1)) }
  | 6 => { g with ki := some (clampTo 0 12 (numAt v 0 1)) }
  | 7 => { g with stepThreshold := some (clampTo 100 100000 (numAt v 0 4)) }
  | 8 => { g with lockThreshold := some (clampTo 10 5000 (numAt v 0 2)) }
  | 9 => { g with holdoverLimit := some (clampTo 10 86400 (numAt v 0 4)) }
  | 10 => { g with linkLatency := some (clampTo 0 200 (numAt v 0 1)) }
  | 11 => { g with pitchDelay := some (clampTo 0 2000 (numAt v 0 2)) }
  | 12 => { g with readyLevel := some (clampTo 8 160 (numAt v 0 1)) }
  | 13 => { g with sta := some (readStrobe v) }
  | 14 => { g with stb := some (readStrobe v) }
  | 23 => { g with eventMap := some (readEventMap v) }
  | n =>
    if 15 ≤ n ∧ n ≤ 22 then
      let i : Fin 8 := Fin.ofNat 8 (n - 15)
      { g with inputs := g.inputs.set i.val (some (readInput v)) i.isLt }
    else g

/-- One item judged: skipped when its number is unknown or its length differs, else accepted (R193). -/
def takeItem (n : Nat) (v : List Byte) (g : RecordImage) : RecordImage :=
  if itemLength n = some v.length then acceptItem n v g else g

/-- The items after the marker, up to the terminator; none when no terminator is found within the bytes (R192). Each
item takes at least two bytes, so `fuel` items bound the run. -/
def readItems : Nat → List Byte → RecordImage → Option RecordImage
  | 0, _, _ => none
  | fuel + 1, number :: length :: rest, g =>
    if length.toNat = 0 then some g
    else if rest.length < length.toNat then none
    else readItems fuel (rest.drop length.toNat) (takeItem number.toNat (rest.take length.toNat) g)
  | _ + 1, _, _ => none

/-- The outcomes of a load (R192). -/
inductive LoadOutcome where
  | noAnswer | badMarker | noTerminator
  | record (g : RecordImage)
  deriving DecidableEq, Repr

end Machine

/-- The memory acknowledged its device address in both phases and both address bytes (R192). -/
def MemoryAnswer.answered (m : MemoryAnswer) : Bool := m.ackWrite && m.ackHigh && m.ackLow && m.ackRead

namespace Machine

/-- The outcome of a load from what the memory answers, of whose bytes the first 512 are read (R192). -/
def judgeRecord (m : MemoryAnswer) : LoadOutcome :=
  if m.answered then
    match m.bytes.take Config.recordLimit with
    | 0xD5#8 :: 0x1C#8 :: rest =>
      match readItems Config.recordLimit rest .empty with
      | some g => .record g
      | none => .noTerminator
    | _ => .badMarker
  else .noAnswer

/-! ### The dialogue with the memory (R192) -/

/-- What the loader does on the memory's bus; a byte it sends is acknowledged or not by the memory. -/
inductive BusStep where
  | start
  | send (b : Byte) (acked : Bool)
  | read (b : Byte)
  | acknowledge
  | withhold
  | stop
  deriving DecidableEq, Repr

/-- The bytes of the items up to and with the terminator's length byte, or all 510 after the marker when there is no
terminator (R192). -/
def itemBytes : Nat → List Byte → Nat
  | fuel + 1, _ :: length :: rest =>
    if length.toNat = 0 then 2
    else if rest.length < length.toNat then 2 + rest.length
    else 2 + length.toNat + itemBytes fuel (rest.drop length.toNat)
  | _, rest => rest.length

/-- The bytes a load reads before its outcome is found (R192). DESIGN CHOICE: the marker is judged when both its bytes are
read, so the second is read also after a first that is not 0xD5 (log 35). -/
def bytesNeeded (m : MemoryAnswer) : Nat :=
  match m.bytes.take Config.recordLimit with
  | 0xD5#8 :: 0x1C#8 :: rest => 2 + itemBytes Config.recordLimit rest
  | read => min 2 read.length

/-- Bytes read in order, each acknowledged but the last, after which no acknowledgement and a stop follow (R192). -/
def readSteps : List Byte → List BusStep
  | [] => []
  | [b] => [.read b, .withhold, .stop]
  | b :: c :: more => .read b :: .acknowledge :: readSteps (c :: more)

/-- A byte sent, and what follows once the memory acknowledged it. -/
def sendStep (b : Byte) (acked : Bool) (more : List BusStep) : List BusStep := .send b acked :: if acked then more else []

/-- The whole dialogue of a load: the device address 0x50 with the write bit, two address bytes of 0, a repeated start
with the device address and the read bit, and the bytes read. It ends at the first byte the memory leaves unacknowledged
(R192). -/
def loadDialogue (m : MemoryAnswer) : List BusStep :=
  .start :: sendStep 0xA0 m.ackWrite (sendStep 0 m.ackHigh (sendStep 0 m.ackLow
    (.start :: sendStep 0xA1 m.ackRead (readSteps (m.bytes.take (bytesNeeded m))))))

/-- The image of an outcome: the items taken, or nothing but defaults (R194, R195). -/
def LoadOutcome.image : LoadOutcome → RecordImage
  | .record g => g
  | .noAnswer | .badMarker | .noTerminator => .empty

/-- The outcome takes the defaults and reports S1 (R195). -/
def LoadOutcome.defaulted : LoadOutcome → Bool
  | .record _ => false
  | .noAnswer | .badMarker | .noTerminator => true

/-! ### The hand-on (R194) -/

/-- The servo settings of an image. -/
def RecordImage.servo (g : RecordImage) : ServoSettings :=
  let d := ServoSettings.default
  { kp := g.kp.getD d.kp, ki := g.ki.getD d.ki, stepThreshold := g.stepThreshold.getD d.stepThreshold,
    lockThreshold := g.lockThreshold.getD d.lockThreshold, holdoverLimit := g.holdoverLimit.getD d.holdoverLimit,
    linkLatency := g.linkLatency.getD d.linkLatency, pitchDelay := g.pitchDelay.getD d.pitchDelay }

/-- The settings of an input in an image. -/
def RecordImage.input (g : RecordImage) (n : Fin 8) : InputSettings := (g.inputs[n]).getD .default

/-- To the source selector. -/
def giveSources (g : RecordImage) (s : State) : State :=
  { s with src := { s.src with
      priority := g.priority.getD 128, quality := g.quality.getD 2
      capable := effectiveCapable s.stl.straps (some g) } }

/-- To the receive pool, which tests its READY condition (R58). -/
def givePool (g : RecordImage) (s : State) : State :=
  testReady { s with rxp := { s.rxp with groups := g.groups.getD 0, readyLevel := g.readyLevel.getD 48 } }

/-- To the servo and the time unit. -/
def giveTime (g : RecordImage) (s : State) : State :=
  { s with tmu := { s.tmu with
      settings := g.servo
      sta := { s.tmu.sta with settings := g.sta.getD .staDefault }
      stb := { s.tmu.stb with settings := g.stb.getD .stbDefault } } }

/-- To the alarm unit, input by input (R154). -/
def giveInputs (g : RecordImage) (s : State) : State :=
  ([0, 1, 2, 3, 4, 5, 6, 7] : List (Fin 8)).foldl (fun t n => takeInputSettings (g.input n) n t) s

/-- To the card port (R186). -/
def giveEventMap (g : RecordImage) (s : State) : State :=
  { s with cpt := ({ s.cpt with eventMap := g.eventMap.getD defaultEventMap } : Cpt).refreshLines }

/-- The image handed to the owning blocks at one moment (R194). -/
def handOn (g : RecordImage) (s : State) : State :=
  giveEventMap g (giveInputs g (giveTime g (givePool g (giveSources g s))))

/-- A completion: the image is kept and handed on, record loaded becomes yes, LISTENING is entered, and then S1 reports
defaults (R136, R194, R195). -/
def completeLoad (o : LoadOutcome) (s : State) : State :=
  let s1 := handOn o.image { s with stl := { s.stl with load := none, image := some o.image } }
  let s2 := enterListening (s1.setSec (fun c => { c with recordLoaded := true }))
  if o.defaulted then clearKey .start (raiseInternal .start s2) else s2

/-! ### Meaning -/

/-- LOAD_COMPLETE, of a load that runs in CONFIG (R192 to R195). -/
def execLoadComplete (memory : MemoryAnswer) (s : State) : Host.Outcome State Fault Refusal :=
  .next (if s.sec.state = .config ∧ s.stl.load.isSome = true then completeLoad (judgeRecord memory) s else s)

end Machine

end Sys2Proof
end

