-- ==== Sys2Proof/Machine/Reports.lean ====
section
/-! DEFINITION. The fields of the six READ items as bytes (R184, R199): each item in the order its rule lists the fields,
each field coded as R199 gives. -/

namespace Sys2Proof.Machine

open Sys2Proof

/-! ### Codings of fields (R199) -/

/-- An optional field: a presence byte, then the field when present. -/
def optBytes {α : Type} (f : α → List Byte) : Option α → List Byte
  | none => [0]
  | some x => 1 :: f x

/-- A list: a count byte, then the members. -/
def listBytes {α : Type} (f : α → List Byte) (l : List α) : List Byte := BitVec.ofNat 8 l.length :: l.flatMap f

/-- A named value by its number, counted from 1; 0 for none. -/
def namedByte (o : Option Nat) : Byte :=
  match o with
  | none => 0
  | some n => BitVec.ofNat 8 (n + 1)

/-- Whole units of so many ticks, of a part of one rounded up or down. -/
def wholeUnits (unit : Nat) (up : Bool) (ticks : Nat) : Nat :=
  if ticks % unit ≠ 0 ∧ up = true then ticks / unit + 1 else ticks / unit

/-- Whole microseconds of a remaining time in ticks; of a part of a microsecond the rounding is free (log 2). -/
def microseconds (ticks : Nat) : Nat := wholeUnits Config.ticksPerUs (Config.timerRoundsUp ticks) ticks

/-- A timer's remaining time: 8 bytes in microseconds, all ones when stopped. -/
def timerBytes (t : Timer) : List Byte :=
  match t with
  | none => List.replicate 8 0xFF
  | some ticks => beBytes 8 (microseconds ticks)

/-- A full time as in a SYNC body. -/
def timeBytes (t : FullTime) : List Byte :=
  beBytes 4 t.seconds.val ++ beBytes 4 t.nanoseconds.val ++ beBytes 2 t.fraction.val

/-- A counter. -/
def counterBytes (c : Counter) : List Byte := beBytes 4 c.val

/-- A slot. -/
def slotByte (i : Slot) : Byte := BitVec.ofNat 8 i.val

/-- Milliseconds of an age in ticks, in 2 bytes; of a part of a millisecond the rounding is free (log 2). -/
def ageBytes (ticks : Nat) : List Byte := beBytes 2 (wholeUnits Config.ticksPerMs (Config.ageRoundsUp ticks) ticks)

/-! ### STATE (R2, R45, R63, R151, R184) -/

/-- The seating part of STATE, with the straps as held; a strap never read is unknown (R151). -/
def seatingBytes (s : State) : List Byte :=
  let c := s.sec
  [namedByte (some c.state.ctorIdx), namedByte (c.withdrawCause.map WithdrawCause.ctorIdx),
   namedByte (c.forceCause.map ForceCause.ctorIdx), namedByte (c.conflictCause.map ConflictCause.ctorIdx),
   flagByte c.seat.level, flagByte c.eject.level, flagByte c.pgood.level,
   flagByte c.pwren, flagByte c.drven, flagByte c.rmvok, flagByte c.recordLoaded, flagByte c.slotHeard]
    ++ timerBytes c.powerGoodTimer ++ timerBytes c.listenTimer ++ timerBytes c.drainTimer
    ++ timerBytes c.goneTimer ++ timerBytes c.noticeTimer
    ++ optBytes (fun t : Straps => [BitVec.ofNat 8 t.slot.toNat]) s.stl.straps
    ++ [flagByte s.ownSlot.isSome]
    ++ optBytes (fun t : Straps => beBytes 1 t.size.slots) s.stl.straps
    ++ optBytes (fun t : Straps => [flagByte t.sourceCapable]) s.stl.straps
    ++ optBytes (fun t : Straps => [flagByte t.collector]) s.stl.straps

/-- The bus part of STATE (R2). -/
def busBytes (s : State) : List Byte := [slotByte s.bau.pointer, BitVec.ofNat 8 s.bau.collisions]

/-- The scheduler part of STATE (R45). -/
def schedulerBytes (s : State) : List Byte :=
  let t := s.txs.slots
  beBytes 1 (s.queue .control).length ++ beBytes 1 (s.queue .deadline).length ++ beBytes 1 (s.queue .bulk).length
    ++ beBytes 1 s.txs.storeFree ++ beBytes 1 s.cpt.results.length
    ++ [t.sync, t.announce, t.summary, t.join, t.withdraw, t.gone, t.ready].map
        (fun x => namedByte (some x.ctorIdx))

/-- The groups of a membership. DESIGN CHOICE: ascending, an order R63 and R199 do not state (log 21). -/
def groupList (g : BitVec 16) : List Nat := (List.range 16).filter (fun n => decide (1 ≤ n) && g.getLsbD n)

/-- The receive pool part of STATE (R63). -/
def poolBytes (s : State) : List Byte :=
  beBytes 1 s.rxp.frames.length ++ beBytes 1 s.rxp.free ++ listBytes (fun i => [slotByte i]) s.rxp.refused
    ++ [flagByte s.rxp.readyOutstanding] ++ beBytes 1 s.rxp.readyLevel
    ++ listBytes (fun n => beBytes 1 n) (groupList s.rxp.groups)

/-- A line an event is mapped to: 1 URGENT, 2 ATTENTION, 0 none. -/
def lineByte : NoticeLine → Byte
  | .urgent => 1 | .attention => 2 | .off => 0

/-- The card port part of STATE (R184). DESIGN CHOICE: the pending events are listed by their numbers ascending, an order
R184 and R199 do not state (log 21). -/
def portBytes (s : State) : List Byte :=
  beBytes 1 s.cpt.incoming.length ++ beBytes 1 s.cpt.replies.length
    ++ listBytes (fun e : EventKind => beBytes 1 e.number) s.cpt.events
    ++ s.cpt.eventMap.toList.map lineByte
    ++ [flagByte s.cpt.urgent, flagByte s.cpt.attention, flagByte s.cpt.hold.level]

/-- The STATE item (R184). -/
def stateItem (s : State) : List Byte :=
  seatingBytes s ++ busBytes s ++ schedulerBytes s ++ poolBytes s ++ portBytes s

/-! ### TIME (R99, R126) -/

/-- A strobe generator's fields. -/
def strobeBytes (g : StrobeGen) : List Byte :=
  [BitVec.ofNat 8 g.settings.period.val] ++ beBytes 4 g.settings.offset ++ beBytes 1 g.settings.width
    ++ [flagByte g.output]

/-- The servo settings in the order of R114. -/
def settingsBytes (x : ServoSettings) : List Byte :=
  beBytes 1 x.kp ++ beBytes 1 x.ki ++ beBytes 3 x.stepThreshold ++ beBytes 2 x.lockThreshold
    ++ beBytes 3 x.holdoverLimit ++ beBytes 1 x.linkLatency ++ beBytes 2 x.pitchDelay

/-- Counters of the COUNTERS item by their names. -/
def State.countersBytes (s : State) (l : List CounterId) : List Byte := l.flatMap (fun i => counterBytes (s.counter i))

/-- The TIME item, with the counter read `k` nanoseconds after the tick (R99, R126). -/
def timeItem (k : EdgeDelay) (s : State) : List Byte :=
  let t := s.tmu
  timeBytes (s.stamp k) ++ beBytes 4 t.time.short
    ++ [namedByte (some t.servo.ctorIdx), namedByte (some s.src.role.ctorIdx), flagByte s.timeValid,
        flagByte t.everLocked]
    ++ intBytes 4 t.rate ++ intBytes 4 t.integral ++ beBytes 4 t.residue
    ++ optBytes (fun x : Seconds => beBytes 4 x.val) t.label ++ optBytes timeBytes t.lastRef
    ++ strobeBytes t.sta ++ strobeBytes t.stb
    ++ beBytes 1 t.lockCount ++ beBytes 1 t.outlierCount ++ beBytes 1 t.rateLimitCount ++ [flagByte s.src.refSeen]
    ++ timerBytes t.holdoverTimer ++ timerBytes s.src.refTimeout
    ++ optBytes (fun x : Int × SampleKind => intBytes 12 x.1 ++ [namedByte (some x.2.ctorIdx)]) t.lastError
    ++ settingsBytes t.settings
    ++ s.countersBytes [.announcesSent, .syncsSent, .syncsIgnored, .samples, .steps, .outliers, .syncTimeouts,
        .refTimeouts]

/-! ### PEER (R81) -/

/-- A summary entry: key, severity, state. -/
def summaryEntryBytes (e : SummaryEntry) : List Byte := [e.origin, e.code, severityByte e.severity, e.state.code]

/-- A summary's counts, highest severity, overflow flag and list. -/
def summaryFields (x : Summary) : List Byte :=
  beBytes 1 x.critical ++ beBytes 1 x.major ++ beBytes 1 x.minor ++ beBytes 1 x.warning
    ++ [severityByte x.highest, flagByte x.overflow] ++ listBytes summaryEntryBytes x.entries

/-- The entry of slot `n` as READ PEER shows it: the own entry and those of slots N..15 as ABSENT with nothing else
(R81). -/
def State.shownPeer (s : State) (i : Slot) : PeerEntry :=
  if s.ownSlot = some i ∨ s.cabinet ≤ i.val then .cleared else s.peer i

/-- The source record READ PEER shows with an entry (R81). -/
def State.shownSource (s : State) (i : Slot) : Option SourceEntry :=
  if s.ownSlot = some i ∨ s.cabinet ≤ i.val then none else findSource i s.src.table

/-- The PEER item (R81). -/
def peerItem (i : Slot) (s : State) : List Byte :=
  let e := s.shownPeer i
  [namedByte (some e.state.ctorIdx)] ++ optBytes ageBytes e.age ++ [flagByte e.blocked] ++ timerBytes e.blockedTimer
    ++ optBytes (fun b => [b]) e.sequence.control ++ optBytes (fun b => [b]) e.sequence.deadline
    ++ optBytes (fun b => [b]) e.sequence.bulk
    ++ optBytes (fun j : JoinRecord => [flagByte j.capable, j.size, flagByte j.mismatch]) e.join
    ++ [namedByte (e.withdrawCause.map WithdrawCause.ctorIdx)]
    ++ optBytes (fun b => [flagByte b]) e.goneForced
    ++ optBytes (fun x : SourceEntry => beBytes 1 x.quality.val ++ [x.priority] ++ ageBytes (x.age.getD 0))
        (s.shownSource i)
    ++ optBytes summaryFields e.summary
    ++ counterBytes e.frames ++ counterBytes e.gaps ++ counterBytes e.duplicates

/-! ### SOURCES (R126) -/

/-- An entry put in its place in the order of R106. -/
def insertByOrder (e : SourceEntry) : List SourceEntry → List SourceEntry
  | [] => [e]
  | x :: rest => if e.before x then e :: x :: rest else x :: insertByOrder e rest

/-- The entries in selection order (R106, R126). -/
def selectionOrder : List SourceEntry → List SourceEntry
  | [] => []
  | e :: rest => insertByOrder e (selectionOrder rest)

/-- The SOURCES item (R126). -/
def sourcesItem (s : State) : List Byte :=
  listBytes (fun x : SourceEntry => [slotByte x.slot] ++ beBytes 1 x.quality.val ++ [x.priority]
      ++ optBytes ageBytes x.age) (selectionOrder s.src.table)
    ++ optBytes (fun i => [slotByte i]) s.src.selection ++ [namedByte (some s.src.role.ctorIdx)]
    ++ beBytes 1 s.src.quality.val ++ [s.src.priority, flagByte s.src.capable, flagByte s.candidate]
    ++ timerBytes s.src.syncTimeout ++ timerBytes s.src.announceTimer

/-! ### ALARMS (R173) -/

/-- A key: origin and code. -/
def keyBytes (k : AlarmKey) : List Byte := [k.origin, k.code]

/-- A table entry. -/
def alarmBytes (e : AlarmEntry) : List Byte :=
  keyBytes e.key ++ [severityByte (some e.severity), e.state.code] ++ beBytes 1 e.raises
    ++ beBytes 4 e.firstRaise.val ++ beBytes 4 e.lastChange.val

/-- An input: its settings in the order of R154, its conditioned level and its cause flag. -/
def inputBytes (x : AlarmInput) : List Byte :=
  [if x.settings.masked then 1 else 2, if x.settings.activeHigh then 2 else 1, if x.settings.latched then 2 else 1,
   severityByte (some x.settings.severity)] ++ beBytes 1 x.settings.debounceMs ++ [flagByte x.asserted, flagByte x.cause]

/-- The ALARMS item (R173). -/
def alarmsItem (s : State) : List Byte :=
  let a := s.alu
  listBytes alarmBytes a.table ++ [flagByte a.overflow] ++ listBytes keyBytes a.suppressed ++ summaryFields a.summary
    ++ [flagByte a.alertDrive, flagByte a.alert.level, flagByte a.collector, flagByte a.crit, flagByte a.maj]
    ++ a.inputs.toList.flatMap inputBytes
    ++ timerBytes a.intervalTimer ++ timerBytes a.holdOffTimer
    ++ s.countersBytes [.raisesDropped, .evictions, .summariesSent]

/-! ### COUNTERS (R185) -/

/-- The COUNTERS item: every counter of the station (R185). -/
def countersItem (s : State) : List Byte := s.counters.toList.flatMap counterBytes

end Sys2Proof.Machine
end

