-- ==== Sys2Proof/Machine/Port.lean ====
section
/-! DEFINITION. The card port (spec 9): the parser's messages and the incoming queue, the handling of each message and
its REPLY, the outgoing arbiter, HOLD and the card reset, with the meanings of the port's events and messages. -/

namespace Sys2Proof.Machine

open Sys2Proof

/-! ### Queues -/

/-- The port's fields replaced. -/
def State.setCpt (s : State) (f : Cpt → Cpt) : State := { s with cpt := f s.cpt }

/-- A completed message joins the incoming queue, or is dropped when the queue holds 4 (R177). -/
def enqueue (m : Message) (s : State) : State :=
  if s.cpt.incoming.length < Config.portQueue then s.setCpt (fun c => { c with incoming := c.incoming ++ [m] })
  else bump .overruns s

/-- What the parser gives out, taken by the port (R177). -/
def takePortEvent (e : PortEvent) (s : State) : State :=
  match e with
  | .message m => enqueue m s
  | .linkFault => bump .linkFaults s

/-- The edges that pass before a message begins to go out: it begins at a byte boundary, with fill up to it (R175,
R199). -/
def Outgoing.wait (phase : Nat) (o : Outgoing) : Nat := if o.sent = 0 then (8 - phase) % 8 else 0

/-- The outgoing direction after so many edges of CPCLK, a bit at each, `phase` edges after a byte boundary (R175). -/
def Outgoing.clocked (phase edges : Nat) (o : Outgoing) : Outgoing :=
  { o with sent := min (o.sent + (edges - o.wait phase)) (8 * o.message.bytes.length) }

/-- The last bit of the message has gone out (R181). -/
def Outgoing.whole (o : Outgoing) : Bool := decide (o.sent = 8 * o.message.bytes.length)

/-- Bits of fill (R199). -/
def fillBits (n : Nat) : List Bool := (bitsOf (List.replicate (n / 8 + 1) fillByte)).take n

/-- The bits put out on CPDO at the next edges of CPCLK: those of the message not sent yet, from a byte boundary on, and
fill around them; fill alone while CRST is held (R175, R181, R199). -/
def Cpt.putsOut (edges : Nat) (c : Cpt) : List Bool :=
  match c.crst.level, c.outgoing with
  | false, some o =>
    (fillBits (o.wait c.bits.length) ++ (bitsOf o.message.bytes).drop o.sent ++ fillBits edges).take edges
  | _, _ => fillBits edges

/-- Edges of CPCLK, with the levels of CPDI at them: eight bits make a byte, counted on from the last byte boundary, and
the bytes are taken by the parser, while a bit goes out on CPDO at each edge. While CRST is held CPDI is ignored and fill
goes out (R175, R177, R188, R199). -/
def takeEdges (edges : List Bool) (s : State) : State :=
  if s.cpt.crst.level then s
  else
    let bits := s.cpt.bits ++ edges
    let r := s.cpt.parser.feedAll (bytesOf bits)
    r.2.foldl (fun t e => takePortEvent e t)
      (s.setCpt (fun c => { c with
        parser := r.1, bits := bitsLeft bits
        outgoing := c.outgoing.map (Outgoing.clocked c.bits.length edges.length) }))

/-- Handling may take a message: the reply queue holds fewer than 4 (R178). -/
def State.canHandle (s : State) : Bool := decide (s.cpt.replies.length < Config.portQueue)

/-- The head message leaves the incoming queue and acts (R178). -/
def takeHead (act : State → State) (s : State) : State := act (s.setCpt (fun c => { c with incoming := c.incoming.tail }))

/-- A message handled: the message at the head of the incoming queue when it is this one, else this one as it completes
now, which joins the queue and is handled at once when nothing stands before it (R177, R178). While CRST is held the
port takes nothing (R188). -/
def handle (m : Message) (act : State → State) (s : State) : State :=
  if s.cpt.crst.level then s
  else if s.cpt.incoming.head? = some m then
    if s.canHandle then takeHead act s else s
  else
    let s1 := enqueue m s
    if s.cpt.incoming = [] ∧ s.canHandle = true then takeHead act s1 else s1

/-! ### Replies (R180) -/

/-- A REPLY appended to the reply queue. -/
def reply (r : Reply) (s : State) : State := s.setCpt (fun c => { c with replies := c.replies ++ [r] })

/-- A refusal of a message with this kind and tag (R180). -/
def refuse (code : RefusalCode) (kind : Byte) (tag : Option (BitVec 16)) (s : State) : State :=
  reply (.refusal code kind tag) s

/-! ### What each message does (R179) -/

/-- SEND: the port's length check, then the scheduler's admission or refusal (R21, R22, R44, R179). -/
def actSend (m : SendRequest) (s : State) : State :=
  if m.lengthField.toNat = m.payload.length then
    match sendJudgement m s with
    | .ok c => admitSend c m s
    | .error code => refuse code 0x01 (some m.tag) (bump .refusedSends s)
  else refuse .badRequest 0x01 (some m.tag) s

/-- The card key of a code, when it is 0..31 (R157). -/
def cardKeyOf (code : Byte) : Option AlarmKey :=
  if code.toNat < 32 then some (.card (Fin.ofNat 32 code.toNat)) else none

/-- RAISE (R157). -/
def actRaise (code severity : Byte) (s : State) : State :=
  match cardKeyOf code, severityOf severity with
  | some k, some v => raiseKey k v s
  | _, _ => refuse .badRequest 0x02 none s

/-- CLEAR (R157). -/
def actClear (code : Byte) (s : State) : State :=
  match cardKeyOf code with
  | some k => clearKey k s
  | none => refuse .badRequest 0x03 none s

/-- The table entry an ACK names, if there is one (R161). -/
def State.ackedEntry (s : State) (origin code : Byte) : Option AlarmEntry :=
  (alarmKeyOf origin code).bind (fun k => findEntry k s.alu.table)

/-- ACK (R161). -/
def actAck (origin code : Byte) (s : State) : State :=
  match s.ackedEntry origin code with
  | some e => ackEntry e s
  | none => refuse .badRequest 0x04 none s

/-- The slot a FORGET names, when it is another slot of the cabinet (R73). -/
def State.forgettable (s : State) (slot : Byte) : Option Slot :=
  let i : Slot := Fin.ofNat 16 slot.toNat
  if s.cabinet ≤ slot.toNat ∨ s.ownSlot = some i then none else some i

/-- FORGET (R73). -/
def actForget (slot : Byte) (s : State) : State :=
  match s.forgettable slot with
  | none => refuse .badRequest 0x05 none s
  | some i =>
    match (s.peer i).state with
    | .gone | .lost => reportDrained (forgetPeer i s)
    | .absent => s
    | .present | .draining => refuse .wrongState 0x05 none s

/-- WITHDRAW (R141). -/
def actWithdraw (s : State) : State :=
  if s.sec.state = .joined then enterDraining .card s else refuse .wrongState 0x06 none s

/-- REJOIN (R145, R147). -/
def actRejoin (s : State) : State := if s.mayRejoin then enterListening s else refuse .wrongState 0x07 none s

/-- LABEL SECOND (R92). -/
def actLabelSecond (x : Seconds) (s : State) : State := { s with tmu := { s.tmu with label := some x } }

/-- A READ checked by the port, then answered with its item; the clear option is given with COUNTERS alone (R179,
R184). -/
def actRead (item : ReadItem) (n : Byte) (clear : Bool) (fields : State → List Byte) (s : State) : State :=
  if clear then refuse .badRequest 0x0A none s else reply (.item item n (fields s)) s

/-- READ PEER, with n in 0..15 (R81, R179). -/
def actReadPeer (n : Byte) (clear : Bool) (s : State) : State :=
  if n.toNat < 16 then actRead .peer n clear (peerItem (Fin.ofNat 16 n.toNat)) s else refuse .badRequest 0x0A none s

/-- Every counter of the COUNTERS item and of the peer entries at 0 (R185). -/
def clearCounters (s : State) : State :=
  { s with counters := Vector.replicate 41 0
           ptb := mapVector (fun e : PeerEntry => { e with frames := 0, gaps := 0, duplicates := 0 }) s.ptb }

/-- READ COUNTERS with the clear option: the values are taken for the REPLY, then set to 0 (R19, R185). -/
def actReadCountersClear (n : Byte) (s : State) : State :=
  clearCounters (reply (.item .counters n (countersItem s)) s)

/-- NEXT EVENT (R187). -/
def actNextEvent (s : State) : State :=
  match s.cpt.events with
  | [] => reply (.event 0 0) s
  | e :: rest =>
    reply (.event e.number rest.length) (s.setCpt (fun c => ({ c with events := rest } : Cpt).refreshLines))

/-! ### The arbiter (R181) -/

/-- The message the arbiter grants: the head REPLY, else the head RESULT, else the pool's head frame while HOLD is
released (R181). -/
def State.granted (s : State) : Option OutMessage :=
  match s.cpt.replies, s.cpt.results, s.cpt.hold.level, s.offeredFrame with
  | r :: _, _, _, _ => some (.reply r)
  | [], r :: _, _, _ => some (.result r)
  | [], [], false, some f => some (.deliver f)
  | [], [], false, none => none
  | [], [], true, _ => none

/-- A granted message in the output buffer; a DELIVER puts the head frame in transfer (R55, R181). -/
def beginSending (m : OutMessage) (s : State) : State :=
  let s1 := s.setCpt (fun c => { c with outgoing := some { message := m } })
  match m with
  | .deliver _ => markTransfer s1
  | .reply _ | .result _ => s1

/-- A grant when the direction is idle and CRST is not held (R181, R188). -/
def grant (s : State) : State :=
  match s.cpt.outgoing, s.cpt.crst.level, s.granted with
  | none, false, some m => beginSending m s
  | _, _, _ => s

/-- The message whose last bit has gone out (R181). -/
def Cpt.finished (c : Cpt) : Option OutMessage := (c.outgoing.filter Outgoing.whole).map Outgoing.message

/-! ### Card reset (R188) -/

/-- The port's own part of a card reset (R176, R188). -/
def resetPort (s : State) : State :=
  s.setCpt (fun c => ({ c with bits := [], parser := .hunt, incoming := [], replies := [], outgoing := none, results := [],
                               events := [], crst := c.crst.take true } : Cpt).refreshLines)

/-- A card reset, block by block (R188). -/
def cardReset (s : State) : State := reportDrained (resetCardAlarms (poolCardReset (resetQueues (resetPort s))))

/-! ### Meanings: pins -/

/-- CARD_RESET: CRST has been asserted for 1 µs (R188). -/
def execCardReset (s : State) : Host.Outcome State Fault Refusal :=
  .next (if s.cpt.crst.due true then cardReset s else s)

/-- CARD_RESET_RELEASE: CRST has been released for 1 µs, and the byte boundaries are counted afresh (R188, R199). -/
def execCardResetRelease (s : State) : Host.Outcome State Fault Refusal :=
  .next (if s.cpt.crst.due false then s.setCpt (fun c => { c with crst := c.crst.take false, bits := [] }) else s)

/-- HOLD_ASSERTED: HOLD has been asserted for 1 µs (R183). -/
def execHoldAsserted (s : State) : Host.Outcome State Fault Refusal :=
  .next (if s.cpt.hold.due true then s.setCpt (fun c => { c with hold := c.hold.take true }) else s)

/-- HOLD_RELEASED: HOLD has been released for 1 µs (R183). -/
def execHoldReleased (s : State) : Host.Outcome State Fault Refusal :=
  .next (if s.cpt.hold.due false then s.setCpt (fun c => { c with hold := c.hold.take false }) else s)

/-! ### Meanings: the link -/

/-- MESSAGE_COMPLETE: edges of CPCLK bring the bits of a message, which joins the incoming queue; bits of the message
going out leave at them (R175, R177, R199). -/
def execMessageComplete (edges : List Bool) (s : State) : Host.Outcome State Fault Refusal := .next (takeEdges edges s)

/-- LINK_FAULT: a header with a length above the link limit (R177). -/
def execLinkFault (s : State) : Host.Outcome State Fault Refusal :=
  .next (if s.cpt.crst.level then s else bump .linkFaults (s.setCpt (fun c => { c with parser := .hunt })))

/-- MALFORMED_MESSAGE, answered BAD REQUEST with its kind and, for a SEND, the tag it holds (R177, R180). -/
def execMalformedMessage (kind : Byte) (tag : Option (BitVec 16)) (s : State) : Host.Outcome State Fault Refusal :=
  .next (handle (.malformed kind (sendTag kind tag)) (refuse .badRequest kind (sendTag kind tag)) s)

/-- SEND (R21). -/
def execSend (m : SendRequest) (s : State) : Host.Outcome State Fault Refusal := .next (handle (.send m) (actSend m) s)

/-- RAISE (R157). -/
def execRaise (code severity : Byte) (s : State) : Host.Outcome State Fault Refusal :=
  .next (handle (.raise code severity) (actRaise code severity) s)

/-- CLEAR (R157). -/
def execClear (code : Byte) (s : State) : Host.Outcome State Fault Refusal := .next (handle (.clear code) (actClear code) s)

/-- ACK (R161). -/
def execAck (origin code : Byte) (s : State) : Host.Outcome State Fault Refusal :=
  .next (handle (.ack origin code) (actAck origin code) s)

/-- FORGET (R73). -/
def execForget (slot : Byte) (s : State) : Host.Outcome State Fault Refusal :=
  .next (handle (.forget slot) (actForget slot) s)

/-- WITHDRAW (R141). -/
def execWithdraw (s : State) : Host.Outcome State Fault Refusal := .next (handle .withdraw actWithdraw s)

/-- REJOIN (R147). -/
def execRejoin (s : State) : Host.Outcome State Fault Refusal := .next (handle .rejoin actRejoin s)

/-- SET_QUALITY (R101). -/
def execSetQuality (quality : Byte) (s : State) : Host.Outcome State Fault Refusal :=
  .next (handle (.setQuality quality) (fun t => reportDrained (setQuality quality t)) s)

/-- LABEL_SECOND (R92). -/
def execLabelSecond (seconds : Seconds) (s : State) : Host.Outcome State Fault Refusal :=
  .next (handle (.labelSecond seconds) (actLabelSecond seconds) s)

/-- READ_STATE (R184). -/
def execReadState (n : Byte) (clear : Bool) (s : State) : Host.Outcome State Fault Refusal :=
  .next (handle (.read .state n clear) (actRead .state n clear stateItem) s)

/-- READ_TIME (R99). -/
def execReadTime (k : EdgeDelay) (n : Byte) (clear : Bool) (s : State) : Host.Outcome State Fault Refusal :=
  .next (handle (.read .time n clear) (actRead .time n clear (timeItem k)) s)

/-- READ_PEER (R81). -/
def execReadPeer (n : Byte) (clear : Bool) (s : State) : Host.Outcome State Fault Refusal :=
  .next (handle (.read .peer n clear) (actReadPeer n clear) s)

/-- READ_SOURCES (R126). -/
def execReadSources (n : Byte) (clear : Bool) (s : State) : Host.Outcome State Fault Refusal :=
  .next (handle (.read .sources n clear) (actRead .sources n clear sourcesItem) s)

/-- READ_ALARMS (R173). -/
def execReadAlarms (n : Byte) (clear : Bool) (s : State) : Host.Outcome State Fault Refusal :=
  .next (handle (.read .alarms n clear) (actRead .alarms n clear alarmsItem) s)

/-- READ_COUNTERS (R185). -/
def execReadCounters (n : Byte) (s : State) : Host.Outcome State Fault Refusal :=
  .next (handle (.read .counters n false) (actRead .counters n false countersItem) s)

/-- READ_COUNTERS_CLEAR (R19). -/
def execReadCountersClear (n : Byte) (s : State) : Host.Outcome State Fault Refusal :=
  .next (handle (.read .counters n true) (actReadCountersClear n) s)

/-- NEXT_EVENT (R187). -/
def execNextEvent (s : State) : Host.Outcome State Fault Refusal := .next (handle .nextEvent actNextEvent s)

/-! ### Meanings: outgoing -/

/-- ARBITER_GRANT (R181). -/
def execArbiterGrant (s : State) : Host.Outcome State Fault Refusal := .next (grant s)

/-- REPLY_SENT: the last bit of a REPLY has gone out, and it leaves the reply queue (R181). -/
def execReplySent (s : State) : Host.Outcome State Fault Refusal :=
  .next (match s.cpt.finished with
    | some (.reply _) => s.setCpt (fun c => { c with outgoing := none, replies := c.replies.tail })
    | some (.result _) | some (.deliver _) | none => s)

/-- RESULT_TRANSFERRED: the last bit of a RESULT has gone out, and its entry leaves the results list (R182). -/
def execResultTransferred (s : State) : Host.Outcome State Fault Refusal :=
  .next (match s.cpt.finished with
    | some (.result _) => s.setCpt (fun c => { c with outgoing := none, results := c.results.tail })
    | some (.reply _) | some (.deliver _) | none => s)

/-- DELIVER_COMPLETE: the last bit of a DELIVER has gone out, and the receive pool frees its frame, when it still holds it
(R56, R183). -/
def execDeliverComplete (s : State) : Host.Outcome State Fault Refusal :=
  .next (match s.cpt.finished with
    | some (.deliver _) => poolDelivered (s.setCpt (fun c => { c with outgoing := none }))
    | some (.reply _) | some (.result _) | none => s)

end Sys2Proof.Machine
end

