-- ==== Sys2Proof/Machine/Dispatch.lean ====
section
/-! DEFINITION. The dispatch: one arm for each command, one direct call of its meaning. -/

namespace Sys2Proof.Machine

open Sys2Proof

/-- The effect of a command on everything but the queue of waiting commands. -/
def exec (i : Instr) (s : State) : Host.Outcome State Fault Refusal :=
  match i with
  | .powerOn pins => Sys2Proof.Machine.execPowerOn pins s
  | .tick => Sys2Proof.Machine.execTick s
  | .strobePulseEnd g => Sys2Proof.Machine.execStrobePulseEnd g s
  | .dueTimePassed => Sys2Proof.Machine.execDueTimePassed s
  | .seatSeated straps => Sys2Proof.Machine.execSeatSeated straps s
  | .seatLoss => Sys2Proof.Machine.execSeatLoss s
  | .ejectOpened => Sys2Proof.Machine.execEjectOpened s
  | .ejectLatched => Sys2Proof.Machine.execEjectLatched s
  | .pgoodGood => Sys2Proof.Machine.execPgoodGood s
  | .pgoodLost => Sys2Proof.Machine.execPgoodLost s
  | .cardReset => Sys2Proof.Machine.execCardReset s
  | .cardResetRelease => Sys2Proof.Machine.execCardResetRelease s
  | .holdAsserted => Sys2Proof.Machine.execHoldAsserted s
  | .holdReleased => Sys2Proof.Machine.execHoldReleased s
  | .refEdge k => Sys2Proof.Machine.execRefEdge k s
  | .inputAsserted n => Sys2Proof.Machine.execInputAsserted n s
  | .inputDeasserted n => Sys2Proof.Machine.execInputDeasserted n s
  | .alertLevelChange asserted => Sys2Proof.Machine.execAlertLevelChange asserted s
  | .settleGapComplete => Sys2Proof.Machine.execSettleGapComplete s
  | .claimPositionBegin k => Sys2Proof.Machine.execClaimPositionBegin k s
  | .startMarkerReceived m => Sys2Proof.Machine.execStartMarkerReceived m s
  | .strayTransition => Sys2Proof.Machine.execStrayTransition s
  | .collisionDetected => Sys2Proof.Machine.execCollisionDetected s
  | .frameCut a => Sys2Proof.Machine.execFrameCut a s
  | .brokenFrame a => Sys2Proof.Machine.execBrokenFrame a s
  | .ownFrameComplete => Sys2Proof.Machine.execOwnFrameComplete s
  | .dataHeard f => Sys2Proof.Machine.execDataHeard f s
  | .syncHeard src body => Sys2Proof.Machine.execSyncHeard src body s
  | .announceHeard src body => Sys2Proof.Machine.execAnnounceHeard src body s
  | .summaryHeard src body => Sys2Proof.Machine.execSummaryHeard src body s
  | .joinHeard src body => Sys2Proof.Machine.execJoinHeard src body s
  | .withdrawHeard src body => Sys2Proof.Machine.execWithdrawHeard src body s
  | .goneHeard src body => Sys2Proof.Machine.execGoneHeard src body s
  | .readyHeard src => Sys2Proof.Machine.execReadyHeard src s
  | .replyWindowOpen => Sys2Proof.Machine.execReplyWindowOpen s
  | .replyWindowEnd w => Sys2Proof.Machine.execReplyWindowEnd w s
  | .silenceTimeout slot => Sys2Proof.Machine.execSilenceTimeout slot s
  | .blockedTimerExpiry slot => Sys2Proof.Machine.execBlockedTimerExpiry slot s
  | .announceTimerExpiry => Sys2Proof.Machine.execAnnounceTimerExpiry s
  | .announceTimeout slot => Sys2Proof.Machine.execAnnounceTimeout slot s
  | .syncTimeout => Sys2Proof.Machine.execSyncTimeout s
  | .referenceTimeout => Sys2Proof.Machine.execReferenceTimeout s
  | .holdoverTimerExpiry => Sys2Proof.Machine.execHoldoverTimerExpiry s
  | .lateTimerExpiry => Sys2Proof.Machine.execLateTimerExpiry s
  | .undeliverableTimerExpiry => Sys2Proof.Machine.execUndeliverableTimerExpiry s
  | .powerGoodTimerExpiry => Sys2Proof.Machine.execPowerGoodTimerExpiry s
  | .listenTimerExpiry => Sys2Proof.Machine.execListenTimerExpiry s
  | .drainTimerExpiry => Sys2Proof.Machine.execDrainTimerExpiry s
  | .goneTimerExpiry => Sys2Proof.Machine.execGoneTimerExpiry s
  | .noticeTimerExpiry => Sys2Proof.Machine.execNoticeTimerExpiry s
  | .summaryIntervalTimerExpiry => Sys2Proof.Machine.execSummaryIntervalTimerExpiry s
  | .summaryHoldOffTimerExpiry => Sys2Proof.Machine.execSummaryHoldOffTimerExpiry s
  | .loadComplete memory => Sys2Proof.Machine.execLoadComplete memory s
  | .messageComplete edges => Sys2Proof.Machine.execMessageComplete edges s
  | .linkFault => Sys2Proof.Machine.execLinkFault s
  | .malformedMessage kind tag => Sys2Proof.Machine.execMalformedMessage kind tag s
  | .send m => Sys2Proof.Machine.execSend m s
  | .raise code severity => Sys2Proof.Machine.execRaise code severity s
  | .clear code => Sys2Proof.Machine.execClear code s
  | .ack origin code => Sys2Proof.Machine.execAck origin code s
  | .forget slot => Sys2Proof.Machine.execForget slot s
  | .withdraw => Sys2Proof.Machine.execWithdraw s
  | .rejoin => Sys2Proof.Machine.execRejoin s
  | .setQuality quality => Sys2Proof.Machine.execSetQuality quality s
  | .labelSecond seconds => Sys2Proof.Machine.execLabelSecond seconds s
  | .readState n clear => Sys2Proof.Machine.execReadState n clear s
  | .readTime k n clear => Sys2Proof.Machine.execReadTime k n clear s
  | .readPeer n clear => Sys2Proof.Machine.execReadPeer n clear s
  | .readSources n clear => Sys2Proof.Machine.execReadSources n clear s
  | .readAlarms n clear => Sys2Proof.Machine.execReadAlarms n clear s
  | .readCounters n => Sys2Proof.Machine.execReadCounters n s
  | .readCountersClear n => Sys2Proof.Machine.execReadCountersClear n s
  | .nextEvent => Sys2Proof.Machine.execNextEvent s
  | .arbiterGrant => Sys2Proof.Machine.execArbiterGrant s
  | .replySent => Sys2Proof.Machine.execReplySent s
  | .resultTransferred => Sys2Proof.Machine.execResultTransferred s
  | .deliverComplete => Sys2Proof.Machine.execDeliverComplete s

end Sys2Proof.Machine
end

