-- ==== Sys2Proof/Safety.lean ====
section
/-! DEFINITION. What a safe station is: the laws of the part as conditions on a state, in the terms the statements use
(spec 00, section 1). -/

namespace Sys2Proof.Machine

open Sys2Proof

/-! ### Conditions that the laws of the part put on a state -/

/-- The third law's first half: queued card frames and results together at most 80 (R23). -/
def LawQueued (s : State) : Prop := s.queued + s.cpt.results.length ≤ Config.queuedLimit

/-- The third law's second half: the store units held by queued entries and the free ones are 128 (R23). -/
def LawStore (s : State) : Prop :=
  s.txs.storeFree + (unitsOf (s.queue .control) + unitsOf (s.queue .deadline) + unitsOf (s.queue .bulk))
    = Config.storeUnits

/-- The fourth law: free and held units of the receive pool are 192 (R46). -/
def LawPool (s : State) : Prop := s.rxp.free + poolHeld s.rxp.frames = Config.poolUnits

/-- The fifth law: rate word and integral within ±134,217,728 (R115). -/
def LawRate (s : State) : Prop :=
  (-Config.rateLimit ≤ s.tmu.rate ∧ s.tmu.rate ≤ Config.rateLimit)
    ∧ (-Config.rateLimit ≤ s.tmu.integral ∧ s.tmu.integral ≤ Config.rateLimit)

/-- The seventh law in its part on the drivers: DRVEN and RMVOK are those of the seating state (R130, R132). -/
def LawDrive (s : State) : Prop := s.sec.drven = drvenIn s.sec.state ∧ s.sec.rmvok = rmvokIn s.sec.state

/-- The eighth law: at most 32 alarm entries with keys that differ (R162). -/
def LawTable (s : State) : Prop :=
  s.alu.table.length ≤ Config.alarmEntries ∧ (s.alu.table.map AlarmEntry.key).Nodup

/-- The ninth law: the alert line is driven exactly while the table holds a critical entry in ACTIVE (R170). -/
def LawAlert (s : State) : Prop := s.alu.alertDrive = alertDue s.alu.table

/-- The twelfth law: the selection is the lowest (quality, priority, slot) entry of the table (R106). -/
def LawSelection (s : State) : Prop := s.src.selection = (bestSource s.src.table).map SourceEntry.slot

/-- The notice lines follow the pending set and the event map (R186). -/
def LawLines (s : State) : Prop :=
  s.cpt.urgent = lineAsserted s.cpt.eventMap s.cpt.events .urgent
    ∧ s.cpt.attention = lineAsserted s.cpt.eventMap s.cpt.events .attention

/-- The pending set, kept by priority: strictly ascending event numbers, each at most once (R176, R187). -/
def LawEvents (s : State) : Prop := s.cpt.events.Pairwise (fun a b => a.number < b.number)

/-- The strobe gate is open exactly while time is valid (R97). -/
def LawGate (s : State) : Prop := s.tmu.gateOpen = s.timeValid

/-- The selection law with the table it speaks of: one entry a slot, in the order of slots (R106). -/
def LawSources (s : State) : Prop := (s.src.table.map SourceEntry.slot).Pairwise (· < ·) ∧ LawSelection s

/-- The current summary is the one the table and the peer view give (R165). -/
def LawSummary (s : State) : Prop := s.alu.summary = s.summaryNow

/-- The relays are as the collector rule gives (R172). -/
def LawRelays (s : State) : Prop := s.alu.crit = s.critDue ∧ s.alu.maj = s.majDue

/-- No drained station in DRAINING goes unreported (R42). -/
def LawDrained (s : State) : Prop :=
  ¬ (s.sec.state = .draining ∧ s.txs.drainedReported = false ∧ s.drained = true)

/-- The condition of T1 as last judged is the one that holds (R108). -/
def LawSourceLost (s : State) : Prop :=
  s.src.sourceLost = (decide (s.sec.state = .joined) && s.src.selection.isNone)

/-! ### What a command leaves as it was -/

/-- The blocks of the station, its counters, the pin levels, and the queue of waiting commands. -/
inductive Block where
  | bau | txs | rxp | ptb | tmu | src | sec | alu | cpt | stl | counters | pins | pending
  deriving DecidableEq, Repr

/-- A block is the same in two states. -/
def Block.same (b : Block) (s t : State) : Prop :=
  match b with
  | .bau => t.bau = s.bau
  | .txs => t.txs = s.txs
  | .rxp => t.rxp = s.rxp
  | .ptb => t.ptb = s.ptb
  | .tmu => t.tmu = s.tmu
  | .src => t.src = s.src
  | .sec => t.sec = s.sec
  | .alu => t.alu = s.alu
  | .cpt => t.cpt = s.cpt
  | .stl => t.stl = s.stl
  | .counters => t.counters = s.counters
  | .pins => t.pins = s.pins ∧ t.pinsAhead = s.pinsAhead
  | .pending => t.pending = s.pending

/-- Every block but those listed is the same. -/
def SameOutside (l : List Block) (s t : State) : Prop := ∀ b, b ∉ l → b.same s t

/-- The card port differs in events placed and in the notice lines only, and no event left the pending set. -/
def OnlyEventsPlaced (s t : State) : Prop :=
  t.cpt = { s.cpt with events := t.cpt.events, urgent := t.cpt.urgent, attention := t.cpt.attention }
    ∧ ∀ e, e ∈ s.cpt.events → e ∈ t.cpt.events

/-- Every counter but those listed is the same. -/
def CountersSame (l : List CounterId) (s t : State) : Prop := ∀ i, i ∉ l → t.counter i = s.counter i

/-- A counter took one saturating addition (R18). -/
def Counted (i : CounterId) (s t : State) : Prop := t.counter i = satAdd (s.counter i) 1

/-- Every peer entry but one is the same. -/
def OtherPeersSame (i : Slot) (s t : State) : Prop := ∀ j, j ≠ i → t.peer j = s.peer j

/-- A key's cause is in the picture: its entry is ACTIVE or ACKED, or it holds a suppression mark. -/
def Raised (k : AlarmKey) (s : State) : Prop :=
  (∃ e, e ∈ s.alu.table ∧ e.key = k ∧ e.state ≠ .cleared) ∨ k ∈ s.alu.suppressed

/-- The alarm unit differs in what raises and clears change; its timers but the hold-off, its alert level and its
collector role are the same. -/
def OnlyAlarmsChanged (s t : State) : Prop :=
  t.alu = { s.alu with
    inputs := t.alu.inputs, table := t.alu.table, suppressed := t.alu.suppressed, overflow := t.alu.overflow
    summary := t.alu.summary, holdOffTimer := t.alu.holdOffTimer, alertDrive := t.alu.alertDrive
    crit := t.alu.crit, maj := t.alu.maj }

/-! ### Filters -/

/-- The pin has held this level, other than the conditioned one, for the whole filter (R128, R129, R171, R183, R188). -/
def Held (c : Conditioner) (level : Bool) : Prop := c.pin = level ∧ c.level = !level ∧ c.count = some 0

/-- The input has held this level, other than the conditioned one, for its debounce time (R153). -/
def InputHeld (x : AlarmInput) (level : Bool) : Prop :=
  (x.pinHigh == x.settings.activeHigh) = level ∧ x.asserted = !level ∧ x.count = some 0

/-- The count of a filter of this length after a tick: none at the conditioned level, started where it did not run, else
one less (R128, R129, R153). -/
def CountSampled (length : Nat) (settled : Prop) (before after : Timer) : Prop :=
  (settled → after = none) ∧ (¬ settled → before = none → after = some length)
    ∧ ∀ n, ¬ settled → before = some n → after = some (n - 1)

/-- A filter of `up` ticks towards the named state and `down` ticks away from it took a level at a tick. -/
def Sampled (up down : Nat) (pin : Bool) (c c' : Conditioner) : Prop :=
  c'.pin = pin ∧ c'.level = c.level ∧ CountSampled (if pin then up else down) (pin = c.level) c.count c'.count

/-- A filter of this length behind a two-stage synchroniser took a tick: the first stage took the pin, and the filter
judges the second, which took what the first held (R171, R183, R188; the tick it judges is the model's choice, log 30). -/
def SampledThrough (length : Nat) (pin : Bool) (c c' : Synchronised) : Prop :=
  c'.stage = pin ∧ Sampled length length c.stage c.toConditioner c'.toConditioner

/-! ### Candidates (R29) -/

/-- Entry `n` of a queue meets the four conditions of R29 and is not in flight. -/
def Eligible (c : CardClass) (n : Nat) (s : State) : Prop :=
  ∃ e, (s.queue c)[n]? = some e ∧ e.inFlight = false
    ∧ (∀ m e', m < n → (s.queue c)[m]? = some e' → e'.dest ≠ e.dest)
    ∧ (∀ i : Slot, i.val = e.dest.val → (s.peer i).blocked = false)
    ∧ e.released = true ∧ (c = .deadline → s.timeValid = true)

/-- The card candidate of a queue: its oldest eligible entry (R29). -/
def CardCandidate (c : CardClass) (n : Nat) (s : State) : Prop := Eligible c n s ∧ ∀ m, m < n → ¬ Eligible c m s

/-! ### Where a command acts -/

/-- The port takes a message now: CRST is not held, no message waits, and a REPLY has room (R178, R188). -/
def PortReady (s : State) : Prop :=
  s.cpt.crst.level = false ∧ s.cpt.incoming = [] ∧ s.cpt.replies.length < Config.portQueue

/-- A good frame of slot `i`, another slot of the cabinet, can reach its end marker now (R15, R16). -/
def Hearing (s : State) (i : Slot) (stamp : FullTime) : Prop :=
  s.bau.view = .frame ∧ s.bau.tx = none ∧ s.bau.rx = some (.marker stamp)
    ∧ i.val < s.cabinet ∧ s.ownSlot ≠ some i

/-- A command that stands for a good frame of slot `i` heard on the pair. -/
def FrameFrom (i : Slot) (c : Instr) : Prop :=
  (∃ f, c = .dataHeard f ∧ f.source = i) ∨ c = .readyHeard i
    ∨ ∃ body, c = .syncHeard i body ∨ c = .announceHeard i body ∨ c = .summaryHeard i body ∨ c = .joinHeard i body
        ∨ c = .withdrawHeard i body ∨ c = .goneHeard i body

/-- In half bit time `j` of a tick the pair shows another level than the sender of a frame leaves there, in the claim
field or in the rest of the frame up to the release of its end marker (R8, section 1.4). -/
def DiffersAt (x : Transmission) (pair : List Bool) (j : Nat) : Prop :=
  8 ≤ x.driven + j ∧ x.driven + j + 1 < x.drive.length
    ∧ pair[j]? ≠ none ∧ pair[j]? ≠ (x.drive[x.driven + j]?).map Drive.level

/-- The bus access unit after a good frame of slot `i`: WINDOW, and the pointer at (i + 1) mod N (R1, R6). -/
def heardBus (s : State) (i : Slot) : Bau :=
  { s.bau with view := .window, rx := none, pointer := Fin.ofNat 16 ((i.val + 1) % s.cabinet) }

end Sys2Proof.Machine
end

