-- ==== Sys2Proof/WellFormed.lean ====
section
/-! DEFINITION. Which commands can stand for something the outside can do: the ranges that the operand types
do not already carry. `exec` is total and does not depend on these checks. -/

namespace Sys2Proof

/-- A DATA payload is 0..1,024 bytes (R197). -/
def DataFrame.wellFormed (f : DataFrame) : Bool :=
  decide (f.payload.length ≤ Config.maxPayload)

/-- An activity begins with an edge to H out of quiet; a start marker lasts eight half bit times (R197). -/
def PairStart.wellFormed (m : PairStart) : Bool :=
  decide (m.levels.take 2 = [false, true]) && decide (m.levels.length ≤ 9)

/-- An activity that reached its end marker carries the twelve claim bits and at least the six header bytes and, after
its body of at most 1,024 bytes and a due time, the four check bytes (R7, R197). -/
def Activity.wellFormed (a : Activity) : Bool :=
  decide (a.claim.length = 12) && decide (48 ≤ a.rest.length)
    && decide (a.rest.length ≤ 8 * (10 + Config.maxPayload + 4))

/-- An activity cut short carries at most the twelve claim bits (R1, R7). -/
def Activity.cutWellFormed (a : Activity) : Bool := decide (a.claim.length ≤ 12)

/-- A SEND body is 11..1,536 bytes, eleven of them before the payload (R199). -/
def SendRequest.wellFormed (m : SendRequest) : Bool :=
  decide (m.payload.length + 11 ≤ Config.linkLimit)

/-- A reply pattern sampled in the window has at most 16 bits (R12, R13). -/
def WindowContent.wellFormed : WindowContent → Bool
  | .bits _ p => decide (p.length ≤ 16) && decide (p ≠ [])
  | _ => true

/-- A frame body is at most 1,024 bytes (R197). -/
def bodyWellFormed (body : List Byte) : Bool := decide (body.length ≤ Config.maxPayload)

/-- At least one edge, and at most those of a start code, a kind, two length bytes and 1,536 body bytes (R175, R199). -/
def edgesWellFormed (edges : List Bool) : Bool :=
  decide (1 ≤ edges.length) && decide (edges.length ≤ 8 * (4 + Config.linkLimit))

/-- Only a malformed SEND carries a tag (R180). -/
def malformedWellFormed (kind : Byte) (tag : Option (BitVec 16)) : Bool := tag.isNone || decide (kind = 1)

/-- The start loader reads at most 512 bytes (R192). -/
def MemoryAnswer.wellFormed (m : MemoryAnswer) : Bool := decide (m.bytes.length ≤ Config.recordLimit)

/-- The pair shows at most the four half bit times of a tick (R8). -/
def PinLevels.wellFormed (p : PinLevels) : Bool := decide (p.pair.length ≤ Config.halvesPerTick)

/-- The operand ranges of each command. -/
def Instr.wellFormed : Instr → Bool
  | .powerOn p => p.wellFormed
  | .dataHeard f => f.wellFormed
  | .brokenFrame a => a.wellFormed
  | .startMarkerReceived m => m.wellFormed
  | .syncHeard _ b => bodyWellFormed b
  | .announceHeard _ b => bodyWellFormed b
  | .summaryHeard _ b => bodyWellFormed b
  | .joinHeard _ b => bodyWellFormed b
  | .withdrawHeard _ b => bodyWellFormed b
  | .goneHeard _ b => bodyWellFormed b
  | .replyWindowEnd w => w.wellFormed
  | .frameCut a => a.cutWellFormed
  | .loadComplete m => m.wellFormed
  | .messageComplete b => edgesWellFormed b
  | .malformedMessage kind tag => malformedWellFormed kind tag
  | .send m => m.wellFormed
  | .tick | .strobePulseEnd _ | .dueTimePassed | .seatSeated _ | .seatLoss
  | .ejectOpened | .ejectLatched | .pgoodGood | .pgoodLost | .cardReset | .cardResetRelease
  | .holdAsserted | .holdReleased | .refEdge _ | .inputAsserted _ | .inputDeasserted _
  | .alertLevelChange _ | .settleGapComplete | .claimPositionBegin _
  | .strayTransition | .collisionDetected | .ownFrameComplete | .readyHeard _
  | .replyWindowOpen | .silenceTimeout _ | .blockedTimerExpiry _ | .announceTimerExpiry
  | .announceTimeout _ | .syncTimeout | .referenceTimeout | .holdoverTimerExpiry
  | .lateTimerExpiry | .undeliverableTimerExpiry | .powerGoodTimerExpiry | .listenTimerExpiry
  | .drainTimerExpiry | .goneTimerExpiry | .noticeTimerExpiry | .summaryIntervalTimerExpiry
  | .summaryHoldOffTimerExpiry | .linkFault | .raise _ _ | .clear _
  | .ack _ _ | .forget _ | .withdraw | .rejoin | .setQuality _ | .labelSecond _ | .readState _ _
  | .readTime _ _ _ | .readPeer _ _ | .readSources _ _ | .readAlarms _ _ | .readCounters _
  | .readCountersClear _ | .nextEvent | .arbiterGrant | .replySent | .resultTransferred
  | .deliverComplete => true

end Sys2Proof
end

