-- ==== Sys2Proof/Certificates/Slice0/Obligations.lean ====
section
/-! DEFINITION. The statements about the part, for the provers. -/

open Sys2Proof Sys2Proof.Machine

/-! ### The machine as a whole -/

/-- The step takes the command at the front of the queue and runs it on the state with the queue's rest; an empty queue
idles (log 8). -/
def Obligations.StepRunsFrontCommand : Prop :=
  (∀ (c : Instr) (rest : List Instr) (s : State), step (s.withPending (c :: rest)) = exec c (s.withPending rest))
    ∧ ∀ s : State, s.pending = [] → step s = .next s

/-- POWER_ON gives every block its power-on value, whatever the pins and the state before, and leaves the commands that
wait, and the pin levels to come (the model's choice, log 28) (R2, R20, R46, R64, R85, R100, R114, R127, R152, R176,
R190). -/
def Obligations.PowerOnValues : Prop :=
  ∀ (pins : PinLevels) (s : State), ∃ t, exec (.powerOn pins) s = .next t ∧ t.pending = s.pending
    ∧ t.pins = pins ∧ t.pinsAhead = s.pinsAhead
    ∧ (t.bau.view = .inactive ∧ t.bau.position.val = 0 ∧ t.bau.pointer.val = 0 ∧ t.bau.collisions = 0
        ∧ t.bau.tickCount = 0)
    ∧ (t.txs.queues = { control := [], deadline := [], bulk := [] } ∧ t.txs.storeFree = 128
        ∧ (∀ k, t.txs.slots.get k = .empty) ∧ (∀ (i : Slot) (c : CardClass), (t.txs.nextSeq[i]).get c = 0)
        ∧ t.txs.lateTimer = none ∧ t.txs.undeliverableTimer = none)
    ∧ (t.rxp.frames = [] ∧ t.rxp.free = 192 ∧ t.rxp.refused = [] ∧ t.rxp.readyOutstanding = false
        ∧ t.rxp.readyLevel = 48 ∧ t.rxp.groups = 0)
    ∧ (∀ i : Slot, t.peer i = PeerEntry.cleared)
    ∧ (t.tmu.time = .zero ∧ t.tmu.rate = 0 ∧ t.tmu.residue = 0 ∧ t.tmu.integral = 0 ∧ t.tmu.servo = .free
        ∧ t.tmu.everLocked = false ∧ t.tmu.label = none ∧ t.tmu.lastRef = none ∧ t.tmu.lockCount = 0
        ∧ t.tmu.outlierCount = 0 ∧ t.tmu.rateLimitCount = 0 ∧ t.tmu.holdoverTimer = none ∧ t.tmu.lastError = none
        ∧ t.tmu.settings = { kp := 1, ki := 4, stepThreshold := 500, lockThreshold := 100, holdoverLimit := 600,
                             linkLatency := 24, pitchDelay := 500 }
        ∧ t.tmu.gateOpen = false
        ∧ t.tmu.sta = { settings := { period := 2, offset := 0, width := 125 }, output := false, left := 0 }
        ∧ t.tmu.stb = { settings := { period := 0, offset := 0, width := 125 }, output := false, left := 0 })
    ∧ (t.src.quality = 2 ∧ t.src.priority = 128 ∧ t.src.capable = false ∧ t.src.table = [] ∧ t.src.selection = none
        ∧ t.src.role = .follower ∧ t.src.announceTimer = none ∧ t.src.syncTimeout = none ∧ t.src.refTimeout = none
        ∧ t.src.refSeen = false)
    ∧ (t.sec.state = .unseated ∧ t.sec.withdrawCause = none ∧ t.sec.forceCause = none ∧ t.sec.conflictCause = none
        ∧ t.sec.recordLoaded = false ∧ t.sec.slotHeard = false ∧ t.sec.ejectorOpened = false
        ∧ t.sec.powerGoodTimer = none ∧ t.sec.listenTimer = none ∧ t.sec.drainTimer = none ∧ t.sec.goneTimer = none
        ∧ t.sec.noticeTimer = none ∧ t.sec.seat.level = false ∧ t.sec.eject.level = false ∧ t.sec.pgood.level = false
        ∧ t.sec.pwren = false ∧ t.sec.drven = false ∧ t.sec.rmvok = false)
    ∧ (t.alu.table = [] ∧ t.alu.suppressed = [] ∧ t.alu.overflow = false ∧ t.alu.alertDrive = false
        ∧ t.alu.alert.level = false ∧ t.alu.collector = false ∧ t.alu.crit = false ∧ t.alu.maj = false
        ∧ t.alu.intervalTimer = none ∧ t.alu.holdOffTimer = none ∧ t.alu.summary = .empty
        ∧ ∀ n : Fin 8, (t.input n).asserted = false ∧ (t.input n).cause = false
            ∧ (t.input n).settings = { masked := false, activeHigh := false, latched := false, severity := .minor,
                                       debounceMs := 20 })
    ∧ (t.cpt.bits = [] ∧ t.cpt.parser = .hunt ∧ t.cpt.incoming = [] ∧ t.cpt.replies = [] ∧ t.cpt.outgoing = none
        ∧ t.cpt.results = [] ∧ t.cpt.events = [] ∧ t.cpt.urgent = false ∧ t.cpt.attention = false ∧ t.cpt.hold.level = false
        ∧ t.cpt.eventMap = defaultEventMap)
    ∧ (t.stl.straps = none ∧ t.stl.load = none ∧ t.stl.image = none)
    ∧ ∀ i : CounterId, t.counter i = 0

/-- The laws of the part hold right after power-on. -/
def Obligations.LawsHoldAtReset : Prop :=
  LawQueued State.reset ∧ LawStore State.reset ∧ LawPool State.reset ∧ LawRate State.reset ∧ LawDrive State.reset
    ∧ LawTable State.reset ∧ LawAlert State.reset ∧ LawSources State.reset ∧ LawGate State.reset
    ∧ LawLines State.reset ∧ LawEvents State.reset ∧ LawSummary State.reset ∧ LawRelays State.reset ∧ LawDrained State.reset
    ∧ LawSourceLost State.reset

/-- The third law, kept by every step: queued card frames and untaken results at most 80, store units 128 (R23). -/
def Obligations.QueueLawKept : Prop :=
  ∀ s t : State, LawQueued s → LawStore s → step s = .next t → LawQueued t ∧ LawStore t

/-- The fourth law, kept by every step: free and held pool units are 192 (R46). -/
def Obligations.PoolLawKept : Prop := ∀ s t : State, LawPool s → step s = .next t → LawPool t

/-- The fifth law, kept by every step: rate word and integral within ±134,217,728 (R115). -/
def Obligations.RateLawKept : Prop := ∀ s t : State, LawRate s → step s = .next t → LawRate t

/-- DRVEN and RMVOK are those of the seating state after every step (R130, R132). -/
def Obligations.DriveLawKept : Prop := ∀ s t : State, LawDrive s → step s = .next t → LawDrive t

/-- The eighth law, kept by every step: at most 32 alarm entries, no two with one key (R162). -/
def Obligations.AlarmTableLawKept : Prop := ∀ s t : State, LawTable s → step s = .next t → LawTable t

/-- The ninth law, kept by every step: the alert line is driven exactly while the table holds a critical entry in
ACTIVE (R170). -/
def Obligations.AlertLawKept : Prop := ∀ s t : State, LawAlert s → step s = .next t → LawAlert t

/-- The twelfth law, kept by every step, with the order of the table it speaks of (R106); and the condition of T1, JOINED
with no selection, stays as last judged (the model's flag, log 24) (R108). -/
def Obligations.SelectionLawKept : Prop :=
  ∀ s t : State, step s = .next t → (LawSources s → LawSources t) ∧ (LawSourceLost s → LawSourceLost t)

/-- The strobe gate is open exactly while time is valid, the notice lines follow the pending events and the event map, and
the pending set keeps its order by priority, after every step (R94, R97, R176, R186, R187). -/
def Obligations.GateAndLinesKept : Prop :=
  ∀ s t : State, step s = .next t → (LawGate s → LawGate t) ∧ (LawLines s → LawLines t) ∧ (LawEvents s → LawEvents t)

/-- The current summary and the relays follow the alarm table, the peer view and the alert level, after every step
(R165, R172). -/
def Obligations.SummaryAndRelaysKept : Prop :=
  ∀ s t : State, LawSummary s → LawRelays s → step s = .next t → LawSummary t ∧ LawRelays t

/-- A station in DRAINING whose card queues are empty and that has nothing on the pair has reported drained, after every
step (R42). -/
def Obligations.DrainedReportedAtOnce : Prop := ∀ s t : State, LawDrained s → step s = .next t → LawDrained t

/-- A step that starts a frame of this station starts it with the drivers on, in JOINED or DRAINING, or as the JOIN of
JOINING or the GONE of FORCED; a class-2 card frame only while time is valid and not after its due time (the sixth and
seventh laws: R28, R118, R130). -/
def Obligations.StartsOnlyWhereAllowed : Prop :=
  ∀ (s t : State) (x : Transmission), s.bau.tx = none → step s = .next t → t.bau.tx = some x →
    s.sec.drven = true
      ∧ (s.sec.state = .joined ∨ s.sec.state = .draining
          ∨ (s.sec.state = .joining ∧ x.source = .internal .join)
          ∨ (s.sec.state = .forced ∧ x.source = .internal .gone))
      ∧ (x.source = .card .deadline → s.timeValid = true ∧ ∀ d, x.due = some d → dueAhead d s.tmu.time.short = true)

/-- A step that changes cabinet time, other than TICK and POWER_ON, takes a sample and leaves the servo in ACQUIRE with
time not valid: the counter is stepped there alone (the sixth law: R88, R118). -/
def Obligations.TimeSteppedOnlyInAcquire : Prop :=
  ∀ (c : Instr) (s t : State), exec c s = .next t → t.tmu.time ≠ s.tmu.time →
    c = .tick ∨ (∃ pins, c = .powerOn pins)
      ∨ (((∃ i body, c = .syncHeard i body) ∨ ∃ k, c = .refEdge k)
          ∧ t.tmu.servo = .acquire ∧ t.timeValid = false)

/-! ### Formats -/

/-- A card message sent as its bytes is taken by the parser, from HUNT, as that message and nothing else (R177, R199). -/
def Obligations.MessageBytesParse : Prop :=
  ∀ m : Message,
    (match m with
     | .send r => r.wellFormed = true
     | .malformed _ _ => False
     | _ => True) →
    Parser.feedAll .hunt m.bytes = (.hunt, [.message m])

/-- A frame sent undisturbed, with any claim word, in a cabinet of `n` slots: a receiver recognises its start marker,
takes off the pair the halves the sender drove and recognises its end marker, takes the bytes sent, judges them good,
and reads back its header and its body (R7, R15, R197, R198). -/
def Obligations.FrameBytesReadBack : Prop :=
  ∀ (n : Nat) (h : FrameHeader) (word : BitVec 6) (body : List Byte),
    h.kind.allowsClass h.cls.val = true → h.slot.val < n → body.length ≤ 1024 →
    (∀ k, PairStart.isMarker { delay := k, levels := false :: (frameDrive h word body).map Drive.level } = true)
      ∧ readActivity ((contentDrive h word body).map Drive.level) = cleanActivity h word body
      ∧ (cleanActivity h word body).endRecognised = true ∧ (cleanActivity h word body).bytes = frameBytes h body
      ∧ judgeActivity n true (cleanActivity h word body) = none
      ∧ readHeader (frameBytes h body) = some h ∧ readBody (frameBytes h body) = body

/-! ### Cabinet time and strobes -/

/-- A tick: d = floor((residue + R) / 2^21), the residue keeps the rest, the counter advances by 524,288 + d; rate word,
integral and servo stay; with residue and rate word in their ranges the advance is 524,224..524,352. The tick samples
the pins, the first of the levels to come or those that stand (log 30): ALERT, HOLD, CRST, the inputs and the straps pass
the two stages of their synchronisers, so that their filters judge the level the second stage takes; the filter of a level
that stands at its conditioned value does not count, one that leaves it starts its count, and one that stays counts on.
The alert line is asserted where this station or another pulls it. An own frame is driven by four half bits, as far as the
last of its end marker; a sampled level of the pair that differs from a half bit of its claim field, of a bit after it or
of its end marker is a difference, and the half bit of the first difference is the last one driven (log 36); a frame with
a difference, or complete, stays. A reply is released after its eighth bit. Every timer that runs has one tick less to run
(log 7), and every age is one tick greater, a peer's up to 65,535 ms; SYNC is requested where the tick crosses a multiple
of 62.5 ms in JOINED with role SOURCE outside ACQUIRE (R8, R72, R86, R109, R128, R129, R153, R171, R183, R188, R190,
R197). -/
def Obligations.TickAdvancesTime : Prop :=
  ∀ s : State, ∃ t, exec .tick s = .next t
    ∧ t.tmu.time = s.tmu.time.add (524288 + ((s.tmu.residue : Int) + s.tmu.rate) / 2097152)
    ∧ (t.tmu.residue : Int) = ((s.tmu.residue : Int) + s.tmu.rate) % 2097152
    ∧ t.tmu.rate = s.tmu.rate ∧ t.tmu.integral = s.tmu.integral ∧ t.tmu.servo = s.tmu.servo
    ∧ t.tmu.everLocked = s.tmu.everLocked ∧ t.tmu.settings = s.tmu.settings ∧ t.tmu.label = s.tmu.label
    ∧ t.tmu.lastRef = s.tmu.lastRef ∧ t.tmu.lastError = s.tmu.lastError ∧ t.tmu.gateOpen = s.tmu.gateOpen
    ∧ t.bau = { s.bau with tickCount := s.bau.tickCount + 1, tx := t.bau.tx, reply := t.bau.reply }
    ∧ (s.bau.tx = none → t.bau.tx = none)
    ∧ (∀ x, s.bau.tx = some x → x.complete = true ∨ x.differed = true → t.bau.tx = some x)
    ∧ (∀ x, s.bau.tx = some x → x.complete = false → x.differed = false → ∃ y, t.bau.tx = some y
        ∧ y = { x with driven := y.driven, differed := y.differed }
        ∧ (y.differed = true ↔ ∃ j, j < 4 ∧ DiffersAt x t.pins.pair j)
        ∧ (y.differed = false → y.driven = min (x.driven + 4) (x.drive.length - 1))
        ∧ ∀ j, j < 4 → DiffersAt x t.pins.pair j → (∀ k, k < j → ¬ DiffersAt x t.pins.pair k) → y.driven = x.driven + j + 1)
    ∧ (s.bau.reply = none → t.bau.reply = none)
    ∧ (∀ r, s.bau.reply = some r → r.driving = false → t.bau.reply = some r)
    ∧ (∀ r, s.bau.reply = some r → r.driving = true →
        t.bau.reply = if r.left ≤ 2 then none else some { r with left := r.left - 2 })
    ∧ t.pins = s.pinsAhead.headD s.pins ∧ t.pinsAhead = s.pinsAhead.tail
    ∧ Sampled 2500000 125000 t.pins.seated s.sec.seat t.sec.seat
    ∧ Sampled 2500000 2500000 t.pins.latched s.sec.eject t.sec.eject
    ∧ Sampled 125000 125000 t.pins.powerGood s.sec.pgood t.sec.pgood
    ∧ SampledThrough 125000 (t.pins.alertPulled || s.alu.alertDrive) s.alu.alert t.alu.alert
    ∧ SampledThrough 125 t.pins.holdAsserted s.cpt.hold t.cpt.hold
    ∧ SampledThrough 125 t.pins.resetHeld s.cpt.crst t.cpt.crst
    ∧ (∀ n : Fin 8, t.input n = { s.input n with
          stage := t.pins.inputsHigh.getLsbD n.val, pinHigh := (s.input n).stage, count := (t.input n).count }
        ∧ CountSampled (125000 * (s.input n).settings.debounceMs)
            (((s.input n).stage == (s.input n).settings.activeHigh) = (s.input n).asserted)
            (s.input n).count (t.input n).count)
    ∧ t.txs.lateTimer = s.txs.lateTimer.map (· - 1)
    ∧ t.txs.undeliverableTimer = s.txs.undeliverableTimer.map (· - 1)
    ∧ t.tmu.holdoverTimer = s.tmu.holdoverTimer.map (· - 1)
    ∧ t.src = { s.src with
        table := s.src.table.map (fun e => { e with age := e.age.map (· + 1) })
        announceTimer := s.src.announceTimer.map (· - 1), syncTimeout := s.src.syncTimeout.map (· - 1)
        refTimeout := s.src.refTimeout.map (· - 1) }
    ∧ t.sec = { s.sec with
        powerGoodTimer := s.sec.powerGoodTimer.map (· - 1), listenTimer := s.sec.listenTimer.map (· - 1)
        drainTimer := s.sec.drainTimer.map (· - 1), goneTimer := s.sec.goneTimer.map (· - 1)
        noticeTimer := s.sec.noticeTimer.map (· - 1), seat := t.sec.seat, eject := t.sec.eject, pgood := t.sec.pgood }
    ∧ t.alu = { s.alu with
        intervalTimer := s.alu.intervalTimer.map (· - 1), holdOffTimer := s.alu.holdOffTimer.map (· - 1)
        alert := t.alu.alert, inputs := t.alu.inputs }
    ∧ (∀ i : Slot, t.peer i = { s.peer i with
        age := (s.peer i).age.map (fun x => min (x + 1) (125000 * 65535))
        blockedTimer := (s.peer i).blockedTimer.map (· - 1) })
    ∧ t.txs.slots = (if s.src.role = .source ∧ s.sec.state = .joined ∧ s.tmu.servo ≠ .acquire
          ∧ ((s.tmu.time.units : Int) / (65536 * 62500000)
              < (s.tmu.time.units + (524288 + ((s.tmu.residue : Int) + s.tmu.rate) / 2097152)) / (65536 * 62500000))
        then { s.txs.slots with sync := s.txs.slots.sync.requested } else s.txs.slots)
    ∧ t.cpt = { s.cpt with hold := t.cpt.hold, crst := t.cpt.crst }
    ∧ t.stl = { s.stl with stage := t.pins.straps, synchronised := s.stl.stage }
    ∧ SameOutside [.bau, .txs, .ptb, .tmu, .src, .sec, .alu, .cpt, .stl, .pins] s t
    ∧ (s.tmu.residue < 2097152 → -134217728 ≤ s.tmu.rate → s.tmu.rate ≤ 134217728 →
        524224 ≤ 524288 + ((s.tmu.residue : Int) + s.tmu.rate) / 2097152
          ∧ 524288 + ((s.tmu.residue : Int) + s.tmu.rate) / 2097152 ≤ 524352)

/-- At a tick that crosses a boundary of a generator while the gate is open, its output goes high for its width and every
class-2 entry waiting on it is released; at any other tick a pulse has one tick less to last, and one that has lasted its
width is low. STROBE_PULSE_END makes the output of a pulse that has lasted its width low and changes nothing else; before
that it changes nothing (R30, R96, R97). -/
def Obligations.StrobePulses : Prop :=
  (∀ (g : Strobe) (s t : State), exec .tick s = .next t →
    if s.tmu.gateOpen = true ∧ crosses s.tmu.time s.tickAdvance (periodNs (s.tmu.strobe g).settings.period)
        (s.tmu.strobe g).settings.offset = true then
      t.tmu.strobe g = { s.tmu.strobe g with output := true, left := (s.tmu.strobe g).settings.width }
        ∧ ∀ e, e ∈ t.queue .deadline → e.release = some g → e.released = true
    else t.tmu.strobe g = if (s.tmu.strobe g).left = 0 then { s.tmu.strobe g with output := false }
      else { s.tmu.strobe g with left := (s.tmu.strobe g).left - 1 })
  ∧ (∀ s : State, s.tmu.sta.left = 0 → exec (.strobePulseEnd .sta) s = .next
      { s with tmu := { s.tmu with sta := { s.tmu.sta with output := false } } })
  ∧ (∀ s : State, s.tmu.stb.left = 0 → exec (.strobePulseEnd .stb) s = .next
      { s with tmu := { s.tmu with stb := { s.tmu.stb with output := false } } })
  ∧ ∀ (g : Strobe) (s : State), (s.tmu.strobe g).left ≠ 0 → exec (.strobePulseEnd g) s = .next s

/-- A REF edge becomes the last REF stamp. With role FOLLOWER nothing else changes. With role SOURCE it restarts the
reference timeout, sets reference seen, uses the pending label, and its error, label time less stamp, is the last
error (R91, R93, R113, R123). -/
def Obligations.RefEdgeTaken : Prop :=
  (∀ (k : EdgeDelay) (s : State), s.src.role = .follower → LawDrained s →
    exec (.refEdge k) s = .next { s with tmu := { s.tmu with lastRef := some (s.stamp k) } })
  ∧ ∀ (k : EdgeDelay) (s : State), s.src.role = .source → ∃ t, exec (.refEdge k) s = .next t
      ∧ t.tmu.lastRef = some (s.stamp k) ∧ t.tmu.label = none
      ∧ t.tmu.lastError = some ((FullTime.ofSecond (s.tmu.label.getD (nearestSecond (s.stamp k)))).sub (s.stamp k), .ref)
      ∧ t.src = { s.src with refTimeout := some 250000000, refSeen := true }
      ∧ Counted .samples s t
      ∧ SameOutside [.txs, .tmu, .src, .alu, .cpt, .counters] s t

/-! ### The servo -/

/-- A SYNC of the selected source, heard from a PRESENT peer by a FOLLOWER, is a sample: e = (transmit time + path) -
stamp is the last error and the sync timeout restarts. Within the step threshold I and R take their clamped values from
e, in every state but FREE, which becomes ACQUIRE first; beyond it time is stepped in ACQUIRE alone. FREE and ACQUIRE: a
sample within the lock threshold too counts, the fourth locks, another sets the count to 0. LOCKED: a sample beyond the
step threshold is an outlier that changes nothing, the fourth enters ACQUIRE and is stepped. HOLDOVER: a sample within
the step threshold locks again, another enters ACQUIRE and is stepped; T2 and T3 end and the holdover timer stops. Time
is valid in LOCKED and not in ACQUIRE, and a gate that shuts purges C2 (R94, R111 to R113, R115, R117 to R121). -/
def Obligations.SyncSampleUpdatesServo : Prop :=
  ∀ (i own : Slot) (body : List Byte) (stamp : FullTime) (s : State),
    Hearing s i stamp → s.ownSlot = some own → s.src.role = .follower → s.src.selection = some i →
    (s.peer i).state = .present → LawTable s → LawGate s →
    let e := syncError (syncTime body) (pathUnits s.tmu.settings own i) stamp
    let inStep := e.natAbs ≤ 65536 * s.tmu.settings.stepThreshold
    let inLock := e.natAbs ≤ 65536 * s.tmu.settings.lockThreshold
    let lock := if s.tmu.servo = .free then 0 else s.tmu.lockCount
    let integral := clampRate (s.tmu.integral + (e * 17592).tdiv (2 ^ (16 + s.tmu.settings.ki) : Nat))
    ∃ t, exec (.syncHeard i body) s = .next t
      ∧ t.tmu.lastError = some (e, .sync) ∧ Counted .samples s t
      ∧ t.src = { s.src with syncTimeout := some 31250000 }
      ∧ t.bau = heardBus s i ∧ (t.peer i).age = some 0 ∧ OtherPeersSame i s t
      ∧ t.tmu.residue = s.tmu.residue ∧ t.tmu.settings = s.tmu.settings ∧ t.tmu.label = s.tmu.label
      ∧ t.tmu.lastRef = s.tmu.lastRef
      ∧ SameOutside [.bau, .txs, .ptb, .tmu, .src, .alu, .cpt, .counters] s t
      ∧ (inStep → t.tmu.time = s.tmu.time ∧ t.tmu.integral = integral
          ∧ t.tmu.rate = clampRate (integral + (e * 17592).tdiv (2 ^ (16 + s.tmu.settings.kp) : Nat))
          ∧ t.counter .steps = s.counter .steps ∧ t.counter .outliers = s.counter .outliers)
      ∧ (¬ inStep → t.tmu.integral = s.tmu.integral ∧ t.tmu.rate = s.tmu.rate)
      ∧ (s.tmu.servo = .free ∨ s.tmu.servo = .acquire →
          (inStep → inLock → lock < 3 → t.tmu.servo = .acquire ∧ t.tmu.lockCount = lock + 1
            ∧ t.tmu.everLocked = s.tmu.everLocked ∧ t.tmu.gateOpen = false)
          ∧ (inStep → inLock → lock = 3 → t.tmu.servo = .locked ∧ t.tmu.lockCount = 4 ∧ t.tmu.everLocked = true
            ∧ t.tmu.outlierCount = 0 ∧ t.tmu.gateOpen = true)
          ∧ (inStep → ¬ inLock → t.tmu.servo = .acquire ∧ t.tmu.lockCount = 0 ∧ t.tmu.gateOpen = false)
          ∧ (¬ inStep → t.tmu.servo = .acquire ∧ t.tmu.time = s.tmu.time.add e ∧ t.tmu.lockCount = 0
            ∧ Counted .steps s t ∧ t.tmu.gateOpen = false))
      ∧ (s.tmu.servo = .locked →
          (inStep → t.tmu.servo = .locked ∧ t.tmu.outlierCount = 0 ∧ t.tmu.gateOpen = true)
          ∧ (¬ inStep → s.tmu.outlierCount < 3 → t.tmu.servo = .locked ∧ t.tmu.time = s.tmu.time
            ∧ t.tmu.outlierCount = s.tmu.outlierCount + 1 ∧ Counted .outliers s t ∧ t.tmu.gateOpen = true)
          ∧ (¬ inStep → 3 ≤ s.tmu.outlierCount → t.tmu.servo = .acquire ∧ t.tmu.time = s.tmu.time.add e
            ∧ t.tmu.lockCount = 0 ∧ t.tmu.outlierCount = 0 ∧ Counted .outliers s t ∧ Counted .steps s t
            ∧ t.tmu.gateOpen = false ∧ ∀ y, y ∈ t.queue .deadline → y.inFlight = true))
      ∧ (s.tmu.servo = .holdover → t.tmu.holdoverTimer = none
          ∧ (∀ y, y ∈ t.alu.table → y.key = keyT2 ∨ y.key = keyT3 → y.state = .cleared)
          ∧ (inStep → t.tmu.servo = .locked ∧ t.tmu.outlierCount = 0 ∧ t.tmu.gateOpen = true)
          ∧ (¬ inStep → t.tmu.servo = .acquire ∧ t.tmu.time = s.tmu.time.add e ∧ t.tmu.lockCount = 0
            ∧ t.tmu.outlierCount = 0 ∧ Counted .steps s t ∧ t.tmu.gateOpen = false
            ∧ ∀ y, y ∈ t.queue .deadline → y.inFlight = true))

/-- A SYNC that forms no sample (the role is SOURCE, the slot is not the selected one, or the station has no own slot) is
ignored and counted, and the time unit and the source selector stay as they were (R100, R111; log 17). -/
def Obligations.SyncIgnored : Prop :=
  ∀ (i : Slot) (body : List Byte) (stamp : FullTime) (s : State),
    Hearing s i stamp → s.ownSlot = none ∨ s.src.role = .source ∨ s.src.selection ≠ some i →
    (s.peer i).state = .present ∨ (s.peer i).state = .draining →
    ∃ t, exec (.syncHeard i body) s = .next t
      ∧ Counted .syncsIgnored s t ∧ Counted .framesHeard s t ∧ CountersSame [.syncsIgnored, .framesHeard] s t
      ∧ t.bau = heardBus s i ∧ (t.peer i).age = some 0 ∧ OtherPeersSame i s t ∧ OnlyEventsPlaced s t
      ∧ SameOutside [.bau, .txs, .ptb, .cpt, .counters] s t

/-- The expiry of the sync timeout and that of the reference timeout stop their timer and count, the second raising T5
where the reference was seen; the servo then acts on its state. LOCKED, and ACQUIRE with ever-locked, enter HOLDOVER: R
equal to I, the outlier count 0, T2 raised, the holdover timer at its limit, and the gate open. ACQUIRE without
ever-locked enters FREE, where time is valid with role SOURCE alone; the rate word and the rest of the time unit stay.
In FREE and HOLDOVER the time unit stays as it was. The expiry of the holdover timer raises T3 and keeps the servo
state. An expiry acts while its timer runs (log 7) (R94, R121, R122, R123). -/
def Obligations.TimeTimersExpire : Prop :=
  let holdover := fun (s t : State) => t.tmu = { s.tmu with
      servo := .holdover, rate := s.tmu.integral, outlierCount := 0
      holdoverTimer := some (125000000 * s.tmu.settings.holdoverLimit)
      gateOpen := if s.tmu.servo = .acquire then true else s.tmu.gateOpen }
    ∧ Raised keyT2 t ∧ EventKind.timeStateChange ∈ t.cpt.events
  let free := fun (s t : State) => t.tmu = { s.tmu with
      servo := .free, gateOpen := if s.src.role = .source then true else s.tmu.gateOpen }
    ∧ EventKind.timeStateChange ∈ t.cpt.events
  let lost := fun (s t : State) =>
    (s.tmu.servo = .locked ∨ (s.tmu.servo = .acquire ∧ s.tmu.everLocked = true) → holdover s t)
    ∧ (s.tmu.servo = .acquire → s.tmu.everLocked = false → free s t)
    ∧ (s.tmu.servo = .free ∨ s.tmu.servo = .holdover → t.tmu = s.tmu)
    ∧ SameOutside [.txs, .tmu, .src, .alu, .cpt, .counters] s t
  (∀ s : State, s.src.syncTimeout.isSome = true → ∃ t, exec .syncTimeout s = .next t
      ∧ t.src = { s.src with syncTimeout := none } ∧ Counted .syncTimeouts s t ∧ lost s t
      ∧ (s.tmu.servo = .free ∨ s.tmu.servo = .holdover → t.alu = s.alu))
  ∧ (∀ s : State, s.src.refTimeout.isSome = true → ∃ t, exec .referenceTimeout s = .next t
      ∧ t.src = { s.src with refTimeout := none } ∧ Counted .refTimeouts s t ∧ lost s t
      ∧ (s.src.refSeen = true → Raised keyT5 t)
      ∧ (s.src.refSeen = false → s.tmu.servo = .free ∨ s.tmu.servo = .holdover → t.alu = s.alu))
  ∧ ∀ s : State, s.tmu.holdoverTimer.isSome = true → ∃ t, exec .holdoverTimerExpiry s = .next t
      ∧ t.tmu = { s.tmu with holdoverTimer := none } ∧ Raised keyT3 t ∧ OnlyAlarmsChanged s t ∧ OnlyEventsPlaced s t
      ∧ CountersSame [.raisesDropped, .evictions] s t
      ∧ SameOutside [.tmu, .alu, .cpt, .counters] s t

/-! ### Alarms -/

/-- A raise of a key: nothing under a suppression mark; a new ACTIVE entry with count 1 at the end of a table with room;
of an entry that stands, the state (CLEARED becomes ACTIVE), the severity of the raise and a count one higher, at most
255; in a full table a victim is replaced by the new entry, or the raise is dropped with the overflow flag and a mark
(R159, R162, R163). -/
def Obligations.RaiseOfKey : Prop :=
  ∀ (k : AlarmKey) (v : Severity) (s : State), LawTable s →
    (k ∈ s.alu.suppressed → raiseKey k v s = s)
    ∧ (k ∉ s.alu.suppressed → (∀ e, e ∈ s.alu.table → e.key ≠ k) → s.alu.table.length < 32 →
        (raiseKey k v s).alu.table = s.alu.table ++ [freshEntry k v s.tmu.time.seconds]
          ∧ (raiseKey k v s).alu.overflow = s.alu.overflow)
    ∧ (∀ e, k ∉ s.alu.suppressed → e ∈ s.alu.table → e.key = k →
        ∃ e', findEntry k (raiseKey k v s).alu.table = some e'
          ∧ (raiseKey k v s).alu.table.map AlarmEntry.key = s.alu.table.map AlarmEntry.key
          ∧ e'.severity = v ∧ e'.raises = min 255 (e.raises + 1) ∧ e'.firstRaise = e.firstRaise
          ∧ e'.state = (if e.state = .cleared then .active else e.state))
    ∧ (k ∉ s.alu.suppressed → (∀ e, e ∈ s.alu.table → e.key ≠ k) → s.alu.table.length = 32 →
        (∀ x, findVictim s.alu.table v = some x →
            x ∈ s.alu.table ∧ (x.state = .cleared ∨ x.severity.below v = true)
              ∧ (raiseKey k v s).alu.table = s.alu.table.filter (fun e => decide (e.key ≠ x.key))
                  ++ [freshEntry k v s.tmu.time.seconds]
              ∧ Counted .evictions s (raiseKey k v s))
          ∧ (findVictim s.alu.table v = none →
              (∀ x, x ∈ s.alu.table → x.state ≠ .cleared ∧ x.severity.below v = false)
              ∧ (raiseKey k v s).alu.table = s.alu.table ∧ (raiseKey k v s).alu.overflow = true
              ∧ k ∈ (raiseKey k v s).alu.suppressed ∧ Counted .raisesDropped s (raiseKey k v s)))

/-- A clear of a key: ACTIVE becomes CLEARED, ACKED is removed, CLEARED stays; without an entry a suppression mark is
removed and the next raise is taken as a new one; with neither nothing changes (R160). -/
def Obligations.ClearOfKey : Prop :=
  ∀ (k : AlarmKey) (s : State), LawTable s →
    (∀ e, e ∈ s.alu.table → e.key = k →
      (e.state = .active → (clearKey k s).alu.table
        = s.alu.table.map (fun x => if x.key = k then { x with state := .cleared, lastChange := s.tmu.time.seconds } else x))
      ∧ (e.state = .acked → (clearKey k s).alu.table = s.alu.table.filter (fun x => decide (x.key ≠ k))
          ∧ (clearKey k s).alu.overflow = false)
      ∧ (e.state = .cleared → clearKey k s = s))
    ∧ ((∀ e, e ∈ s.alu.table → e.key ≠ k) →
        (k ∈ s.alu.suppressed →
          clearKey k s = { s with alu := { s.alu with suppressed := s.alu.suppressed.filter (fun x => !(x == k)) } }
          ∧ ∀ v, s.alu.table.length < 32 → (raiseKey k v (clearKey k s)).alu.table
              = s.alu.table ++ [freshEntry k v s.tmu.time.seconds])
        ∧ (k ∉ s.alu.suppressed → clearKey k s = s))

/-- Input events. A debounced assertion of an unmasked input sets its cause flag and raises INPUT n; of a masked one
it changes the conditioned level alone. A debounced deassertion of an unmasked LEVEL input clears the cause flag and
INPUT n; of an unmasked LATCHED input with an ACTIVE entry it changes the conditioned level alone, and with an ACKED entry
it clears the cause flag and removes the entry. Where the input has not held the level for its debounce time, nothing
changes (R153, R155, R156). -/
def Obligations.InputEvents : Prop :=
  (∀ (n : Fin 8) (s : State), InputHeld (s.input n) true →
    ((s.input n).settings.masked = false → ∃ t, exec (.inputAsserted n) s = .next t
        ∧ (t.input n).asserted = true ∧ (t.input n).cause = true ∧ (t.input n).settings = (s.input n).settings
        ∧ Raised (.input n) t ∧ OnlyAlarmsChanged s t ∧ OnlyEventsPlaced s t
        ∧ CountersSame [.raisesDropped, .evictions] s t ∧ SameOutside [.alu, .cpt, .counters] s t)
    ∧ ((s.input n).settings.masked = true → ∃ t, exec (.inputAsserted n) s = .next t
        ∧ (t.input n).asserted = true ∧ (t.input n).cause = (s.input n).cause ∧ (t.input n).settings = (s.input n).settings
        ∧ (∀ m, m ≠ n → t.input m = s.input m) ∧ t.alu = { s.alu with inputs := t.alu.inputs } ∧ SameOutside [.alu] s t))
  ∧ (∀ (n : Fin 8) (s : State), (¬ InputHeld (s.input n) true → exec (.inputAsserted n) s = .next s)
      ∧ (¬ InputHeld (s.input n) false → exec (.inputDeasserted n) s = .next s))
  ∧ ∀ (n : Fin 8) (s : State), LawTable s → InputHeld (s.input n) false → (s.input n).settings.masked = false →
    ((s.input n).settings.latched = false → ∃ t, exec (.inputDeasserted n) s = .next t
        ∧ (t.input n).asserted = false ∧ (t.input n).cause = false ∧ (∀ m, m ≠ n → t.input m = s.input m)
        ∧ (∀ e, e ∈ t.alu.table → e.key = .input n → e.state = .cleared)
        ∧ OnlyAlarmsChanged s t ∧ OnlyEventsPlaced s t ∧ SameOutside [.alu, .cpt] s t)
    ∧ ((s.input n).settings.latched = true → ∀ e, e ∈ s.alu.table → e.key = .input n →
        (e.state = .active → ∃ t, exec (.inputDeasserted n) s = .next t
          ∧ (t.input n).asserted = false ∧ (t.input n).cause = (s.input n).cause
          ∧ (∀ m, m ≠ n → t.input m = s.input m) ∧ t.alu = { s.alu with inputs := t.alu.inputs } ∧ SameOutside [.alu] s t)
        ∧ (e.state = .acked → ∃ t, exec (.inputDeasserted n) s = .next t
          ∧ (t.input n).asserted = false ∧ (t.input n).cause = false ∧ (∀ m, m ≠ n → t.input m = s.input m)
          ∧ t.alu.table = s.alu.table.filter (fun x => decide (x.key ≠ .input n))
          ∧ OnlyAlarmsChanged s t ∧ OnlyEventsPlaced s t ∧ SameOutside [.alu, .cpt] s t))

/-- A change of the alert level is taken, ALERT LINE CHANGE is placed, and the relays follow: on a collector CRIT is on
while the alert level is asserted, and without the collector role both relays are off. Where the line has not held the
level for 1 ms, nothing changes (R171, R172). -/
def Obligations.AlertLevelChanges : Prop :=
  (∀ (a : Bool) (s : State), ¬ Held s.alu.alert.toConditioner a → exec (.alertLevelChange a) s = .next s)
  ∧ ∀ (a : Bool) (s : State), Held s.alu.alert.toConditioner a → ∃ t, exec (.alertLevelChange a) s = .next t
    ∧ t.alu = { s.alu with alert := { s.alu.alert with pin := a, level := a, count := none }, crit := t.alu.crit, maj := t.alu.maj }
    ∧ EventKind.alertLineChange ∈ t.cpt.events ∧ OnlyEventsPlaced s t
    ∧ (s.alu.collector = true → a = true → t.alu.crit = true)
    ∧ (s.alu.collector = false → t.alu.crit = false ∧ t.alu.maj = false)
    ∧ SameOutside [.alu, .cpt] s t

/-- The expiry of the LATE timer clears X3, that of the UNDELIVERABLE timer X4, those of the two summary timers request
SUMMARY and leave the interval timer at 100 ms; an expiry acts while its timer runs (log 7) (R31, R35, R167, R168). -/
def Obligations.AlarmTimersExpire : Prop :=
  (∀ s : State, LawTable s → s.txs.lateTimer.isSome = true → ∃ t, exec .lateTimerExpiry s = .next t
      ∧ t.txs = { s.txs with lateTimer := none } ∧ (∀ e, e ∈ t.alu.table → e.key = .traffic 2 → e.state = .cleared)
      ∧ OnlyAlarmsChanged s t ∧ OnlyEventsPlaced s t ∧ SameOutside [.txs, .alu, .cpt] s t)
  ∧ (∀ s : State, LawTable s → s.txs.undeliverableTimer.isSome = true → ∃ t, exec .undeliverableTimerExpiry s = .next t
      ∧ t.txs = { s.txs with undeliverableTimer := none }
      ∧ (∀ e, e ∈ t.alu.table → e.key = .traffic 3 → e.state = .cleared)
      ∧ OnlyAlarmsChanged s t ∧ OnlyEventsPlaced s t ∧ SameOutside [.txs, .alu, .cpt] s t)
  ∧ (∀ s : State, s.alu.intervalTimer.isSome = true → exec .summaryIntervalTimerExpiry s = .next { s with
      txs := { s.txs with slots := { s.txs.slots with summary := s.txs.slots.summary.requested } }
      alu := { s.alu with intervalTimer := some 12500000 } })
  ∧ ∀ s : State, s.alu.holdOffTimer.isSome = true → exec .summaryHoldOffTimerExpiry s = .next { s with
      txs := { s.txs with slots := { s.txs.slots with summary := s.txs.slots.summary.requested } }
      alu := { s.alu with holdOffTimer := none, intervalTimer := some 12500000 } }

/-- The card's alarm messages. RAISE of a code 0..31 with a severity 1..4 raises CARD code; CLEAR of a code 0..31 ends
it; ACK of an ACTIVE entry makes it ACKED, but that of a LATCHED input whose level is deasserted is removed and its
cause ends; ACK of a CLEARED entry removes it, and of an ACKED one changes nothing; none of these gets a REPLY. A code
or severity out of range, and an ACK without an entry, are refused BAD REQUEST and change nothing else. The message's
command is its handling (log 10) (R156, R157, R161, R179, R180). -/
def Obligations.CardAlarmMessages : Prop :=
  (∀ (code severity : Byte) (s : State), PortReady s →
    (code.toNat < 32 → 1 ≤ severity.toNat → severity.toNat ≤ 4 → ∃ t, exec (.raise code severity) s = .next t
        ∧ Raised (.card (Fin.ofNat 32 code.toNat)) t ∧ OnlyAlarmsChanged s t ∧ OnlyEventsPlaced s t
        ∧ CountersSame [.raisesDropped, .evictions] s t ∧ SameOutside [.alu, .cpt, .counters] s t)
    ∧ (¬ (code.toNat < 32 ∧ 1 ≤ severity.toNat ∧ severity.toNat ≤ 4) → exec (.raise code severity) s = .next
        { s with cpt := { s.cpt with replies := s.cpt.replies ++ [.refusal .badRequest 2 none] } }))
  ∧ (∀ (code : Byte) (s : State), LawTable s → PortReady s →
    (code.toNat < 32 → ∃ t, exec (.clear code) s = .next t
        ∧ (∀ e, e ∈ t.alu.table → e.key = .card (Fin.ofNat 32 code.toNat) → e.state = .cleared)
        ∧ OnlyAlarmsChanged s t ∧ OnlyEventsPlaced s t ∧ SameOutside [.alu, .cpt] s t)
    ∧ (32 ≤ code.toNat → exec (.clear code) s = .next
        { s with cpt := { s.cpt with replies := s.cpt.replies ++ [.refusal .badRequest 3 none] } }))
  ∧ ∀ (origin code : Byte) (s : State), LawTable s → PortReady s →
    (∀ e, e ∈ s.alu.table → e.key.origin = origin → e.key.code = code →
      (e.state = .acked → exec (.ack origin code) s = .next s)
      ∧ (∀ n : Fin 8, e.state = .active → e.key = .input n → (s.input n).settings.latched = true →
          (s.input n).asserted = false → ∃ t, exec (.ack origin code) s = .next t
        ∧ t.alu.table = s.alu.table.filter (fun x => decide (x.key ≠ e.key)) ∧ t.alu.overflow = false
        ∧ t.input n = { s.input n with cause := false } ∧ (∀ m, m ≠ n → t.input m = s.input m)
        ∧ OnlyAlarmsChanged s t ∧ OnlyEventsPlaced s t ∧ SameOutside [.alu, .cpt] s t)
      ∧ (e.state = .active → (∀ n : Fin 8, e.key = .input n → (s.input n).settings.latched = false
            ∨ (s.input n).asserted = true) → ∃ t, exec (.ack origin code) s = .next t
        ∧ t.alu.table = s.alu.table.map (fun x => if x.key = e.key then
            { x with state := .acked, lastChange := s.tmu.time.seconds } else x)
        ∧ t.alu.inputs = s.alu.inputs
        ∧ OnlyAlarmsChanged s t ∧ OnlyEventsPlaced s t ∧ SameOutside [.alu, .cpt] s t)
      ∧ (e.state = .cleared → ∃ t, exec (.ack origin code) s = .next t
        ∧ t.alu.table = s.alu.table.filter (fun x => decide (x.key ≠ e.key)) ∧ t.alu.overflow = false
        ∧ OnlyAlarmsChanged s t ∧ OnlyEventsPlaced s t ∧ SameOutside [.alu, .cpt] s t))
    ∧ ((∀ e, e ∈ s.alu.table → ¬ (e.key.origin = origin ∧ e.key.code = code)) → exec (.ack origin code) s = .next
        { s with cpt := { s.cpt with replies := s.cpt.replies ++ [.refusal .badRequest 4 none] } })

/-! ### The bus -/

/-- The bus view moves: a completed settle gap enters CLAIM at position 0; in SETTLE or CLAIM a start marker, H out
of quiet held for two bit times, enters FRAME as a received frame with its stamp, and any other transition enters FRAME
as a frame already broken (R1, R14, R16, R197). -/
def Obligations.BusViewMoves : Prop :=
  (∀ s : State, s.bau.view = .settle → exec .settleGapComplete s = .next
      { s with bau := { s.bau with view := .claim, position := 0, positionNew := true } })
  ∧ (∀ (m : PairStart) (s : State), s.bau.view = .settle ∨ s.bau.view = .claim →
      exec (.startMarkerReceived m) s = .next
        { s with bau := { s.bau with
            view := .frame, positionNew := false, reply := none
            rx := some (if m.levels.take 5 = [false, true, true, true, true] then .marker (s.stamp m.delay) else .stray) } })
  ∧ ∀ s : State, s.bau.view = .settle ∨ s.bau.view = .claim → exec .strayTransition s = .next
      { s with bau := { s.bau with view := .frame, positionNew := false, rx := some .stray, reply := none } }

/-- A claim position begins: 0 after the settle gap (log 12), else one further modulo 4N. At the own rank, (own slot -
pointer) mod N, with the drivers on, the candidate of the class starts: an internal frame with its slot in flight, or
the card entry, in flight, with its fields; the start stamp and the claim tick count are taken, and none of it is driven
yet. Elsewhere only the position changes. The candidate of a class is, in JOINED and DRAINING, the first pending slot in
the order of R28, and of a card queue its oldest entry that no older one to its destination precedes, whose destination
is not blocked, which is released, and in class 2 only while time is valid; in JOINING it is JOIN alone, in FORCED GONE
alone, elsewhere none (R3, R4, R7, R25, R28, R29). -/
def Obligations.ClaimPositionBegins : Prop :=
  (∀ s : State,
    (s.sec.state = .joined ∨ s.sec.state = .draining →
      (s.txs.slots.sync = .pending → s.candidateOf 0 = some (.internal .sync))
      ∧ (s.txs.slots.sync ≠ .pending → s.txs.slots.announce = .pending → s.candidateOf 0 = some (.internal .announce))
      ∧ (s.txs.slots.sync ≠ .pending → s.txs.slots.announce ≠ .pending → s.candidateOf 0 = none)
      ∧ (∀ pre ik post, [InternalKind.withdraw, .gone, .join, .ready, .summary] = pre ++ ik :: post →
          (∀ j, j ∈ pre → s.txs.slots.get j ≠ .pending) → s.txs.slots.get ik = .pending →
          s.candidateOf 1 = some (.internal ik))
      ∧ ((∀ j, j ∈ [InternalKind.withdraw, .gone, .join, .ready, .summary] → s.txs.slots.get j ≠ .pending) →
          (∀ n, CardCandidate .control n s → s.candidateOf 1 = some (.card .control n))
          ∧ ((∀ n, ¬ Eligible .control n s) → s.candidateOf 1 = none))
      ∧ (∀ n, CardCandidate .deadline n s → s.candidateOf 2 = some (.card .deadline n))
      ∧ ((∀ n, ¬ Eligible .deadline n s) → s.candidateOf 2 = none)
      ∧ (∀ n, CardCandidate .bulk n s → s.candidateOf 3 = some (.card .bulk n))
      ∧ ((∀ n, ¬ Eligible .bulk n s) → s.candidateOf 3 = none))
    ∧ (s.sec.state = .joining → ∀ c, s.candidateOf c
        = if c = 1 ∧ s.txs.slots.join = .pending then some (.internal .join) else none)
    ∧ (s.sec.state = .forced → ∀ c, s.candidateOf c
        = if c = 1 ∧ s.txs.slots.gone = .pending then some (.internal .gone) else none)
    ∧ (s.sec.state ≠ .joined → s.sec.state ≠ .draining → s.sec.state ≠ .joining → s.sec.state ≠ .forced →
        ∀ c, s.candidateOf c = none))
  ∧ ∀ (k : EdgeDelay) (own : Slot) (p : Nat) (s : State), s.bau.view = .claim → s.ownSlot = some own →
    p = (if s.bau.positionNew then 0 else (s.bau.position.val + 1) % (4 * s.cabinet)) →
    (¬ (s.sec.drven = true ∧ ((own.val : Int) - s.bau.pointer.val) % s.cabinet = (p % s.cabinet : Nat)) →
      exec (.claimPositionBegin k) s = .next
        { s with bau := { s.bau with position := Fin.ofNat 64 p, positionNew := false } })
    ∧ (s.sec.drven = true → ((own.val : Int) - s.bau.pointer.val) % s.cabinet = (p % s.cabinet : Nat) →
        (∀ e, e ∈ s.queue .deadline → s.lateNow e = false) → LawDrained s →
        (s.candidateOf (p / s.cabinet) = none → exec (.claimPositionBegin k) s = .next
          { s with bau := { s.bau with position := Fin.ofNat 64 p, positionNew := false } })
        ∧ (∀ ik, s.candidateOf (p / s.cabinet) = some (.internal ik) →
            ∃ t x, exec (.claimPositionBegin k) s = .next t ∧ t.bau.tx = some x
              ∧ t.bau.view = .frame ∧ t.bau.position = Fin.ofNat 64 p
              ∧ x.source = .internal ik ∧ x.cls.val = p / s.cabinet ∧ x.slot = own ∧ x.dest = 31 ∧ x.sequence = 0
              ∧ x.due = none ∧ x.body = s.internalBody ik (s.stamp k) ∧ x.claimWord = s.bau.tickCount
              ∧ x.stamp = s.stamp k ∧ x.complete = false ∧ x.driven = 0 ∧ x.differed = false
              ∧ t.pairDrive = frameDrive { kind := ik.kind, cls := x.cls, slot := own, dest := 31, due := none, sequence := 0 }
                  s.bau.tickCount (s.internalBody ik (s.stamp k))
              ∧ t.txs.slots.get ik = .inFlight ∧ (∀ j, j ≠ ik → t.txs.slots.get j = s.txs.slots.get j)
              ∧ t.txs.queues = s.txs.queues ∧ SameOutside [.bau, .txs] s t)
        ∧ (∀ c n, s.candidateOf (p / s.cabinet) = some (.card c n) →
            ∃ t x e, exec (.claimPositionBegin k) s = .next t ∧ t.bau.tx = some x ∧ (s.queue c)[n]? = some e
              ∧ e.inFlight = false ∧ e.released = true
              ∧ t.bau.view = .frame ∧ t.bau.position = Fin.ofNat 64 p
              ∧ x.source = .card c ∧ x.cls.val = p / s.cabinet ∧ x.slot = own ∧ x.dest = e.dest
              ∧ x.sequence = e.sequence.getD 0 ∧ x.due = e.due ∧ x.body = e.payload ∧ x.claimWord = s.bau.tickCount
              ∧ x.stamp = s.stamp k ∧ x.complete = false ∧ x.driven = 0 ∧ x.differed = false
              ∧ t.pairDrive = frameDrive { kind := .data, cls := x.cls, slot := own, dest := e.dest,
                                           due := e.due.map (BitVec.ofNat 32), sequence := e.sequence.getD 0 }
                  s.bau.tickCount e.payload
              ∧ (t.queue c)[n]? = some { e with inFlight := true }
              ∧ (∀ m, m ≠ n → (t.queue c)[m]? = (s.queue c)[m]?) ∧ (∀ d, d ≠ c → t.queue d = s.queue d)
              ∧ t.txs.slots = s.txs.slots ∧ SameOutside [.bau, .txs] s t))

/-- A collision of an own frame, once a sampled level of the pair has differed from the half bit driven; until then the
command changes nothing. OWN COLLISIONS and the consecutive-collision count, which stays at 8, add 1, the pointer becomes
0, the pair is no longer driven and the rest of the activity is awaited. An internal frame's slot is pending again. A card
entry returns to its place with its attempts, but a class-2 entry whose due time has passed leaves with LATE, a marked one
with its mark, counted where the mark has a counter, and an orphan without a result; nothing else is counted. An addition
that brings the count to 4 raises X1, and one that brings it to 8 in JOINING, JOINED, DRAINING or FORCED enters CONFLICT
with cause SUSPECTED DUPLICATE SLOT, where the card queues empty with WITHDRAWN, after the outcome of the frame that
collided (log 33), and every slot but READY empties; in any other seating state the count alone follows (R8, R9, R11, R26,
R31, R32, R36, R39, R44, R146). -/
def Obligations.CollisionTaken : Prop :=
  (∀ (x : Transmission) (s : State), s.bau.tx = some x → x.differed = false → exec .collisionDetected s = .next s)
  ∧ ∀ (x : Transmission) (s : State), s.bau.view = .frame → s.bau.tx = some x → x.complete = false → x.differed = true →
    LawDrained s →
    (s.bau.collisions < 7 ∨ ¬ (s.sec.state = .joining ∨ s.sec.state = .joined ∨ s.sec.state = .draining
        ∨ s.sec.state = .forced) → ∃ t, exec .collisionDetected s = .next t
      ∧ t.bau = { s.bau with tx := none, rx := some .ownCollided, pointer := 0, collisions := min (s.bau.collisions + 1) 8 }
      ∧ Counted .ownCollisions s t ∧ (s.bau.collisions = 3 → Raised keyX1 t)
      ∧ SameOutside [.bau, .txs, .alu, .cpt, .counters] s t
      ∧ (∀ ik, x.source = .internal ik → s.txs.slots.get ik = .inFlight ∨ s.txs.slots.get ik = .inFlightPending →
          t.txs.slots.get ik = .pending ∧ t.txs.queues = s.txs.queues
            ∧ CountersSame [.ownCollisions, .raisesDropped, .evictions] s t
            ∧ (s.bau.collisions ≠ 3 → t.alu = s.alu))
      ∧ (∀ c pre e post, x.source = .card c → s.queue c = pre ++ e :: post → e.inFlight = true →
          (∀ y, y ∈ pre → y.inFlight = false) →
          (∀ d, d ≠ c → t.queue d = s.queue d)
          ∧ (e.orphan = true → t.queue c = pre ++ post ∧ t.cpt.results = s.cpt.results
              ∧ CountersSame [.ownCollisions, .raisesDropped, .evictions] s t
              ∧ t.txs.storeFree = s.txs.storeFree + unitsFor e.payload.length)
          ∧ (e.orphan = false → e.mark = none → CountersSame [.ownCollisions, .raisesDropped, .evictions, .late] s t)
          ∧ (∀ code, e.orphan = false → e.mark = some code → t.queue c = pre ++ post
              ∧ CountersSame ([.ownCollisions, .raisesDropped, .evictions] ++ (resultCounter code).toList) s t
              ∧ (∀ i, resultCounter code = some i → Counted i s t)
              ∧ t.cpt.results = s.cpt.results ++ [{ tag := e.tag, code := code, attempts := e.attempts }]
              ∧ t.txs.storeFree = s.txs.storeFree + unitsFor e.payload.length)
          ∧ (e.orphan = false → e.mark = none →
              (c = .deadline → ∀ y, y ∈ s.queue c → ∀ d, y.due = some d → s.duePassed d = false) →
              t.queue c = pre ++ { e with inFlight := false } :: post ∧ t.cpt.results = s.cpt.results
                ∧ t.txs.storeFree = s.txs.storeFree ∧ t.txs.slots = s.txs.slots)
          ∧ (∀ d, e.orphan = false → e.mark = none → c = .deadline → e.due = some d → s.duePassed d = true →
              (∀ y, y ∈ pre ++ post → ∀ d', y.due = some d' → s.duePassed d' = false) →
              t.queue c = pre ++ post ∧ Counted .late s t ∧ Raised keyX3 t
                ∧ t.cpt.results = s.cpt.results ++ [{ tag := e.tag, code := .late, attempts := e.attempts }]
                ∧ t.txs.storeFree = s.txs.storeFree + unitsFor e.payload.length
                ∧ t.txs.lateTimer = some 125000000)))
    ∧ (7 ≤ s.bau.collisions → s.sec.state = .joining ∨ s.sec.state = .joined ∨ s.sec.state = .draining
        ∨ s.sec.state = .forced → ∃ t, exec .collisionDetected s = .next t
      ∧ t.bau.collisions = 8 ∧ t.bau.tx = none ∧ t.bau.rx = some .ownCollided ∧ t.bau.pointer = 0
      ∧ Counted .ownCollisions s t ∧ t.sec.state = .conflict
      ∧ t.sec.conflictCause = some .suspectedDuplicateSlot ∧ t.sec.drven = false ∧ t.sec.rmvok = true
      ∧ t.sec.pwren = s.sec.pwren ∧ Raised keyH2 t ∧ EventKind.seatingFault ∈ t.cpt.events
      ∧ (∀ k, k ≠ .ready → t.txs.slots.get k = .empty) ∧ (∀ c e, e ∈ t.queue c → e.inFlight = true)
      ∧ t.tmu.time = s.tmu.time ∧ t.stl = { s.stl with load := none }
      ∧ (∀ c pre e post, x.source = .card c → s.queue c = pre ++ e :: post → e.inFlight = true →
          (∀ y, y ∈ pre → y.inFlight = false) → e.orphan = false →
          { tag := e.tag, attempts := e.attempts
            code := e.mark.getD (if c = .deadline ∧ e.due.any s.duePassed = true then .late else .withdrawn) }
            ∈ t.cpt.results))

/-- A frame cut without an end marker is judged when the quiet is seen: cause collision when a claim bit had both halves
dominant, else code violation. An activity with an end marker is judged by the first cause of R15 that applies. Either
way the cause is counted, the pointer becomes 0, and nothing of the frame reaches another block. So is the rest of an
own frame that was cut, whatever ends it, another station's frame included. H for two bit times elsewhere than at a byte
boundary after the header is no end marker. A stray activity with a collision in it counts as one (log 32); the counter
of a cut own frame is that of log 13 (R1, R6, R9, R15, R17, R197). -/
def Obligations.BrokenFrameJudged : Prop :=
  (∀ (a : Activity) (r : Reception) (s : State), s.bau.view = .frame → s.bau.tx = none → s.bau.rx = some r →
    r = .stray ∨ (∃ x, r = .marker x) → ∃ t, exec (.frameCut a) s = .next t
      ∧ t.bau = { s.bau with view := .settle, rx := none, pointer := 0 }
      ∧ Counted (if a.bothDominant then .collisionsSeen else .codeFaults) s t
      ∧ CountersSame [if a.bothDominant then .collisionsSeen else .codeFaults] s t
      ∧ OnlyEventsPlaced s t ∧ SameOutside [.bau, .cpt, .counters] s t)
  ∧ (∀ (a : Activity) (i : Slot) (c : Instr) (v : BusView) (s : State), s.bau.view = .frame → s.bau.tx = none →
      s.bau.rx = some .ownCut →
      ((c = .frameCut a ∧ v = .settle) ∨ (c = .brokenFrame a ∧ a.endRecognised = true ∧ v = .window)
        ∨ (a.bothDominant = false ∧ v = .window ∧ (c = .readyHeard i ∨ (∃ f, c = .dataHeard f)
            ∨ ∃ body, c = .syncHeard i body ∨ c = .announceHeard i body ∨ c = .summaryHeard i body ∨ c = .joinHeard i body
                ∨ c = .withdrawHeard i body ∨ c = .goneHeard i body))) →
      ∃ t, exec c s = .next t ∧ t.bau = { s.bau with view := v, rx := none, pointer := 0 }
        ∧ Counted (if a.bothDominant then .ownCollisions else .codeFaults) s t
        ∧ CountersSame [if a.bothDominant then .ownCollisions else .codeFaults] s t
        ∧ OnlyEventsPlaced s t ∧ SameOutside [.bau, .cpt, .counters] s t)
  ∧ (∀ (a : Activity) (s : State), a.endRecognised = false → exec (.brokenFrame a) s = .next s)
  ∧ ∀ (a : Activity) (x : FullTime) (cause : BrokenCause) (i : CounterId) (s : State), s.bau.view = .frame →
      s.bau.tx = none → s.bau.rx = some (.marker x) → a.endRecognised = true →
      ((cause = .collision ∧ i = .collisionsSeen ∧ a.bothDominant = true)
        ∨ (cause = .codeViolation ∧ i = .codeFaults ∧ a.bothDominant = false
            ∧ (a.cleanSymbols = false ∨ violatesCode a = true))
        ∨ (cause = .check ∧ i = .checkFaults ∧ a.bothDominant = false ∧ a.cleanSymbols = true
            ∧ violatesCode a = false ∧ failsCheck a.bytes = true)
        ∨ (cause = .foreignSlot ∧ i = .foreignSlot ∧ a.bothDominant = false ∧ a.cleanSymbols = true
            ∧ violatesCode a = false ∧ failsCheck a.bytes = false
            ∧ ∃ h, readHeader a.bytes = some h ∧ s.cabinet ≤ h.slot.val)) →
      judgeActivity s.cabinet true a = some cause ∧ ∃ t, exec (.brokenFrame a) s = .next t
        ∧ t.bau = { s.bau with view := .window, rx := none, pointer := 0 }
        ∧ Counted i s t ∧ CountersSame [i] s t ∧ OnlyEventsPlaced s t ∧ SameOutside [.bau, .cpt, .counters] s t

/-- An own frame completes, once it has been driven to the last half bit of its end marker and no sampled level has
differed; until then, and after a difference, the command changes nothing. FRAMES SENT adds 1, and for any frame but
GONE the view is WINDOW, the pointer (own slot + 1) mod N, the consecutive-collision count 0, and X1 is cleared. Unicast
DATA awaits its reply; a group or broadcast card frame is retired SENT; a SUMMARY, ANNOUNCE or SYNC empties its slot and
is counted by its producer. The JOIN of JOINING makes every sequence state unknown and the station JOINED, or DRAINING
with the ejector open; the GONE of DRAINING, or of FORCED by a drain, of a card's withdrawal makes it WITHDRAWN, and
that of FORCED by power POWER FAULT (R6, R9, R10, R11, R26, R33, R75, R103, R110, R140, R142, R144). -/
def Obligations.OwnFrameCompletes : Prop :=
  (∀ (x : Transmission) (s : State), s.bau.tx = some x → x.differed = true ∨ x.driven + 1 < x.drive.length →
    exec .ownFrameComplete s = .next s)
  ∧ ∀ (x : Transmission) (s : State), s.bau.view = .frame → s.bau.tx = some x → x.complete = false →
    x.differed = false → x.drive.length ≤ x.driven + 1 → LawTable s → LawDrained s →
    ∃ t, exec .ownFrameComplete s = .next t
      ∧ (x.source ≠ .internal .gone → t.bau.view = .window
          ∧ t.bau.pointer = Fin.ofNat 16 ((x.slot.val + 1) % s.cabinet) ∧ t.bau.collisions = 0
          ∧ (∀ e, e ∈ t.alu.table → e.key = .traffic 0 → e.state = .cleared))
      ∧ Counted .framesSent s t
      ∧ (∀ c, x.source = .card c → x.dest.val < 16 → t.bau.tx = some { x with complete := true }
          ∧ t.txs = s.txs ∧ CountersSame [.framesSent] s t ∧ SameOutside [.bau, .alu, .cpt, .counters] s t)
      ∧ (∀ c pre e post, x.source = .card c → 16 ≤ x.dest.val → s.queue c = pre ++ e :: post → e.inFlight = true →
          (∀ y, y ∈ pre → y.inFlight = false) → e.orphan = false →
          t.bau.tx = none ∧ t.queue c = pre ++ post ∧ t.txs.storeFree = s.txs.storeFree + unitsFor e.payload.length
            ∧ t.cpt.results = s.cpt.results ++ [{ tag := e.tag, code := .sent, attempts := e.attempts }]
            ∧ Counted .sent s t ∧ CountersSame [.framesSent, .sent] s t
            ∧ SameOutside [.bau, .txs, .alu, .cpt, .counters] s t)
      ∧ (∀ k i, ((k = .summary ∧ i = .summariesSent) ∨ (k = .announce ∧ i = .announcesSent)
            ∨ (k = .sync ∧ i = .syncsSent)) → x.source = .internal k → s.txs.slots.get k = .inFlight →
          t.bau.tx = none ∧ t.txs.slots.get k = .empty ∧ Counted i s t ∧ CountersSame [.framesSent, i] s t
            ∧ SameOutside [.bau, .txs, .alu, .cpt, .counters] s t)
      ∧ (x.source = .internal .join → s.txs.slots.get .join = .inFlight → s.sec.state = .joining →
          (∀ i : Slot, (t.peer i).sequence = { control := none, deadline := none, bulk := none })
            ∧ t.sec.state = (if s.sec.eject.level then .joined else .draining) ∧ t.sec.drven = true
            ∧ EventKind.seatingStateChange ∈ t.cpt.events)
      ∧ (x.source = .internal .gone → s.txs.slots.get .gone = .inFlight →
          (s.sec.state = .draining ∨ (s.sec.state = .forced ∧ s.sec.forceCause = some .drain) →
            s.sec.withdrawCause = some .card → t.sec.state = .withdrawn ∧ t.sec.drven = false ∧ t.sec.rmvok = true)
          ∧ (s.sec.state = .forced → s.sec.forceCause = some .power →
            t.sec.state = .powerFault ∧ t.sec.drven = false ∧ t.sec.pwren = false))

/-- The reply window. At its opening a reply the pool decided is driven, for eight bit times, and counted, in JOINING,
JOINED and DRAINING. At its end the view is SETTLE; a station that sent no unicast frame ignores what it sampled (R1,
R12, R13, R197). -/
def Obligations.ReplyWindowPasses : Prop :=
  (∀ (code : ReplyCode) (n : Nat) (s : State), s.bau.view = .window →
    s.bau.reply = some { code := code, driving := false, left := n } →
    s.sec.state = .joining ∨ s.sec.state = .joined ∨ s.sec.state = .draining → ∃ t, exec .replyWindowOpen s = .next t
      ∧ t.bau = { s.bau with reply := some { code := code, driving := true, left := 8 } }
      ∧ ((∀ x, s.bau.tx = some x → x.complete = true) → t.pairDrive = (match code with
          | .accept => [true, true, false, true, false, false, true, false]
          | .full => [false, false, true, false, true, true, false, true]).flatMap driveBit ++ [.release])
      ∧ Counted .repliesSent s t ∧ CountersSame [.repliesSent] s t ∧ OnlyEventsPlaced s t
      ∧ SameOutside [.bau, .cpt, .counters] s t)
  ∧ ∀ (w : WindowContent) (s : State), s.bau.view = .window → s.bau.tx = none →
      exec (.replyWindowEnd w) s = .next { s with bau := { s.bau with view := .settle, reply := none } }

/-- The end of the reply window of an own unicast frame whose entry carries no purge mark. ACCEPT retires it SENT. FULL
keeps it, sets the blocked flag of its destination and starts the 2 ms timer. An empty window, or content that is no
reply pattern (incomplete, late, overlapping, outside the line code), adds 1 to the attempts, and at 3 retires it
UNDELIVERABLE and raises X4; such content counts REPLY FAULTS. A class-2 entry that FULL or an empty window returns when
its due time has passed leaves with LATE (R13, R31, R33 to R35). -/
def Obligations.UnicastOutcome : Prop :=
  ∀ (x : Transmission) (c : CardClass) (pre post : List QueueEntry) (e : QueueEntry) (s : State),
    s.bau.view = .window → s.bau.tx = some x → x.source = .card c → s.queue c = pre ++ e :: post → e.inFlight = true →
    (∀ y, y ∈ pre → y.inFlight = false) → e.orphan = false → e.mark = none → e.dest.val < 16 → LawDrained s →
    let accept := WindowContent.bits true ([true, true, false, true, false, false, true, false].map codeBit)
    let full := WindowContent.bits true ([false, false, true, false, true, true, false, true].map codeBit)
    let kept := c = .deadline → ∀ y, y ∈ s.queue c → ∀ d, y.due = some d → s.duePassed d = false
    let overdue := c = .deadline ∧ e.due.any s.duePassed = true
      ∧ ∀ y, y ∈ pre ++ post → ∀ d, y.due = some d → s.duePassed d = false
    let closed := fun (t : State) => t.bau = { s.bau with view := .settle, reply := none, tx := none }
      ∧ ∀ d, d ≠ c → t.queue d = s.queue d
    let left := fun (code : ResultCode) (attempts : Nat) (t : State) => t.queue c = pre ++ post
      ∧ t.txs.storeFree = s.txs.storeFree + unitsFor e.payload.length
      ∧ t.cpt.results = s.cpt.results ++ [{ tag := e.tag, code := code, attempts := attempts }]
    let blocked := fun (t : State) =>
      t.peer (Fin.ofNat 16 e.dest.val) = { s.peer (Fin.ofNat 16 e.dest.val) with blocked := true, blockedTimer := some 250000 }
        ∧ OtherPeersSame (Fin.ofNat 16 e.dest.val) s t
    (∃ t, exec (.replyWindowEnd accept) s = .next t ∧ closed t ∧ left .sent e.attempts t
      ∧ Counted .sent s t ∧ CountersSame [.sent] s t ∧ SameOutside [.bau, .txs, .cpt, .counters] s t)
    ∧ (kept → ∃ t, exec (.replyWindowEnd full) s = .next t ∧ closed t ∧ blocked t
      ∧ t.queue c = pre ++ { e with inFlight := false } :: post ∧ t.cpt.results = s.cpt.results
      ∧ Counted .fullReplies s t ∧ CountersSame [.fullReplies] s t ∧ SameOutside [.bau, .txs, .ptb, .cpt, .counters] s t)
    ∧ (overdue → ∃ t, exec (.replyWindowEnd full) s = .next t ∧ closed t ∧ blocked t ∧ left .late e.attempts t
      ∧ Raised keyX3 t ∧ Counted .fullReplies s t ∧ Counted .late s t
      ∧ SameOutside [.bau, .txs, .ptb, .alu, .cpt, .counters] s t)
    ∧ ∀ w, w ≠ accept → w ≠ full → ∃ t, exec (.replyWindowEnd w) s = .next t ∧ closed t
      ∧ Counted .noReply s t ∧ (w ≠ .quiet → Counted .replyFaults s t)
      ∧ (w = .quiet → t.counter .replyFaults = s.counter .replyFaults)
      ∧ SameOutside [.bau, .txs, .alu, .cpt, .counters] s t
      ∧ (e.attempts < 2 → kept → t.queue c = pre ++ { e with inFlight := false, attempts := e.attempts + 1 } :: post
          ∧ t.cpt.results = s.cpt.results ∧ t.alu = s.alu ∧ CountersSame [.noReply, .replyFaults] s t)
      ∧ (e.attempts < 2 → overdue → left .late (e.attempts + 1) t ∧ Raised keyX3 t ∧ Counted .late s t)
      ∧ (2 ≤ e.attempts → left .undeliverable 3 t ∧ t.txs.undeliverableTimer = some 125000000
          ∧ Raised keyX4 t ∧ Counted .undeliverable s t)

/-! ### Frames heard -/

/-- A unicast DATA frame to this station from a PRESENT or DRAINING peer, in JOINING, JOINED or DRAINING. A duplicate is
answered ACCEPT and dropped; another frame with room is stored at the tail and answered ACCEPT, its gap counted and
the last accepted sequence set; without room it is answered FULL, dropped, its sender refused and X2 raised
(R49, R50, R51). -/
def Obligations.DataHeardUnicast : Prop :=
  ∀ (f : DataFrame) (own : Slot) (stamp : FullTime) (s : State),
    Hearing s f.source stamp → s.ownSlot = some own → f.dest.val = own.val →
    s.sec.state = .joining ∨ s.sec.state = .joined ∨ s.sec.state = .draining →
    (s.peer f.source).state = .present ∨ (s.peer f.source).state = .draining → LawDrained s →
    ((s.peer f.source).sequence.get f.cls = some f.sequence → ∃ t, exec (.dataHeard f) s = .next t
      ∧ t.bau = { heardBus s f.source with reply := some { code := .accept, driving := false } }
      ∧ t.peer f.source = { s.peer f.source with
          age := some 0, frames := satAdd (s.peer f.source).frames 1, duplicates := satAdd (s.peer f.source).duplicates 1 }
      ∧ OtherPeersSame f.source s t ∧ Counted .framesHeard s t ∧ Counted .duplicates s t
      ∧ CountersSame [.framesHeard, .duplicates] s t ∧ OnlyEventsPlaced s t
      ∧ SameOutside [.bau, .ptb, .cpt, .counters] s t)
    ∧ ((s.peer f.source).sequence.get f.cls ≠ some f.sequence → unitsFor f.payload.length ≤ s.rxp.free →
      ∃ t, exec (.dataHeard f) s = .next t
        ∧ t.bau = { heardBus s f.source with reply := some { code := .accept, driving := false } }
        ∧ t.rxp = { s.rxp with
            free := s.rxp.free - unitsFor f.payload.length
            frames := s.rxp.frames ++ [{ source := f.source, cls := f.cls, dest := f.dest, payload := f.payload,
                                         late := s.lateMark f, inTransfer := false }] }
        ∧ t.peer f.source = { s.peer f.source with
            age := some 0, frames := satAdd (s.peer f.source).frames 1
            sequence := (s.peer f.source).sequence.set f.cls (some f.sequence)
            gaps := match (s.peer f.source).sequence.get f.cls with
              | none => (s.peer f.source).gaps
              | some last => satAdd (s.peer f.source).gaps (f.sequence - last - 1).toNat }
        ∧ OtherPeersSame f.source s t ∧ Counted .framesHeard s t ∧ Counted .framesStored s t
        ∧ t.counter .gapFrames = (match (s.peer f.source).sequence.get f.cls with
            | none => s.counter .gapFrames
            | some last => satAdd (s.counter .gapFrames) (f.sequence - last - 1).toNat)
        ∧ CountersSame [.framesHeard, .framesStored, .gapFrames, .lateArrivals] s t ∧ OnlyEventsPlaced s t
        ∧ SameOutside [.bau, .rxp, .ptb, .cpt, .counters] s t)
    ∧ ((s.peer f.source).sequence.get f.cls ≠ some f.sequence → s.rxp.free < unitsFor f.payload.length →
      ∃ t, exec (.dataHeard f) s = .next t
        ∧ t.bau = { heardBus s f.source with reply := some { code := .full, driving := false } }
        ∧ t.rxp.frames = s.rxp.frames ∧ t.rxp.free = s.rxp.free
        ∧ (∀ i, i ∈ t.rxp.refused ↔ i = f.source ∨ i ∈ s.rxp.refused)
        ∧ t.peer f.source = { s.peer f.source with age := some 0, frames := satAdd (s.peer f.source).frames 1 }
        ∧ OtherPeersSame f.source s t ∧ Counted .framesHeard s t ∧ Counted .fullSent s t ∧ Raised keyX2 t
        ∧ CountersSame [.framesHeard, .fullSent, .raisesDropped, .evictions] s t
        ∧ OnlyAlarmsChanged s t ∧ OnlyEventsPlaced s t
        ∧ SameOutside [.bau, .txs, .rxp, .ptb, .alu, .cpt, .counters] s t)

/-- A DATA frame is addressed to the station by its own slot code, by a group of its membership, or by 31. One that is not
addressed changes nothing of the receive pool, and of the counters only FRAMES HEARD and its sender's FRAMES (R47). -/
def Obligations.DataAddressed : Prop :=
  (∀ (d : Dest) (s : State), s.addressed d = true ↔
    (∃ own, s.ownSlot = some own ∧ d.val = own.val)
      ∨ (16 ≤ d.val ∧ d.val ≤ 30 ∧ s.rxp.groups.getLsbD (d.val - 15) = true) ∨ d.val = 31)
  ∧ (∀ (f : DataFrame) (s : State), s.addressed f.dest = false → poolTake f s = s)
  ∧ ∀ (f : DataFrame) (stamp : FullTime) (s : State), Hearing s f.source stamp → s.addressed f.dest = false →
      (s.peer f.source).state = .present ∨ (s.peer f.source).state = .draining → LawDrained s →
      ∃ t, exec (.dataHeard f) s = .next t ∧ t.bau = heardBus s f.source
        ∧ t.peer f.source = { s.peer f.source with age := some 0, frames := satAdd (s.peer f.source).frames 1 }
        ∧ OtherPeersSame f.source s t ∧ Counted .framesHeard s t ∧ CountersSame [.framesHeard] s t
        ∧ OnlyEventsPlaced s t ∧ SameOutside [.bau, .ptb, .cpt, .counters] s t

/-- A group or broadcast frame that is addressed is stored when it fits and dropped and counted when it does not, with
no reply, no refusal and no change of the sequence state; in a seating state that does not receive, an addressed frame
is dropped and counts NOT RECEIVING. A good frame of any kind that carries the own slot counts OWN SLOT FRAMES and
changes no peer entry and no frame of the pool: LISTENING remembers it, JOINING, JOINED and DRAINING enter CONFLICT with
cause OWN SLOT HEARD, where READY outstanding is judged afresh, and elsewhere it is counted only (R6, R48, R54, R60,
R76, R138, R146). -/
def Obligations.GroupFramesAndNotReceiving : Prop :=
  (∀ (f : DataFrame) (stamp : FullTime) (s : State), Hearing s f.source stamp → 16 ≤ f.dest.val →
    s.addressed f.dest = true → s.sec.state = .joining ∨ s.sec.state = .joined ∨ s.sec.state = .draining →
    (s.peer f.source).state = .present ∨ (s.peer f.source).state = .draining → LawDrained s →
    ∃ t, exec (.dataHeard f) s = .next t ∧ t.bau = heardBus s f.source
      ∧ t.peer f.source = { s.peer f.source with age := some 0, frames := satAdd (s.peer f.source).frames 1 }
      ∧ OtherPeersSame f.source s t ∧ Counted .framesHeard s t ∧ OnlyEventsPlaced s t
      ∧ SameOutside [.bau, .rxp, .ptb, .cpt, .counters] s t
      ∧ (unitsFor f.payload.length ≤ s.rxp.free →
          t.rxp = { s.rxp with
            free := s.rxp.free - unitsFor f.payload.length
            frames := s.rxp.frames ++ [{ source := f.source, cls := f.cls, dest := f.dest, payload := f.payload,
                                         late := s.lateMark f, inTransfer := false }] }
          ∧ Counted .framesStored s t ∧ CountersSame [.framesHeard, .framesStored, .lateArrivals] s t)
      ∧ (s.rxp.free < unitsFor f.payload.length →
          t.rxp = s.rxp ∧ Counted .groupDrops s t ∧ CountersSame [.framesHeard, .groupDrops] s t))
  ∧ (∀ (f : DataFrame) (stamp : FullTime) (s : State), Hearing s f.source stamp → s.addressed f.dest = true →
      ¬ (s.sec.state = .joining ∨ s.sec.state = .joined ∨ s.sec.state = .draining) →
      (s.peer f.source).state = .present ∨ (s.peer f.source).state = .draining →
      ∃ t, exec (.dataHeard f) s = .next t ∧ t.bau = heardBus s f.source
        ∧ t.peer f.source = { s.peer f.source with age := some 0, frames := satAdd (s.peer f.source).frames 1 }
        ∧ OtherPeersSame f.source s t ∧ Counted .framesHeard s t ∧ Counted .notReceiving s t
        ∧ CountersSame [.framesHeard, .notReceiving] s t ∧ OnlyEventsPlaced s t
        ∧ SameOutside [.bau, .ptb, .cpt, .counters] s t)
  ∧ ∀ (c : Instr) (own : Slot) (stamp : FullTime) (s : State), FrameFrom own c → s.ownSlot = some own →
      s.bau.view = .frame → s.bau.tx = none → s.bau.rx = some (.marker stamp) → LawDrained s → ∃ t, exec c s = .next t
        ∧ Counted .framesHeard s t ∧ Counted .ownSlotFrames s t ∧ t.ptb = s.ptb
        ∧ t.rxp = { s.rxp with readyOutstanding := t.rxp.readyOutstanding }
        ∧ t.bau.view = .window ∧ t.bau.pointer = Fin.ofNat 16 ((own.val + 1) % s.cabinet)
        ∧ (s.sec.state = .listening → t.sec = { s.sec with slotHeard := true })
        ∧ (s.sec.state = .joining ∨ s.sec.state = .joined ∨ s.sec.state = .draining → t.sec.state = .conflict
            ∧ t.sec.conflictCause = some .ownSlotHeard ∧ t.sec.drven = false ∧ t.sec.rmvok = true
            ∧ t.sec.pwren = s.sec.pwren ∧ Raised keyH2 t ∧ EventKind.seatingFault ∈ t.cpt.events)
        ∧ (¬ (s.sec.state = .joining ∨ s.sec.state = .joined ∨ s.sec.state = .draining) →
            t.bau = heardBus s own ∧ CountersSame [.framesHeard, .ownSlotFrames] s t ∧ OnlyEventsPlaced s t
            ∧ t.rxp = s.rxp ∧ SameOutside [.bau, .sec, .cpt, .counters] s t)
        ∧ (¬ (s.sec.state = .listening ∨ s.sec.state = .joining ∨ s.sec.state = .joined ∨ s.sec.state = .draining) →
            t.sec = s.sec)

/-- A JOIN heard makes its sender PRESENT from any state as a restart: its sequence state unknown, its join record from
the body, its withdraw cause and gone record removed, its blocked flag as it was; the station's sequence counters for it
start afresh and its queued frames to it are numbered from 0 in admission order, no other entry touched; PEER CHANGE is
placed. The source-capable flag is the low bit of its byte (log 19) (R24, R67, R69). -/
def Obligations.JoinHeard : Prop :=
  ∀ (i : Slot) (body : List Byte) (stamp : FullTime) (s : State), Hearing s i stamp → LawDrained s →
    ∃ t, exec (.joinHeard i body) s = .next t ∧ t.bau = heardBus s i
      ∧ t.peer i = { s.peer i with
          state := .present, age := some 0, sequence := { control := none, deadline := none, bulk := none }
          join := some { capable := (byteAt body 0).getLsbD 0, size := byteAt body 1,
                         mismatch := decide ((byteAt body 1).toNat ≠ s.cabinet) }
          withdrawCause := none, goneForced := none, frames := satAdd (s.peer i).frames 1 }
      ∧ OtherPeersSame i s t ∧ EventKind.peerChange ∈ t.cpt.events ∧ OnlyEventsPlaced s t
      ∧ Counted .framesHeard s t ∧ CountersSame [.framesHeard] s t
      ∧ (∀ c : CardClass,
          (t.queue c).map (fun e => { e with sequence := none }) = (s.queue c).map (fun e => { e with sequence := none })
          ∧ (∀ n : Nat, ∀ e e', (s.queue c)[n]? = some e → (t.queue c)[n]? = some e' → e.dest.val ≠ i.val → e' = e)
          ∧ ((t.queue c).filter (fun e => decide (e.dest.val = i.val))).map QueueEntry.sequence
              = (List.range ((s.queue c).filter (fun e => decide (e.dest.val = i.val))).length).map
                  (fun n => some (BitVec.ofNat 8 n))
          ∧ (t.txs.nextSeq[i]).get c
              = BitVec.ofNat 8 ((s.queue c).filter (fun e => decide (e.dest.val = i.val))).length)
      ∧ (∀ j : Slot, j ≠ i → t.txs.nextSeq[j] = s.txs.nextSeq[j])
      ∧ t.txs.slots = s.txs.slots ∧ t.txs.storeFree = s.txs.storeFree ∧ OnlyAlarmsChanged s t
      ∧ t.alu.table = s.alu.table ∧ SameOutside [.bau, .txs, .ptb, .alu, .cpt, .counters] s t

/-- A WITHDRAW heard makes its sender DRAINING with the cause of the body; a PRESENT sender leaves the source table. A
GONE heard makes it GONE with the forced flag of the body, without summary and not blocked; every queued frame to it
that is not in flight leaves with PEER LEFT, C1 before C2 before C3, before any other result; from GONE it is a restart
only, which keeps the entry GONE (log 18). A cause outside the table of causes is some cause (log 3), and the forced
flag is the low bit of its byte (log 19) (R37, R67, R70, R71). -/
def Obligations.PeersLeaving : Prop :=
  (∀ (i : Slot) (body : List Byte) (stamp : FullTime) (s : State), Hearing s i stamp → (s.peer i).state ≠ .gone →
    ∃ t cause, exec (.withdrawHeard i body) s = .next t ∧ t.bau = heardBus s i
      ∧ t.peer i = { s.peer i with
          state := .draining, age := some 0, withdrawCause := some cause, frames := satAdd (s.peer i).frames 1 }
      ∧ (byteAt body 0 = 1 → cause = .ejector) ∧ (byteAt body 0 = 2 → cause = .card)
      ∧ OtherPeersSame i s t ∧ Counted .framesHeard s t
      ∧ ((s.peer i).state ≠ .draining → EventKind.peerChange ∈ t.cpt.events)
      ∧ ((s.peer i).state = .present → findSource i t.src.table = none)
      ∧ ((s.peer i).state ≠ .present → t.src = s.src ∧ t.tmu = s.tmu)
      ∧ t.tmu.time = s.tmu.time ∧ SameOutside [.bau, .txs, .ptb, .tmu, .src, .alu, .cpt, .counters] s t)
  ∧ (∀ (i : Slot) (body : List Byte) (stamp : FullTime) (s : State), Hearing s i stamp → (s.peer i).state ≠ .gone →
    ∃ t more, exec (.goneHeard i body) s = .next t ∧ t.bau = heardBus s i
      ∧ t.peer i = { s.peer i with
          state := .gone, age := some 0, goneForced := some ((byteAt body 0).getLsbD 0), summary := none
          blocked := false, blockedTimer := none, frames := satAdd (s.peer i).frames 1 }
      ∧ OtherPeersSame i s t ∧ Counted .framesHeard s t ∧ EventKind.peerChange ∈ t.cpt.events
      ∧ (∀ c e, e ∈ t.queue c → e.dest.val = i.val → e.inFlight = true)
      ∧ t.cpt.results = s.cpt.results
          ++ ((s.queue .control ++ s.queue .deadline ++ s.queue .bulk).filter
                (fun e => decide (e.dest.val = i.val) && !e.inFlight)).map
              (fun e => { tag := e.tag, code := .peerLeft, attempts := e.attempts }) ++ more
      ∧ t.tmu.time = s.tmu.time ∧ SameOutside [.bau, .txs, .ptb, .tmu, .src, .alu, .cpt, .counters] s t)
  ∧ ∀ (i : Slot) (body : List Byte) (stamp : FullTime) (s : State), Hearing s i stamp → (s.peer i).state = .gone →
    LawDrained s → ∃ t, exec (.goneHeard i body) s = .next t
      ∧ (t.peer i).state = .gone ∧ (t.peer i).sequence = { control := none, deadline := none, bulk := none }
      ∧ OtherPeersSame i s t ∧ EventKind.peerChange ∈ t.cpt.events ∧ Counted .impliedJoins s t
      ∧ t.cpt.results = s.cpt.results ∧ SameOutside [.bau, .txs, .ptb, .cpt, .counters] s t

/-- A SUMMARY from a PRESENT or DRAINING peer replaces its stored summary whole, and the relays and the current summary
follow; a READY clears its blocked flag and stops the timer, and finds nothing to clear where the flag is clear. A good
frame of any kind but JOIN, WITHDRAW and GONE makes an ABSENT, LOST or GONE sender PRESENT, with PEER CHANGE. From
ABSENT and LOST its sequence state, and this station's counters for it, stay; from GONE it is a restart: IMPLIED JOINS
adds 1, the sequence state is unknown, and the queued frames to it are numbered from 0, the counters going on from there
(log 18). For READY, which changes nothing more, the whole entry stands written out (R24, R67, R68, R78, R79). -/
def Obligations.SummaryAndReadyHeard : Prop :=
  (∀ (i : Slot) (stamp : FullTime) (s : State), Hearing s i stamp →
    (s.peer i).state = .present ∨ (s.peer i).state = .draining → LawDrained s →
    (∀ body, ∃ t, exec (.summaryHeard i body) s = .next t ∧ t.bau = heardBus s i
      ∧ t.peer i = { s.peer i with
          age := some 0, frames := satAdd (s.peer i).frames 1, summary := some (readSummary body) }
      ∧ OtherPeersSame i s t ∧ t.alu.table = s.alu.table ∧ OnlyAlarmsChanged s t ∧ LawSummary t ∧ LawRelays t
      ∧ OnlyEventsPlaced s t ∧ Counted .framesHeard s t ∧ CountersSame [.framesHeard] s t
      ∧ SameOutside [.bau, .ptb, .alu, .cpt, .counters] s t)
    ∧ ∃ t, exec (.readyHeard i) s = .next t ∧ t.bau = heardBus s i
      ∧ t.peer i = { s.peer i with
          age := some 0, frames := satAdd (s.peer i).frames 1, blocked := false
          blockedTimer := if (s.peer i).blocked then none else (s.peer i).blockedTimer }
      ∧ OtherPeersSame i s t ∧ OnlyEventsPlaced s t ∧ Counted .framesHeard s t ∧ CountersSame [.framesHeard] s t
      ∧ SameOutside [.bau, .ptb, .cpt, .counters] s t)
  ∧ ∀ (i : Slot) (stamp : FullTime) (s : State), Hearing s i stamp →
    (s.peer i).state = .absent ∨ (s.peer i).state = .lost ∨ (s.peer i).state = .gone → LawDrained s →
    let restarted := fun (t : State) => Counted .impliedJoins s t
      ∧ ∀ c, (t.txs.nextSeq[i]).get c = BitVec.ofNat 8 ((s.queue c).filter (fun e => decide (e.dest.val = i.val))).length
    (∀ c : Instr, FrameFrom i c → (∀ body, c ≠ .joinHeard i body ∧ c ≠ .withdrawHeard i body ∧ c ≠ .goneHeard i body) →
      ∃ t, exec c s = .next t ∧ (t.peer i).state = .present ∧ (t.peer i).age = some 0
        ∧ EventKind.peerChange ∈ t.cpt.events ∧ Counted .framesHeard s t
        ∧ ((s.peer i).state = .gone → restarted t)
        ∧ ((s.peer i).state ≠ .gone → t.counter .impliedJoins = s.counter .impliedJoins ∧ t.txs.nextSeq = s.txs.nextSeq))
    ∧ ∃ t, exec (.readyHeard i) s = .next t ∧ t.bau = heardBus s i
      ∧ t.peer i = { s.peer i with
          state := .present, age := some 0, frames := satAdd (s.peer i).frames 1, blocked := false
          blockedTimer := if (s.peer i).blocked then none else (s.peer i).blockedTimer
          sequence := if (s.peer i).state = .gone then { control := none, deadline := none, bulk := none }
            else (s.peer i).sequence }
      ∧ OtherPeersSame i s t ∧ OnlyEventsPlaced s t ∧ OnlyAlarmsChanged s t ∧ t.alu.table = s.alu.table
      ∧ CountersSame [.framesHeard, .impliedJoins] s t ∧ t.txs.slots = s.txs.slots ∧ t.txs.storeFree = s.txs.storeFree
      ∧ ((s.peer i).state ≠ .gone → t.txs = s.txs)
      ∧ SameOutside [.bau, .txs, .ptb, .alu, .cpt, .counters] s t

/-- An ANNOUNCE from a PRESENT peer: quality 3 removes its source table entry; another quality adds or replaces it with
announce age 0, and the selection is the best entry again. From a DRAINING peer it changes nothing of the source
selector (R104, R106). -/
def Obligations.AnnounceHeard : Prop :=
  (∀ (i own : Slot) (body : List Byte) (stamp : FullTime) (s : State), Hearing s i stamp → s.ownSlot = some own →
    (s.peer i).state = .present → LawSources s → ∃ t, exec (.announceHeard i body) s = .next t ∧ t.bau = heardBus s i
      ∧ t.peer i = { s.peer i with age := some 0, frames := satAdd (s.peer i).frames 1 } ∧ OtherPeersSame i s t
      ∧ (byteAt body 0 = 3 → findSource i t.src.table = none)
      ∧ (∀ q : Fin 4, q.val < 3 → byteAt body 0 = BitVec.ofNat 8 q.val →
          findSource i t.src.table = some { slot := i, quality := q, priority := byteAt body 1, age := some 0 })
      ∧ (∀ j, j ≠ i → findSource j t.src.table = findSource j s.src.table) ∧ LawSelection t
      ∧ t.tmu.time = s.tmu.time ∧ SameOutside [.bau, .txs, .ptb, .tmu, .src, .alu, .cpt, .counters] s t)
  ∧ ∀ (i : Slot) (body : List Byte) (stamp : FullTime) (s : State), Hearing s i stamp →
      (s.peer i).state = .draining → LawDrained s → ∃ t, exec (.announceHeard i body) s = .next t
        ∧ t.bau = heardBus s i
        ∧ t.peer i = { s.peer i with age := some 0, frames := satAdd (s.peer i).frames 1 } ∧ OtherPeersSame i s t
        ∧ SameOutside [.bau, .ptb, .cpt, .counters] s t

/-! ### Peer timers and late removal -/

/-- The silence timeout of a PRESENT or DRAINING entry: LOST, with age at least 350 ms (log 16), no summary, not
blocked, its sequence state, join record and withdraw cause kept, PEERS LOST counted, and its queued frames gone with
PEER LEFT. The blocked timer's expiry clears the flag. The announce timer's expiry requests ANNOUNCE and restarts the
timer at 125 ms. The announce timeout of a peer's entry removes it from the source table, and the selection is the best
of the rest. An expiry acts while its timer runs (log 7) (R72, R78, R103, R105, R106). -/
def Obligations.PeerAndAnnounceTimers : Prop :=
  (∀ (i : Slot) (s : State), (s.peer i).state = .present ∨ (s.peer i).state = .draining →
    ∃ t age more, exec (.silenceTimeout i) s = .next t ∧ 43750000 ≤ age
      ∧ t.peer i = { s.peer i with
          state := .lost, age := some age, summary := none, blocked := false, blockedTimer := none }
      ∧ OtherPeersSame i s t ∧ Counted .peersLost s t ∧ EventKind.peerChange ∈ t.cpt.events
      ∧ (∀ c e, e ∈ t.queue c → e.dest.val = i.val → e.inFlight = true)
      ∧ t.cpt.results = s.cpt.results
          ++ ((s.queue .control ++ s.queue .deadline ++ s.queue .bulk).filter
                (fun e => decide (e.dest.val = i.val) && !e.inFlight)).map
              (fun e => { tag := e.tag, code := .peerLeft, attempts := e.attempts }) ++ more
      ∧ t.tmu.time = s.tmu.time ∧ SameOutside [.txs, .ptb, .tmu, .src, .alu, .cpt, .counters] s t)
  ∧ (∀ (i : Slot) (s : State), (s.peer i).blockedTimer.isSome = true → ∃ t, exec (.blockedTimerExpiry i) s = .next t
      ∧ t.peer i = { s.peer i with blocked := false, blockedTimer := none } ∧ OtherPeersSame i s t
      ∧ SameOutside [.ptb] s t)
  ∧ (∀ s : State, s.src.announceTimer.isSome = true → exec .announceTimerExpiry s = .next { s with
      txs := { s.txs with slots := { s.txs.slots with announce := s.txs.slots.announce.requested } }
      src := { s.src with announceTimer := some 15625000 } })
  ∧ ∀ (i : Slot) (e : SourceEntry) (s : State), findSource i s.src.table = some e → e.age.isSome = true →
      ∃ t, exec (.announceTimeout i) s = .next t ∧ findSource i t.src.table = none
        ∧ (∀ j, j ≠ i → findSource j t.src.table = findSource j s.src.table) ∧ LawSelection t
        ∧ t.tmu.time = s.tmu.time ∧ SameOutside [.txs, .tmu, .src, .alu, .cpt, .counters] s t

/-- DUE_TIME_PASSED: every class-2 entry whose due time has passed by the short time and that is not in flight leaves C2
with LATE, in admission order; the others stay; with at least one, the LATE timer is at 1 s and X3 is raised; with none
nothing changes. The removal is made at this command (log 11) (R31). -/
def Obligations.LateRemoval : Prop :=
  ∀ s : State, LawDrained s →
    let late := (s.queue .deadline).filter
      (fun e => !e.inFlight && e.due.any (fun d => !dueAhead d s.tmu.time.short))
    (late = [] → exec .dueTimePassed s = .next s)
    ∧ (late ≠ [] → ∃ t, exec .dueTimePassed s = .next t
      ∧ t.queue .deadline = (s.queue .deadline).filter
          (fun e => !(!e.inFlight && e.due.any (fun d => !dueAhead d s.tmu.time.short)))
      ∧ t.queue .control = s.queue .control ∧ t.queue .bulk = s.queue .bulk
      ∧ t.cpt.results = s.cpt.results ++ late.map (fun e => { tag := e.tag, code := .late, attempts := e.attempts })
      ∧ t.counter .late = satAdd (s.counter .late) late.length
      ∧ t.txs.storeFree = s.txs.storeFree + (late.map (fun e => unitsFor e.payload.length)).sum
      ∧ t.txs.lateTimer = some 125000000 ∧ Raised keyX3 t ∧ CountersSame [.late, .raisesDropped, .evictions] s t
      ∧ SameOutside [.txs, .alu, .cpt, .counters] s t)

/-! ### Seating -/

/-- In SEATED with a valid slot code, EJECT latched makes the station enter POWERING: PWREN on, the power-good timer at
100 ms, the causes none; it passes on at once where PGOOD is already good (R135). So does the entry into SEATED with the
ejector latched, with the straps its synchroniser shows (log 34); with the ejector open it waits in SEATED. EJECT opened
in SEATED changes the conditioned level alone. A change of EJECT is taken when its pin has held the new level for 20 ms,
and else changes nothing (R128, R129, R134, R135). -/
def Obligations.EjectLatchedPowersSeated : Prop :=
  (∀ (own : Slot) (s : State), s.sec.state = .seated → s.ownSlot = some own → Held s.sec.eject true →
    s.bau.tx = none → ∃ t, exec .ejectLatched s = .next t
      ∧ t.sec.pwren = true ∧ t.sec.eject = { pin := true, level := true, count := none }
      ∧ t.sec.withdrawCause = none ∧ t.sec.forceCause = none
      ∧ (s.sec.pgood.level = false → t.sec.state = .powering ∧ t.sec.powerGoodTimer = some 12500000
          ∧ t.sec.drven = false ∧ t.sec.rmvok = false
          ∧ EventKind.seatingStateChange ∈ t.cpt.events ∧ SameOutside [.bau, .sec, .alu, .cpt, .stl] s t)
      ∧ (s.sec.pgood.level = true → t.sec.state = if s.sec.recordLoaded then .listening else .config))
  ∧ (∀ (straps : Straps) (s : State), s.sec.state = .unseated → Held s.sec.seat true → s.stl.synchronised = straps →
      strapsValid straps = true →
      ∃ t, exec (.seatSeated straps) s = .next t
        ∧ (s.sec.eject.level = true → t.sec.pwren = true
            ∧ (s.sec.pgood.level = false → t.sec.state = .powering ∧ t.sec.powerGoodTimer = some 12500000)
            ∧ (s.sec.pgood.level = true → t.sec.state = if s.sec.recordLoaded then .listening else .config))
        ∧ (s.sec.eject.level = false → t.sec.state = .seated ∧ t.sec.pwren = s.sec.pwren))
  ∧ (∀ s : State, s.sec.state = .seated → Held s.sec.eject false → exec .ejectOpened s = .next
      { s with sec := { s.sec with eject := { pin := false, level := false, count := none } } })
  ∧ ∀ s : State, (¬ Held s.sec.eject true → exec .ejectLatched s = .next s)
      ∧ (¬ Held s.sec.eject false → exec .ejectOpened s = .next s)

/-- Every entry into SEATED, from UNSEATED when SEAT has been low for the seat debounce and from POWERING when EJECT has
been open for its filter, samples the straps as their synchroniser shows them, holds them and hands them on (size to the
bus view, collector role, effective source-capable flag); from UNSEATED the bus view leaves INACTIVE, from POWERING
PWREN turns off and the power-good timer stops. An invalid slot code (even parity, or a slot outside the cabinet) raises
H5 and leaves the station in SEATED without own slot, whatever the ejector. A slot code is valid when its four bits and
the parity bit hold an odd number of ones and it lies below the cabinet size. In another state, before the debounce is
over, or where the command names other straps than the synchroniser shows (log 34), nothing changes (R1, R128, R129,
R133, R135, R190, R191). -/
def Obligations.SeatSeated : Prop :=
  (∀ straps : Straps, strapsValid straps = true ↔
    (((straps.slot.getLsbD 0).toNat + (straps.slot.getLsbD 1).toNat + (straps.slot.getLsbD 2).toNat
        + (straps.slot.getLsbD 3).toNat + straps.parity.toNat) % 2 = 1
      ∧ straps.slot.toNat < (match straps.size with | .eight => 8 | .sixteen => 16)))
  ∧ (∀ (straps : Straps) (s : State), ¬ (s.sec.state = .unseated ∧ Held s.sec.seat true ∧ s.stl.synchronised = straps) →
      exec (.seatSeated straps) s = .next s)
  ∧ (∀ (straps : Straps) (s : State), s.sec.state = .powering → Held s.sec.eject false → s.stl.synchronised = straps →
    ∃ t, exec .ejectOpened s = .next t
    ∧ t.sec.state = .seated ∧ t.sec.pwren = false ∧ t.sec.powerGoodTimer = none ∧ t.sec.rmvok = true ∧ t.sec.drven = false
    ∧ t.stl = { s.stl with straps := some straps, load := none } ∧ t.alu.collector = straps.collector ∧ LawRelays t
    ∧ t.cabinet = (match straps.size with | .eight => 8 | .sixteen => 16)
    ∧ t.src.capable = (match s.stl.image.bind RecordImage.override with | some b => b | none => straps.sourceCapable)
    ∧ (strapsValid straps = true → t.ownSlot = some (Fin.ofNat 16 straps.slot.toNat))
    ∧ (strapsValid straps = false → t.ownSlot = none ∧ Raised keyH5 t))
  ∧ ∀ (straps : Straps) (s : State), s.sec.state = .unseated → Held s.sec.seat true → s.stl.synchronised = straps →
    ∃ t, exec (.seatSeated straps) s = .next t
    ∧ t.stl.straps = some straps ∧ t.alu.collector = straps.collector ∧ t.sec.seat.level = true
    ∧ t.cabinet = (match straps.size with | .eight => 8 | .sixteen => 16)
    ∧ t.src.capable = (match s.stl.image.bind RecordImage.override with | some b => b | none => straps.sourceCapable)
    ∧ (s.bau.view = .inactive → t.bau.view = .settle) ∧ t.tmu.time = s.tmu.time
    ∧ (strapsValid straps = true → t.ownSlot = some (Fin.ofNat 16 straps.slot.toNat))
    ∧ (strapsValid straps = false → t.ownSlot = none ∧ t.sec.state = .seated ∧ t.sec.rmvok = true
        ∧ t.sec.drven = false ∧ t.sec.pwren = s.sec.pwren ∧ Raised keyH5 t)

/-- Seat loss, SEAT having been high for 1 ms, in any state but UNSEATED: UNSEATED, the three outputs off, the
controller's timers stopped, the causes none, a load aborted, the bus view INACTIVE, the card queues emptied with
WITHDRAWN in the order C1, C2, C3, every internal slot empty, the receive pool and the peer table cleared, the source
table empty, H1 to H5 and X2 cleared; time runs on, and the straps and image stay. That C2 ends WITHDRAWN, not TIME
LOST, where the lost selection ends validity, is the order of log 15. An own frame that is still being sent is cut and
counts FRAMES CUT alone; one that has collided, or has reached its end marker, and whose command has not been taken, is
not cut, and its ending is taken here: OWN COLLISIONS with the pointer 0 and the consecutive-collision count one higher
(at most 8), or FRAMES SENT with that count 0 (log 41). In UNSEATED, or before the filter is over, nothing changes (R9,
R10, R11, R40, R46, R64, R128, R149). -/
def Obligations.SeatLoss : Prop :=
  (∀ s : State, ¬ (s.sec.state ≠ .unseated ∧ Held s.sec.seat false) → exec .seatLoss s = .next s)
  ∧ (∀ (x : Transmission) (s : State), s.sec.state ≠ .unseated → Held s.sec.seat false → s.bau.tx = some x →
    x.complete = false → ∃ t, exec .seatLoss s = .next t ∧ t.bau.tx = none ∧ t.bau.view = .inactive ∧ t.sec.state = .unseated
      ∧ (x.differed = true → Counted .ownCollisions s t ∧ t.counter .framesCut = s.counter .framesCut
          ∧ t.counter .framesSent = s.counter .framesSent ∧ t.bau.pointer = 0
          ∧ t.bau.collisions = min (s.bau.collisions + 1) 8)
      ∧ (x.differed = false → x.drive.length ≤ x.driven + 1 → Counted .framesSent s t
          ∧ t.counter .framesCut = s.counter .framesCut ∧ t.bau.collisions = 0)
      ∧ (x.differed = false → x.driven + 1 < x.drive.length → Counted .framesCut s t
          ∧ t.counter .framesSent = s.counter .framesSent ∧ t.bau.pointer = s.bau.pointer
          ∧ t.bau.collisions = s.bau.collisions))
  ∧ ∀ s : State, s.sec.state ≠ .unseated → Held s.sec.seat false → s.bau.tx = none →
    (∀ c e, e ∈ s.queue c → e.inFlight = false) → LawTable s →
    ∃ t, exec .seatLoss s = .next t
      ∧ t.sec.state = .unseated ∧ t.sec.pwren = false ∧ t.sec.drven = false ∧ t.sec.rmvok = false
      ∧ t.sec.seat.level = false ∧ t.sec.powerGoodTimer = none ∧ t.sec.listenTimer = none ∧ t.sec.drainTimer = none
      ∧ t.sec.goneTimer = none ∧ t.sec.noticeTimer = none ∧ t.sec.withdrawCause = none ∧ t.sec.forceCause = none
      ∧ t.sec.conflictCause = none ∧ t.sec.recordLoaded = s.sec.recordLoaded
      ∧ t.sec.slotHeard = false ∧ t.sec.ejectorOpened = false
      ∧ t.bau.view = .inactive ∧ t.bau.pointer = s.bau.pointer ∧ t.bau.collisions = s.bau.collisions
      ∧ (∀ c, t.queue c = []) ∧ (∀ k, t.txs.slots.get k = .empty)
      ∧ t.cpt.results = s.cpt.results ++ (s.queue .control ++ s.queue .deadline ++ s.queue .bulk).map
          (fun e => { tag := e.tag, code := .withdrawn, attempts := e.attempts })
      ∧ t.rxp.frames = [] ∧ t.rxp.free = 192 ∧ t.rxp.refused = [] ∧ t.rxp.readyOutstanding = false
      ∧ t.rxp.readyLevel = s.rxp.readyLevel ∧ t.rxp.groups = s.rxp.groups
      ∧ (∀ i : Slot, t.peer i = PeerEntry.cleared)
      ∧ t.src.table = [] ∧ t.src.selection = none ∧ (s.src.selection ≠ none → t.src.role = .follower)
      ∧ (∀ e, e ∈ t.alu.table → (∃ n, e.key = .seating n) ∨ e.key = .traffic 1 → e.state = .cleared)
      ∧ t.tmu.time = s.tmu.time ∧ t.tmu.integral = s.tmu.integral
      ∧ t.stl = { s.stl with load := none } ∧ EventKind.seatingStateChange ∈ t.cpt.events

/-- PGOOD good in POWERING: CONFIG with a load begun, or LISTENING where the record is loaded, H1 cleared. The
power-good timer's expiry, which acts while the timer runs (log 7): POWER FAULT, PWREN off, H1 raised. PGOOD lost: POWER
FAULT from CONFIG, LISTENING and JOINING, FORCED with force cause POWER from JOINED and DRAINING, PWREN off and H1
raised each time. A change of PGOOD is taken when its pin has held the new level for 1 ms, and else changes nothing
(R129, R131, R135 to R139, R143, R148). -/
def Obligations.PowerEvents : Prop :=
  (∀ s : State, (¬ Held s.sec.pgood true → exec .pgoodGood s = .next s)
      ∧ (¬ Held s.sec.pgood false → exec .pgoodLost s = .next s))
  ∧ (∀ s : State, s.sec.state = .powering → Held s.sec.pgood true → LawTable s → ∃ t, exec .pgoodGood s = .next t
    ∧ t.sec.pgood = { pin := true, level := true, count := none } ∧ t.sec.powerGoodTimer = none
    ∧ t.sec.pwren = s.sec.pwren
    ∧ (s.sec.recordLoaded = false → t.sec.state = .config ∧ t.stl.load = some RecordImage.empty)
    ∧ (s.sec.recordLoaded = true → t.sec.state = .listening ∧ t.sec.listenTimer = some 37500000)
    ∧ (∀ e, e ∈ t.alu.table → e.key = keyH1 → e.state = .cleared)
    ∧ t.tmu.time = s.tmu.time)
  ∧ (∀ s : State, s.sec.state = .powering → s.sec.powerGoodTimer.isSome = true →
      ∃ t, exec .powerGoodTimerExpiry s = .next t ∧ t.sec.state = .powerFault ∧ t.sec.pwren = false
        ∧ t.sec.drven = false ∧ t.sec.rmvok = true ∧ t.sec.powerGoodTimer = none
        ∧ t.sec.ejectorOpened = !s.sec.eject.level ∧ Raised keyH1 t
        ∧ EventKind.seatingFault ∈ t.cpt.events ∧ t.tmu.time = s.tmu.time)
  ∧ (∀ s : State, s.sec.state = .config ∨ s.sec.state = .listening ∨ s.sec.state = .joining →
      Held s.sec.pgood false → s.bau.tx = none → ∃ t, exec .pgoodLost s = .next t ∧ t.sec.state = .powerFault
        ∧ t.sec.pwren = false ∧ t.sec.drven = false ∧ t.sec.pgood.level = false ∧ t.stl.load = none
        ∧ t.sec.recordLoaded = s.sec.recordLoaded
        ∧ Raised keyH1 t ∧ EventKind.seatingFault ∈ t.cpt.events ∧ t.tmu.time = s.tmu.time)
  ∧ ∀ s : State, s.sec.state = .joined ∨ s.sec.state = .draining → Held s.sec.pgood false → s.bau.tx = none →
      ∃ t, exec .pgoodLost s = .next t ∧ t.sec.state = .forced ∧ t.sec.forceCause = some .power
        ∧ t.sec.withdrawCause = s.sec.withdrawCause ∧ t.sec.pwren = false ∧ t.sec.drven = true
        ∧ t.sec.goneTimer = some 2500000 ∧ t.sec.drainTimer = none ∧ t.txs.slots.goneForced = true
        ∧ (s.txs.slots.gone = .empty ∨ s.txs.slots.gone = .pending → t.txs.slots.gone = .pending)
        ∧ (∀ k, k ≠ .gone → k ≠ .ready → t.txs.slots.get k = .empty)
        ∧ (∀ c e, e ∈ t.queue c → e.inFlight = true) ∧ Raised keyH1 t ∧ EventKind.seatingStateChange ∈ t.cpt.events
        ∧ t.tmu.time = s.tmu.time

/-- The seating timers. Listen: CONFLICT where the own slot was heard, else JOINING with the drivers on and JOIN
requested. Drain: FORCED with force cause DRAIN, PWREN kept. Gone: ISOLATED with the drivers off, H4 and SEATING FAULT;
an own frame that is still being sent is cut, one that has ended or collided is not, and a GONE that reached its end
marker before the expiry was good: it counts FRAMES SENT, moves the pointer, sets the consecutive-collision count to 0,
and leaves the seating state and the empty slot as they are (log 41). Notice: PWREN off and nothing else. An expiry acts
while its timer runs (log 7) (R6, R9, R11, R26, R138, R139, R143, R144, R145, R146). -/
def Obligations.SeatingTimers : Prop :=
  (∀ s : State, s.sec.state = .listening → s.sec.listenTimer.isSome = true →
    (s.sec.slotHeard = false → ∃ t, exec .listenTimerExpiry s = .next t ∧ t.sec.state = .joining
      ∧ t.sec.drven = true ∧ t.sec.rmvok = false ∧ t.sec.listenTimer = none
      ∧ t.txs.slots.join = s.txs.slots.join.requested ∧ t.alu.intervalTimer = some 12500000
      ∧ t.alu.table = s.alu.table ∧ t.txs.queues = s.txs.queues
      ∧ EventKind.seatingStateChange ∈ t.cpt.events ∧ t.tmu = s.tmu ∧ t.ptb = s.ptb)
    ∧ (s.sec.slotHeard = true → ∃ t, exec .listenTimerExpiry s = .next t ∧ t.sec.state = .conflict
      ∧ t.sec.conflictCause = some .slotHeardWhileListening ∧ t.sec.drven = false ∧ t.sec.rmvok = true
      ∧ Raised keyH2 t ∧ EventKind.seatingFault ∈ t.cpt.events))
  ∧ (∀ s : State, s.sec.state = .draining → s.sec.drainTimer.isSome = true → s.bau.tx = none →
      ∃ t, exec .drainTimerExpiry s = .next t ∧ t.sec.state = .forced ∧ t.sec.forceCause = some .drain
        ∧ t.sec.withdrawCause = s.sec.withdrawCause ∧ t.sec.pwren = s.sec.pwren ∧ t.sec.drven = true
        ∧ t.sec.drainTimer = none ∧ t.sec.goneTimer = some 2500000 ∧ t.txs.slots.goneForced = true ∧ Raised keyH3 t
        ∧ (∀ c e, e ∈ t.queue c → e.inFlight = true) ∧ t.tmu.time = s.tmu.time)
  ∧ (∀ s : State, s.sec.state = .forced → s.sec.goneTimer.isSome = true → ∃ t, exec .goneTimerExpiry s = .next t
        ∧ t.sec.state = .isolated ∧ t.sec.drven = false ∧ t.sec.rmvok = true ∧ t.sec.pwren = s.sec.pwren
        ∧ t.sec.goneTimer = none ∧ t.txs.slots.gone = .empty ∧ Raised keyH4 t
        ∧ EventKind.seatingFault ∈ t.cpt.events ∧ t.tmu.time = s.tmu.time
        ∧ (∀ x, s.bau.tx = some x → x.complete = false → x.differed = false → x.driven + 1 < x.drive.length →
            t.bau.tx = none ∧ t.bau.rx = some .ownCut ∧ t.bau.pointer = s.bau.pointer ∧ Counted .framesCut s t)
        ∧ (∀ x, s.bau.tx = some x → x.complete = true ∨ x.differed = true ∨ x.drive.length ≤ x.driven + 1 →
            t.bau = { s.bau with reply := none } ∧ t.counter .framesCut = s.counter .framesCut)
        ∧ (∀ x, s.bau.tx = some x → x.source = .internal .gone → x.complete = false → x.differed = false →
            x.drive.length ≤ x.driven + 1 → s.bau.view = .frame → ∃ u, exec .ownFrameComplete t = .next u
              ∧ u.sec = t.sec ∧ u.bau.view = .window ∧ u.bau.tx = none ∧ u.txs.slots.gone = .empty
              ∧ u.bau.pointer = Fin.ofNat 16 ((x.slot.val + 1) % s.cabinet) ∧ u.bau.collisions = 0
              ∧ Counted .framesSent t u ∧ CountersSame [.framesSent] t u))
  ∧ ∀ s : State, s.sec.state = .withdrawn → s.sec.noticeTimer.isSome = true → exec .noticeTimerExpiry s = .next
      { s with sec := { s.sec with pwren := false, noticeTimer := none } }

/-- EJECT opened in JOINED, its pin having held the level for 20 ms, and a WITHDRAW message in JOINED, enter DRAINING
with cause EJECTOR and CARD: WITHDRAW is requested with the cause, the drain timer is at 250 ms, the drivers stay on,
the own entry leaves the source table, and the message gets no REPLY. In any other state a WITHDRAW is refused WRONG
STATE and changes nothing else. The message's command is its handling (log 10) (R129, R141). -/
def Obligations.WithdrawalBegins : Prop :=
  (∀ (cause : WithdrawCause) (c : Instr) (own : Slot) (s : State), s.sec.state = .joined → s.ownSlot = some own →
    (cause = .ejector ∧ c = .ejectOpened ∧ Held s.sec.eject false) ∨ (cause = .card ∧ c = .withdraw ∧ PortReady s) →
    ∃ t, exec c s = .next t ∧ t.sec.state = .draining ∧ t.sec.withdrawCause = some cause
      ∧ t.sec.drainTimer = some 31250000 ∧ t.sec.drven = true ∧ t.sec.rmvok = false ∧ t.sec.pwren = s.sec.pwren
      ∧ t.txs.slots.withdraw = s.txs.slots.withdraw.requested ∧ t.txs.slots.withdrawCause = cause
      ∧ findSource own t.src.table = none ∧ t.src.announceTimer = none ∧ t.cpt.replies = s.cpt.replies
      ∧ EventKind.seatingStateChange ∈ t.cpt.events ∧ t.tmu.time = s.tmu.time ∧ t.rxp = s.rxp ∧ t.ptb = s.ptb)
  ∧ ∀ s : State, s.sec.state ≠ .joined → PortReady s → exec .withdraw s = .next
      { s with cpt := { s.cpt with replies := s.cpt.replies ++ [.refusal .wrongState 6 none] } }

/-- A REJOIN in WITHDRAWN by the card with the ejector latched, or in CONFLICT or ISOLATED with PWREN on and the ejector
latched, enters LISTENING without a REPLY: the listen timer at 300 ms, the causes none, pointer and collision count 0, the
peer table clear, every slot but READY empty, the sequence counters 0. In any other state it is refused WRONG STATE.
The message's command is its handling (log 10) (R137, R145, R147). -/
def Obligations.RejoinTaken : Prop :=
  (∀ s : State, PortReady s → s.sec.eject.level = true →
    (s.sec.state = .withdrawn ∧ s.sec.withdrawCause = some .card)
      ∨ ((s.sec.state = .conflict ∨ s.sec.state = .isolated) ∧ s.sec.pwren = true) →
    ∃ t, exec .rejoin s = .next t ∧ t.sec.state = .listening ∧ t.sec.listenTimer = some 37500000
      ∧ t.sec.slotHeard = false ∧ t.sec.withdrawCause = none ∧ t.sec.forceCause = none ∧ t.sec.conflictCause = none
      ∧ t.sec.drven = false ∧ t.sec.rmvok = false ∧ t.sec.pwren = s.sec.pwren
      ∧ t.bau.pointer = 0 ∧ t.bau.collisions = 0 ∧ (∀ i : Slot, t.peer i = PeerEntry.cleared)
      ∧ (∀ k, k ≠ .ready → t.txs.slots.get k = .empty)
      ∧ (∀ (i : Slot) (c : CardClass), (t.txs.nextSeq[i]).get c = 0) ∧ t.src.table = []
      ∧ t.cpt.replies = s.cpt.replies ∧ t.tmu.time = s.tmu.time)
  ∧ ∀ s : State, PortReady s →
      ¬ (s.sec.eject.level = true ∧ ((s.sec.state = .withdrawn ∧ s.sec.withdrawCause = some .card)
          ∨ ((s.sec.state = .conflict ∨ s.sec.state = .isolated) ∧ s.sec.pwren = true))) →
      exec .rejoin s = .next
        { s with cpt := { s.cpt with replies := s.cpt.replies ++ [.refusal .wrongState 7 none] } }

/-- The completion of a load in CONFIG: the image of the outcome is kept and handed to the owning blocks, record loaded
becomes yes, and LISTENING is entered. The outcomes NO ANSWER, BAD MARKER and NO TERMINATOR hand on the defaults and
leave S1 neither ACTIVE nor ACKED. NO ANSWER is the outcome exactly where the memory leaves its address, in either
phase, or an address byte unacknowledged, BAD MARKER where the first two bytes are not 0xD5, 0x1C (fewer than two among
them, log 25), and NO TERMINATOR where byte 512 comes first. An item of the tabled length is accepted, each field
clamped to its range and a strobe offset reduced modulo the period; an item of another number or length is skipped; of
two accepted items of a number the later stands, and a repeat of a wrong length leaves the earlier (R136, R192 to R195).
-/
def Obligations.LoadComplete : Prop :=
  let read := fun (bytes : List Byte) =>
    judgeRecord { ackWrite := true, ackHigh := true, ackLow := true, ackRead := true, bytes := bytes }
  let load := fun (items : List Byte) => read ([0xD5, 0x1C] ++ items ++ [0, 0])
  let lengths := [0, 1, 1, 1, 2, 1, 1, 4, 2, 4, 1, 2, 1, 6, 6, 5, 5, 5, 5, 5, 5, 5, 5, 10]
  let fresh := RecordImage.empty
  let two := fun (a b : Byte) => 256 * a.toNat + b.toNat
  let four := fun (a b c d : Byte) => 16777216 * a.toNat + 65536 * b.toNat + two c d
  let strobe := fun (p a b c d w : Byte) => ({
    period := Fin.ofNat 8 (min 7 p.toNat), width := max 1 w.toNat
    offset := four a b c d % [1000000000, 100000000, 10000000, 5000000, 2000000, 1000000, 500000, 250000].getD p.toNat 250000
    : StrobeSettings })
  (∀ m : MemoryAnswer, judgeRecord m = .noAnswer ↔
    ¬ (m.ackWrite = true ∧ m.ackHigh = true ∧ m.ackLow = true ∧ m.ackRead = true))
  ∧ (∀ bytes, bytes.take 2 ≠ [0xD5, 0x1C] → read bytes = .badMarker)
  ∧ (∀ (n m k : Byte) (v w rest : List Byte), v.length = 255 →
      (w.length = 249 → read ([0xD5, 0x1C, n, 255] ++ v ++ [m, 249] ++ w ++ [k, 0] ++ rest) = .record fresh)
      ∧ (w.length = 250 → read ([0xD5, 0x1C, n, 255] ++ v ++ [m, 250] ++ w ++ [k, 0] ++ rest) = .noTerminator)
      ∧ (w.length = 251 → read ([0xD5, 0x1C, n, 255] ++ v ++ [m, 251] ++ w ++ [k, 0] ++ rest) = .noTerminator)
      ∧ (252 ≤ w.length → read ([0xD5, 0x1C, n, 255] ++ v ++ [m, 252] ++ w) = .noTerminator))
  ∧ (∀ (n : Byte) (v : List Byte), 1 ≤ v.length → v.length ≤ 255 → lengths[n.toNat]? ≠ some v.length →
      load ([n, BitVec.ofNat 8 v.length] ++ v) = .record fresh)
  ∧ (∀ (n : Byte) (v w : List Byte), lengths[n.toNat]? = some v.length → 1 ≤ w.length → w.length ≤ 255 →
      load ([n, BitVec.ofNat 8 v.length] ++ v ++ [n, BitVec.ofNat 8 w.length] ++ w)
        = if w.length = v.length then load ([n, BitVec.ofNat 8 w.length] ++ w)
          else load ([n, BitVec.ofNat 8 v.length] ++ v))
  ∧ (∀ a : Byte, load [1, 1, a] = .record { fresh with priority := some a }
      ∧ load [2, 1, a] = .record { fresh with quality := some (Fin.ofNat 4 (min 3 a.toNat)) }
      ∧ load [3, 1, a] = .record { fresh with override := some (decide (a ≠ 0)) }
      ∧ load [5, 1, a] = .record { fresh with kp := some (min 8 a.toNat) }
      ∧ load [6, 1, a] = .record { fresh with ki := some (min 12 a.toNat) }
      ∧ load [10, 1, a] = .record { fresh with linkLatency := some (min 200 a.toNat) }
      ∧ load [12, 1, a] = .record { fresh with readyLevel := some (max 8 (min 160 a.toNat)) })
  ∧ (∀ a b : Byte, load [4, 2, a, b] = .record { fresh with groups := some (BitVec.ofNat 16 (two a b / 2 * 2)) }
      ∧ load [8, 2, a, b] = .record { fresh with lockThreshold := some (max 10 (min 5000 (two a b))) }
      ∧ load [11, 2, a, b] = .record { fresh with pitchDelay := some (min 2000 (two a b)) })
  ∧ (∀ a b c d : Byte,
      load [7, 4, a, b, c, d] = .record { fresh with stepThreshold := some (max 100 (min 100000 (four a b c d))) }
      ∧ load [9, 4, a, b, c, d] = .record { fresh with holdoverLimit := some (max 10 (min 86400 (four a b c d))) })
  ∧ (∀ p a b c d w : Byte, load [13, 6, p, a, b, c, d, w] = .record { fresh with sta := some (strobe p a b c d w) }
      ∧ load [14, 6, p, a, b, c, d, w] = .record { fresh with stb := some (strobe p a b c d w) })
  ∧ (∀ (n : Fin 8) (m p l v d : Byte), load [15 + BitVec.ofNat 8 n.val, 5, m, p, l, v, d] = .record { fresh with
      inputs := fresh.inputs.set n.val (some {
        masked := decide (m ≠ 0), activeHigh := decide (p ≠ 0), latched := decide (l ≠ 0)
        severity := if v.toNat ≤ 1 then .warning else if v.toNat = 2 then .minor else if v.toNat = 3 then .major
          else .critical
        debounceMs := max 1 d.toNat }) n.isLt })
  ∧ (∀ v : List Byte, v.length = 10 → ∃ map, load ([23, 10] ++ v) = .record { fresh with eventMap := some map }
      ∧ ∀ i : Fin 10, map[i] = if v.getD i.val 0 = 0 then .off else if v.getD i.val 0 = 1 then .attention else .urgent)
  ∧ ∀ (memory : MemoryAnswer) (g : RecordImage) (s : State), s.sec.state = .config → s.stl.load.isSome = true →
    LawTable s →
    judgeRecord memory = .record g
      ∨ ((judgeRecord memory = .noAnswer ∨ judgeRecord memory = .badMarker ∨ judgeRecord memory = .noTerminator)
          ∧ g = RecordImage.empty) →
    ∃ t, exec (.loadComplete memory) s = .next t
      ∧ t.sec.state = .listening ∧ t.sec.recordLoaded = true ∧ t.sec.listenTimer = some 37500000
      ∧ t.stl.load = none ∧ t.stl.image = some g ∧ t.stl.straps = s.stl.straps
      ∧ t.src.priority = g.priority.getD 128 ∧ t.src.quality = g.quality.getD 2
      ∧ t.src.capable = g.override.getD ((s.stl.straps.map Straps.sourceCapable).getD false)
      ∧ t.rxp.groups = g.groups.getD 0 ∧ t.rxp.readyLevel = g.readyLevel.getD 48
      ∧ t.tmu.settings = { kp := g.kp.getD 1, ki := g.ki.getD 4, stepThreshold := g.stepThreshold.getD 500,
                           lockThreshold := g.lockThreshold.getD 100, holdoverLimit := g.holdoverLimit.getD 600,
                           linkLatency := g.linkLatency.getD 24, pitchDelay := g.pitchDelay.getD 500 }
      ∧ t.tmu.sta.settings = g.sta.getD { period := 2, offset := 0, width := 125 }
      ∧ t.tmu.stb.settings = g.stb.getD { period := 0, offset := 0, width := 125 }
      ∧ (∀ n : Fin 8, (t.input n).settings = (g.inputs[n]).getD InputSettings.default
          ∧ (t.input n).asserted = false ∧ (t.input n).cause = false)
      ∧ t.cpt.eventMap = g.eventMap.getD defaultEventMap
      ∧ ((∀ g', judgeRecord memory ≠ .record g') → ∀ e, e ∈ t.alu.table → e.key = .start → e.state = .cleared)
      ∧ t.tmu.time = s.tmu.time

/-! ### The card port -/

/-- A card reset: the parser hunts, both queues, the message in transfer with the bits of it that went out, the results
list, the pending event set and the pool are emptied, the notice lines follow, the card queues keep only a frame on the
pair, as an orphan, and every CARD entry and mark goes; where an entry went, ALARM TABLE CHANGE stands in the set after
it (log 22); the port's other blocks stay. The release of CRST starts the byte boundaries afresh, and the changes of
HOLD change their conditioned level alone. Where the second stage of a pin's synchroniser has not held its level for
1 µs, nothing changes (R41, R61, R157, R183, R188, R199). -/
def Obligations.CardResetAndHold : Prop :=
  (∀ s : State, Held s.cpt.crst.toConditioner true → ∃ t, exec .cardReset s = .next t
    ∧ t.cpt.events = (if s.alu.table.any (fun e => isCardKey e.key) then [.alarmTableChange] else [])
    ∧ (t.cpt.events = [] → t.cpt.urgent = false ∧ t.cpt.attention = false) ∧ LawLines t
    ∧ t.cpt.bits = [] ∧ t.cpt.parser = .hunt ∧ t.cpt.incoming = [] ∧ t.cpt.replies = [] ∧ t.cpt.outgoing = none ∧ t.cpt.results = []
    ∧ t.cpt.crst = { s.cpt.crst with pin := true, level := true, count := none } ∧ t.cpt.eventMap = s.cpt.eventMap
    ∧ t.cpt.hold = s.cpt.hold
    ∧ (∀ c, t.queue c = ((s.queue c).filter QueueEntry.inFlight).map (fun e => { e with orphan := true }))
    ∧ t.txs.nextSeq = s.txs.nextSeq
    ∧ t.rxp = { s.rxp with frames := [], free := 192, readyOutstanding := t.rxp.readyOutstanding }
    ∧ (s.rxp.refused ≠ [] → s.rxp.readyLevel ≤ 192 → t.rxp.readyOutstanding = true)
    ∧ t.alu.table = s.alu.table.filter (fun e => !isCardKey e.key)
    ∧ t.alu.suppressed = s.alu.suppressed.filter (fun k => !isCardKey k)
    ∧ SameOutside [.txs, .rxp, .alu, .cpt] s t)
  ∧ (∀ s : State, Held s.cpt.crst.toConditioner false → exec .cardResetRelease s = .next
      { s with cpt := { s.cpt with crst := { s.cpt.crst with pin := false, level := false, count := none }, bits := [] } })
  ∧ (∀ s : State, Held s.cpt.hold.toConditioner true → exec .holdAsserted s = .next
      { s with cpt := { s.cpt with hold := { s.cpt.hold with pin := true, level := true, count := none } } })
  ∧ (∀ s : State, Held s.cpt.hold.toConditioner false → exec .holdReleased s = .next
      { s with cpt := { s.cpt with hold := { s.cpt.hold with pin := false, level := false, count := none } } })
  ∧ ∀ s : State, (¬ Held s.cpt.crst.toConditioner true → exec .cardReset s = .next s)
      ∧ (¬ Held s.cpt.crst.toConditioner false → exec .cardResetRelease s = .next s)
      ∧ (¬ Held s.cpt.hold.toConditioner true → exec .holdAsserted s = .next s)
      ∧ (¬ Held s.cpt.hold.toConditioner false → exec .holdReleased s = .next s)

/-- The edges of the card link (log 10). The bits of a card message, eight to a byte from a byte boundary, complete it: it
joins the incoming queue, or is dropped and counted when the queue holds 4. At every edge one bit goes out: of the
message in transfer the next one, and fill, 0, before it has come to a byte boundary, after its last bit and where there
is none (log 38); the bits of it that have gone out are held, and a message half sent or half received goes on at the
next edges. With CRST conditioned held the edges change nothing and 0 goes out. A header with a length above the link
limit discards the message and counts LINK FAULTS. A malformed message is answered BAD REQUEST with its kind and, where
that is SEND's alone, the tag it holds. MESSAGE_COMPLETE fills the incoming queue and a message's own command handles it
(R175, R177, R180, R188, R199). -/
def Obligations.LinkEvents : Prop :=
  (∀ (m : Message) (s : State),
    (match m with
     | .send r => r.wellFormed = true
     | .malformed _ _ => False
     | _ => True) →
    s.cpt.crst.level = false → s.cpt.parser = .hunt → s.cpt.bits = [] →
    let moved := s.cpt.outgoing.map (fun o => { o with
      sent := min (o.sent + 8 * m.bytes.length) (8 * o.message.bytes.length) })
    (s.cpt.incoming.length < 4 → exec (.messageComplete (bitsOf m.bytes)) s = .next
      { s with cpt := { s.cpt with incoming := s.cpt.incoming ++ [m], outgoing := moved } })
    ∧ (s.cpt.incoming.length = 4 → ∃ t, exec (.messageComplete (bitsOf m.bytes)) s = .next t
      ∧ t.cpt.incoming = s.cpt.incoming ∧ t.cpt.outgoing = moved ∧ Counted .overruns s t ∧ CountersSame [.overruns] s t
      ∧ OnlyEventsPlaced { s with cpt := { s.cpt with outgoing := moved } } t ∧ SameOutside [.cpt, .counters] s t))
  ∧ (∀ (edges : List Bool) (s : State), s.cpt.crst.level = true →
      exec (.messageComplete edges) s = .next s ∧ ∀ n, s.cpt.putsOut n = List.replicate n false)
  ∧ (∀ (edges : List Bool) (s : State), s.cpt.crst.level = false → ∃ t, exec (.messageComplete edges) s = .next t
      ∧ t.cpt.bits.length = (s.cpt.bits.length + edges.length) % 8
      ∧ (s.cpt.outgoing = none → t.cpt.outgoing = none
          ∧ s.cpt.putsOut edges.length = List.replicate edges.length false)
      ∧ ∀ (o : Outgoing) (fill : Nat), s.cpt.outgoing = some o →
          fill = (if o.sent = 0 then (8 - s.cpt.bits.length) % 8 else 0) →
          t.cpt.outgoing = some { o with
            sent := min (o.sent + (edges.length - fill)) (8 * o.message.bytes.length) }
          ∧ s.cpt.putsOut edges.length = (List.replicate fill false ++ (bitsOf o.message.bytes).drop o.sent
              ++ List.replicate edges.length false).take edges.length
          ∧ t.cpt.results = s.cpt.results ∧ t.cpt.replies = s.cpt.replies ∧ SameOutside [.cpt, .counters] s t)
  ∧ (∀ s : State, s.cpt.crst.level = false → ∃ t, exec .linkFault s = .next t
      ∧ t.cpt = { s.cpt with parser := .hunt, events := t.cpt.events, urgent := t.cpt.urgent, attention := t.cpt.attention }
      ∧ Counted .linkFaults s t ∧ CountersSame [.linkFaults] s t ∧ SameOutside [.cpt, .counters] s t)
  ∧ ∀ (kind : Byte) (tag : Option (BitVec 16)) (s : State), PortReady s → exec (.malformedMessage kind tag) s = .next
      { s with cpt := { s.cpt with replies := s.cpt.replies ++ [.refusal .badRequest kind (if kind = 1 then tag else none)] } }

/-- SEND. Where none of the six conditions holds it is admitted: a new entry at the tail of the queue of its class, its
store units taken, the sequence counter used and advanced for a unicast destination, no REPLY. Where a condition holds,
the first of them in the order of R21 is the refusal, REFUSED SENDS adds 1, and nothing else changes. A SEND whose
payload length field is not the length of its payload is refused BAD REQUEST by the port, counts nothing, and changes
nothing else. The message's command is its handling (log 10) (R21, R22, R179, R199). -/
def Obligations.SendTaken : Prop :=
  (∀ (m : SendRequest) (s : State), PortReady s → m.lengthField.toNat ≠ m.payload.length →
    exec (.send m) s = .next
      { s with cpt := { s.cpt with replies := s.cpt.replies ++ [.refusal .badRequest 1 (some m.tag)] } })
  ∧ ∀ (m : SendRequest) (s : State), PortReady s → m.lengthField.toNat = m.payload.length →
    let bad := m.cls = 0 ∨ 1024 < m.payload.length
      ∨ (m.dest.val < 16 ∧ (s.cabinet ≤ m.dest.val ∨ ∃ own, s.ownSlot = some own ∧ own.val = m.dest.val))
      ∨ (m.cls ≠ 2 ∧ (m.release ≠ none ∨ m.due ≠ none))
    let stray := m.dest.val < 16 ∧ (s.peer (Fin.ofNat 16 m.dest.val)).state ≠ .present
      ∧ (s.peer (Fin.ofNat 16 m.dest.val)).state ≠ .draining
    let untimed := m.cls = 2 ∧ s.timeValid = false
    let past := m.cls = 2 ∧ ∃ d, m.due = some d ∧ dueAhead (d.toNat % 4000000000) s.tmu.time.short = false
    let refused := fun (code : RefusalCode) => ∃ t, exec (.send m) s = .next t
      ∧ t.cpt.replies = s.cpt.replies ++ [.refusal code 1 (some m.tag)] ∧ Counted .refusedSends s t
      ∧ CountersSame [.refusedSends] s t
      ∧ t.cpt = { s.cpt with replies := t.cpt.replies, events := t.cpt.events, urgent := t.cpt.urgent
                             attention := t.cpt.attention }
      ∧ SameOutside [.cpt, .counters] s t
    (bad → refused .badRequest)
    ∧ (¬ bad → s.sec.state ≠ .joined → refused .notJoined)
    ∧ (¬ bad → s.sec.state = .joined → stray → refused .noPeer)
    ∧ (¬ bad → s.sec.state = .joined → ¬ stray → untimed → refused .timeNotValid)
    ∧ (¬ bad → s.sec.state = .joined → ¬ stray → ¬ untimed → past → refused .pastDue)
    ∧ ∀ c : CardClass, m.cls.toNat = c.number → ¬ bad → s.sec.state = .joined → ¬ stray → ¬ untimed → ¬ past →
        let full := Config.queueDepth c ≤ (s.queue c).length ∨ s.txs.storeFree < unitsFor m.payload.length
          ∨ 80 ≤ s.queued + s.cpt.results.length
        (full → refused .queueFull)
        ∧ (¬ full → ∃ t, exec (.send m) s = .next t
          ∧ t.queue c = s.queue c ++ [{
              tag := m.tag, dest := m.dest, payload := m.payload
              sequence := if m.dest.val < 16 then some ((s.txs.nextSeq[(Fin.ofNat 16 m.dest.val : Slot)]).get c) else none
              due := m.due.map (fun d => d.toNat % 4000000000), release := m.release
              released := decide (m.release = none), attempts := 0, inFlight := false, mark := none, orphan := false }]
          ∧ (∀ d, d ≠ c → t.queue d = s.queue d)
          ∧ t.txs.storeFree = s.txs.storeFree - unitsFor m.payload.length
          ∧ (∀ (i : Slot) (d : CardClass), (t.txs.nextSeq[i]).get d
              = if i.val = m.dest.val ∧ d = c then (s.txs.nextSeq[i]).get d + 1 else (s.txs.nextSeq[i]).get d)
          ∧ t.txs.slots = s.txs.slots ∧ t.txs.lateTimer = s.txs.lateTimer
          ∧ t.txs.undeliverableTimer = s.txs.undeliverableTimer ∧ SameOutside [.txs] s t)

/-- FORGET of a GONE or LOST peer returns its entry to ABSENT with only its sequence state kept, of an ABSENT one changes
nothing, of a PRESENT or DRAINING one is refused WRONG STATE, and of the own slot or one outside the cabinet BAD REQUEST.
SET QUALITY sets the own quality, clamped to 3, and keeps the selection law. LABEL SECOND sets the pending label alone.
The message's command is its handling (log 10) (R73, R92, R101). -/
def Obligations.SmallMessages : Prop :=
  (∀ (n : Byte) (i : Slot) (s : State), PortReady s → n.toNat = i.val → i.val < s.cabinet → s.ownSlot ≠ some i →
    ((s.peer i).state = .gone ∨ (s.peer i).state = .lost → ∃ t, exec (.forget n) s = .next t
      ∧ t.peer i = { PeerEntry.cleared with sequence := (s.peer i).sequence } ∧ OtherPeersSame i s t
      ∧ EventKind.peerChange ∈ t.cpt.events ∧ t.cpt.replies = s.cpt.replies ∧ t.src = s.src ∧ t.tmu = s.tmu
      ∧ t.txs.nextSeq = s.txs.nextSeq ∧ t.alu.table = s.alu.table)
    ∧ ((s.peer i).state = .absent → exec (.forget n) s = .next s)
    ∧ ((s.peer i).state = .present ∨ (s.peer i).state = .draining → exec (.forget n) s = .next
        { s with cpt := { s.cpt with replies := s.cpt.replies ++ [.refusal .wrongState 5 none] } }))
  ∧ (∀ (n : Byte) (s : State), PortReady s →
      s.cabinet ≤ n.toNat ∨ (∃ own, s.ownSlot = some own ∧ own.val = n.toNat) → exec (.forget n) s = .next
        { s with cpt := { s.cpt with replies := s.cpt.replies ++ [.refusal .badRequest 5 none] } })
  ∧ (∀ (q : Byte) (s : State), PortReady s → LawSources s → ∃ t, exec (.setQuality q) s = .next t
      ∧ t.src.quality.val = min q.toNat 3 ∧ t.src.priority = s.src.priority ∧ t.src.capable = s.src.capable
      ∧ LawSources t ∧ t.cpt.replies = s.cpt.replies ∧ t.tmu.time = s.tmu.time
      ∧ (s.src.quality.val ≠ min q.toNat 3 → s.sec.state = .joined → s.src.capable = true →
          t.src.announceTimer = some 15625000 ∧ t.txs.slots.announce = s.txs.slots.announce.requested)
      ∧ SameOutside [.txs, .tmu, .src, .alu, .cpt, .counters] s t)
  ∧ ∀ (x : Seconds) (s : State), PortReady s → exec (.labelSecond x) s = .next
      { s with tmu := { s.tmu with label := some x } }

/-- READ. Each of the six items is answered by one REPLY with the item's fields as they stand, and nothing else changes;
READ COUNTERS with the clear option sets every counter and every entry counter to 0 once the values are taken. The clear
option with another item, and READ PEER of a number above 15, are refused BAD REQUEST. The bytes of the six items stand
written out for the machine right after reset, and field by field for other states: STATE, TIME, SOURCES (the table in
its order, best first) and ALARMS for every state whose running timers are whole microseconds and whose announce ages
are whole milliseconds, the units the reply rounds to (log 2); COUNTERS, the counters in the order of R185, for every
state; and PEER for the own slot, a slot outside the cabinet and a peer of which only its age and a last sequence are
known. The message's command is its handling (log 10), and the coding of the bytes is the model's where R199 leaves it
(log 21) (R19, R45, R63, R81, R99, R126, R151, R173, R179, R184, R185, R199). -/
def Obligations.ReadsAnswered : Prop :=
  let zeros := fun (n : Nat) => List.replicate n (0 : Byte)
  let stopped := fun (n : Nat) => List.replicate (8 * n) (0xFF : Byte)
  let one := fun (n : Nat) => ([BitVec.ofNat 8 n] : List Byte)
  let big := fun (k n : Nat) => (List.range k).map (fun i => BitVec.ofNat 8 (n / 256 ^ (k - 1 - i)))
  let flag := fun (b : Bool) => ([if b then 1 else 0] : List Byte)
  let known := fun (o : Option (List Byte)) => match o with | none => ([0] : List Byte) | some l => 1 :: l
  let many := fun (l : List (List Byte)) => (BitVec.ofNat 8 l.length :: l.flatten : List Byte)
  let timer := fun (x : Timer) => match x with | none => stopped 1 | some n => big 8 (n / 125)
  let fullTime := fun (x : FullTime) => big 4 x.seconds.val ++ big 4 x.nanoseconds.val ++ big 2 x.fraction.val
  let r := State.reset
  (stateItem r = [1, 0, 0, 0] ++ zeros 3 ++ zeros 5 ++ stopped 5 ++ zeros 5 ++ zeros 2
      ++ zeros 3 ++ [128, 0] ++ List.replicate 7 1 ++ [0, 192, 0, 0, 48, 0]
      ++ zeros 3 ++ [1, 1, 1] ++ List.replicate 7 2 ++ zeros 3
    ∧ (∀ k : EdgeDelay, timeItem k r = zeros 7 ++ [BitVec.ofNat 8 k.val] ++ zeros 2 ++ zeros 4 ++ [1, 1, 0, 0] ++ zeros 12
      ++ zeros 2 ++ [2, 0, 0, 0, 0, 125, 0] ++ [0, 0, 0, 0, 0, 125, 0] ++ zeros 4 ++ stopped 2 ++ [0]
      ++ [1, 4, 0, 1, 244, 0, 100, 0, 2, 88, 24, 1, 244] ++ zeros 32)
    ∧ (∀ i : Slot, peerItem i r = [1, 0, 0] ++ stopped 1 ++ zeros 8 ++ zeros 12)
    ∧ sourcesItem r = [0, 0, 1, 2, 128, 0, 0] ++ stopped 2
    ∧ alarmsItem r = zeros 3 ++ zeros 7 ++ zeros 5 ++ (List.replicate 8 [2, 1, 1, 2, 20, 0, 0]).flatten ++ stopped 2
      ++ zeros 12
    ∧ countersItem r = zeros 164)
  ∧ (∀ s : State, (∀ n, some n ∈ [s.sec.powerGoodTimer, s.sec.listenTimer, s.sec.drainTimer, s.sec.goneTimer,
          s.sec.noticeTimer] → n % 125 = 0) →
      let strap := fun (f : Straps → Nat) => known (s.stl.straps.map (fun x => one (f x)))
      let groups := (List.range 16).filter (fun n => decide (1 ≤ n) && s.rxp.groups.getLsbD n)
      stateItem s = one (([.unseated, .seated, .powering, .config, .listening, .joining, .joined, .draining, .forced,
            .withdrawn, .isolated, .conflict, .powerFault] : List Seating).idxOf s.sec.state + 1)
        ++ one ([none, some .ejector, some .card].idxOf s.sec.withdrawCause)
        ++ one ([none, some .drain, some .power].idxOf s.sec.forceCause)
        ++ one ([none, some .ownSlotHeard, some .slotHeardWhileListening, some .suspectedDuplicateSlot].idxOf
            s.sec.conflictCause)
        ++ flag s.sec.seat.level ++ flag s.sec.eject.level ++ flag s.sec.pgood.level ++ flag s.sec.pwren
        ++ flag s.sec.drven ++ flag s.sec.rmvok ++ flag s.sec.recordLoaded ++ flag s.sec.slotHeard
        ++ timer s.sec.powerGoodTimer ++ timer s.sec.listenTimer ++ timer s.sec.drainTimer ++ timer s.sec.goneTimer
        ++ timer s.sec.noticeTimer
        ++ strap (fun x => x.slot.toNat) ++ flag s.ownSlot.isSome
        ++ strap (fun x => match x.size with | .eight => 8 | .sixteen => 16)
        ++ strap (fun x => x.sourceCapable.toNat) ++ strap (fun x => x.collector.toNat)
        ++ one s.bau.pointer.val ++ one s.bau.collisions
        ++ one (s.queue .control).length ++ one (s.queue .deadline).length ++ one (s.queue .bulk).length
        ++ one s.txs.storeFree ++ one s.cpt.results.length
        ++ ([.sync, .announce, .summary, .join, .withdraw, .gone, .ready] : List InternalKind).flatMap (fun k =>
            one (([.empty, .pending, .inFlight, .inFlightPending] : List SlotState).idxOf (s.txs.slots.get k) + 1))
        ++ one s.rxp.frames.length ++ one s.rxp.free ++ many (s.rxp.refused.map (fun i => one i.val))
        ++ flag s.rxp.readyOutstanding ++ one s.rxp.readyLevel ++ many (groups.map one)
        ++ one s.cpt.incoming.length ++ one s.cpt.replies.length ++ many (s.cpt.events.map (fun e => one e.number))
        ++ s.cpt.eventMap.toList.flatMap (fun l => one (([.off, .urgent, .attention] : List NoticeLine).idxOf l))
        ++ flag s.cpt.urgent ++ flag s.cpt.attention ++ flag s.cpt.hold.level)
  ∧ (∀ (k : EdgeDelay) (s : State), (∀ n, some n ∈ [s.tmu.holdoverTimer, s.src.refTimeout] → n % 125 = 0) →
      let strobe := fun (g : StrobeGen) => one g.settings.period.val ++ big 4 g.settings.offset ++ one g.settings.width
        ++ flag g.output
      let c := s.tmu.settings
      timeItem k s = fullTime (s.stamp k) ++ big 4 s.tmu.time.short
        ++ one (([.free, .acquire, .locked, .holdover] : List Servo).idxOf s.tmu.servo + 1)
        ++ one (([.follower, .source] : List Role).idxOf s.src.role + 1) ++ flag s.timeValid ++ flag s.tmu.everLocked
        ++ big 4 (s.tmu.rate % 4294967296).toNat ++ big 4 (s.tmu.integral % 4294967296).toNat ++ big 4 s.tmu.residue
        ++ known (s.tmu.label.map (fun x => big 4 x.val)) ++ known (s.tmu.lastRef.map fullTime)
        ++ strobe s.tmu.sta ++ strobe s.tmu.stb
        ++ one s.tmu.lockCount ++ one s.tmu.outlierCount ++ one s.tmu.rateLimitCount ++ flag s.src.refSeen
        ++ timer s.tmu.holdoverTimer ++ timer s.src.refTimeout
        ++ known (s.tmu.lastError.map (fun x => big 12 (x.1 % 79228162514264337593543950336).toNat
            ++ one (([.sync, .ref] : List SampleKind).idxOf x.2 + 1)))
        ++ one c.kp ++ one c.ki ++ big 3 c.stepThreshold ++ big 2 c.lockThreshold ++ big 3 c.holdoverLimit
        ++ one c.linkLatency ++ big 2 c.pitchDelay
        ++ ([.announcesSent, .syncsSent, .syncsIgnored, .samples, .steps, .outliers, .syncTimeouts, .refTimeouts]
            : List CounterId).flatMap (fun i => big 4 (s.counter i).val))
  ∧ (∀ (l : List SourceEntry) (s : State), l.Perm s.src.table → l.Pairwise (fun a b => a.before b = true) →
      (∀ n, some n ∈ [s.src.syncTimeout, s.src.announceTimer] → n % 125 = 0) →
      (∀ x n, x ∈ l → x.age = some n → n % 125000 = 0) →
      sourcesItem s = many (l.map (fun x => one x.slot.val ++ one x.quality.val ++ [x.priority]
            ++ known (x.age.map (fun n => big 2 (n / 125000)))))
        ++ known (s.src.selection.map (fun i => one i.val))
        ++ one (([.follower, .source] : List Role).idxOf s.src.role + 1)
        ++ one s.src.quality.val ++ [s.src.priority] ++ flag s.src.capable
        ++ flag (decide (s.sec.state = .joined ∧ s.src.capable = true ∧ s.src.quality.val ≤ 2))
        ++ timer s.src.syncTimeout ++ timer s.src.announceTimer)
  ∧ (∀ s : State, (∀ n, some n ∈ [s.alu.intervalTimer, s.alu.holdOffTimer] → n % 125 = 0) →
      let severity := fun (v : Option Severity) => one ([none, some .warning, some .minor, some .major,
        some .critical].idxOf v)
      let state := fun (v : AlarmState) => one (([.active, .acked, .cleared] : List AlarmState).idxOf v + 1)
      let v := s.alu.summary
      alarmsItem s = many (s.alu.table.map (fun e => [e.key.origin, e.key.code] ++ severity (some e.severity)
            ++ state e.state ++ one e.raises ++ big 4 e.firstRaise.val ++ big 4 e.lastChange.val))
        ++ flag s.alu.overflow ++ many (s.alu.suppressed.map (fun k => [k.origin, k.code]))
        ++ one v.critical ++ one v.major ++ one v.minor ++ one v.warning ++ severity v.highest ++ flag v.overflow
        ++ many (v.entries.map (fun e => [e.origin, e.code] ++ severity e.severity ++ state e.state))
        ++ flag s.alu.alertDrive ++ flag s.alu.alert.level ++ flag s.alu.collector ++ flag s.alu.crit ++ flag s.alu.maj
        ++ s.alu.inputs.toList.flatMap (fun x => (if x.settings.masked then one 1 else one 2)
            ++ (if x.settings.activeHigh then one 2 else one 1) ++ (if x.settings.latched then one 2 else one 1)
            ++ severity (some x.settings.severity) ++ one x.settings.debounceMs ++ flag x.asserted ++ flag x.cause)
        ++ timer s.alu.intervalTimer ++ timer s.alu.holdOffTimer
        ++ ([.raisesDropped, .evictions, .summariesSent] : List CounterId).flatMap (fun i => big 4 (s.counter i).val))
  ∧ (∀ s : State, countersItem s = ([.framesHeard, .framesSent, .ownCollisions, .collisionsSeen, .codeFaults, .checkFaults,
        .foreignSlot, .framesCut, .repliesSent, .noReply, .replyFaults, .sent, .late, .undeliverable, .peerLeft,
        .fullReplies, .refusedSends, .framesStored, .framesDelivered, .duplicates, .gapFrames, .fullSent, .groupDrops,
        .lateArrivals, .notReceiving, .ownSlotFrames, .peersLost, .impliedJoins, .announcesSent, .syncsSent,
        .syncsIgnored, .samples, .steps, .outliers, .syncTimeouts, .refTimeouts, .raisesDropped, .evictions,
        .summariesSent, .linkFaults, .overruns] : List CounterId).flatMap (fun i =>
      [BitVec.ofNat 8 ((s.counter i).val / 16777216), BitVec.ofNat 8 ((s.counter i).val / 65536),
        BitVec.ofNat 8 ((s.counter i).val / 256), BitVec.ofNat 8 (s.counter i).val]))
  ∧ (∀ (i : Slot) (s : State), s.ownSlot = some i ∨ s.cabinet ≤ i.val →
      peerItem i s = [1, 0, 0] ++ stopped 1 ++ zeros 8 ++ zeros 12)
  ∧ (∀ (i : Slot) (ms : Nat) (a : Byte) (s : State), s.ownSlot ≠ some i → i.val < s.cabinet → ms < 65536 →
      (∀ e, e ∈ s.src.table → e.slot ≠ i) →
      s.peer i = { PeerEntry.cleared with
        state := .present, age := some (125000 * ms), sequence := { control := some a, deadline := none, bulk := none } } →
      peerItem i s = [2, 1, BitVec.ofNat 8 (ms / 256), BitVec.ofNat 8 ms, 0] ++ stopped 1 ++ [1, a] ++ zeros 7 ++ zeros 12)
  ∧ ∀ (n : Byte) (s : State), PortReady s →
    let answered := fun (r : Reply) => Host.Outcome.next (σ := State) (φ := Fault) (ρ := Refusal)
      { s with cpt := { s.cpt with replies := s.cpt.replies ++ [r] } }
    exec (.readState n false) s = answered (.item .state n (stateItem s))
    ∧ (∀ k, exec (.readTime k n false) s = answered (.item .time n (timeItem k s)))
    ∧ (∀ i : Slot, n.toNat = i.val → exec (.readPeer n false) s = answered (.item .peer n (peerItem i s)))
    ∧ (16 ≤ n.toNat → exec (.readPeer n false) s = answered (.refusal .badRequest 10 none))
    ∧ exec (.readSources n false) s = answered (.item .sources n (sourcesItem s))
    ∧ exec (.readAlarms n false) s = answered (.item .alarms n (alarmsItem s))
    ∧ exec (.readCounters n) s = answered (.item .counters n (countersItem s))
    ∧ (∀ c, (c = .readState n true ∨ (∃ k, c = .readTime k n true) ∨ c = .readPeer n true ∨ c = .readSources n true
          ∨ c = .readAlarms n true) → exec c s = answered (.refusal .badRequest 10 none))
    ∧ ∃ t, exec (.readCountersClear n) s = .next t
      ∧ t.cpt = { s.cpt with replies := s.cpt.replies ++ [.item .counters n (countersItem s)] }
      ∧ (∀ i : CounterId, t.counter i = 0)
      ∧ (∀ i : Slot, t.peer i = { s.peer i with frames := 0, gaps := 0, duplicates := 0 })
      ∧ SameOutside [.ptb, .cpt, .counters] s t

/-- NEXT EVENT answers with the number of the highest-priority pending event and how many stay pending, removes it, and
the lines follow: every event that stays has a higher number, in a set kept by priority as every step keeps it; with
none pending it answers 0 and 0 and changes nothing else. The message's command is its handling (log 10) (R186, R187).
-/
def Obligations.NextEventTaken : Prop :=
  (∀ (e : EventKind) (rest : List EventKind) (s : State), PortReady s → LawEvents s → s.cpt.events = e :: rest →
    (∀ x, x ∈ rest → e.number < x.number)
    ∧ ∃ t, exec .nextEvent s = .next t ∧ t.cpt.events = rest ∧ LawLines t
      ∧ t.cpt.replies = s.cpt.replies ++ [.event e.number rest.length]
      ∧ t.cpt = { s.cpt with replies := t.cpt.replies, events := rest, urgent := t.cpt.urgent
                             attention := t.cpt.attention }
      ∧ SameOutside [.cpt] s t)
  ∧ ∀ s : State, PortReady s → s.cpt.events = [] → exec .nextEvent s = .next
      { s with cpt := { s.cpt with replies := s.cpt.replies ++ [.event 0 0] } }

/-- The arbiter grants an idle link to the head REPLY, else to the head RESULT, else, with HOLD released, to the pool's
head frame, which is then in transfer; no bit of the message has gone out then. At its end, once its last bit has gone
out (before it the command changes nothing), a REPLY leaves the reply queue, a RESULT the results list, and a delivered
frame the pool with its units (R55, R56, R181, R182). -/
def Obligations.ArbiterAndTransfers : Prop :=
  (∀ s : State, s.cpt.outgoing = none → s.cpt.crst.level = false →
    (∀ r rest, s.cpt.replies = r :: rest → exec .arbiterGrant s = .next
      { s with cpt := { s.cpt with outgoing := some { message := .reply r, sent := 0 } } })
    ∧ (∀ r rest, s.cpt.replies = [] → s.cpt.results = r :: rest → exec .arbiterGrant s = .next
      { s with cpt := { s.cpt with outgoing := some { message := .result r, sent := 0 } } })
    ∧ (∀ f rest, s.cpt.replies = [] → s.cpt.results = [] → s.cpt.hold.level = false → s.rxp.frames = f :: rest →
        f.inTransfer = false → exec .arbiterGrant s = .next
          { s with
            cpt := { s.cpt with outgoing := some { message := .deliver f, sent := 0 } }
            rxp := { s.rxp with frames := { f with inTransfer := true } :: rest } })
    ∧ (s.cpt.replies = [] → s.cpt.results = [] → s.cpt.hold.level = true → exec .arbiterGrant s = .next s))
  ∧ (∀ (o : Outgoing) (c : Instr) (s : State), s.cpt.outgoing = some o → o.sent ≠ 8 * o.message.bytes.length →
      c = .replySent ∨ c = .resultTransferred ∨ c = .deliverComplete → exec c s = .next s)
  ∧ (∀ (r q : Reply) (rest : List Reply) (s : State),
      s.cpt.outgoing = some { message := .reply r, sent := 8 * (OutMessage.reply r).bytes.length } →
      s.cpt.replies = q :: rest →
      exec .replySent s = .next { s with cpt := { s.cpt with outgoing := none, replies := rest } })
  ∧ (∀ (r q : ResultEntry) (rest : List ResultEntry) (s : State),
      s.cpt.outgoing = some { message := .result r, sent := 8 * (OutMessage.result r).bytes.length } →
      s.cpt.results = q :: rest →
      exec .resultTransferred s = .next { s with cpt := { s.cpt with outgoing := none, results := rest } })
  ∧ (∀ (g f : StoredFrame) (rest : List StoredFrame) (s : State),
      s.cpt.outgoing = some { message := .deliver g, sent := 8 * (OutMessage.deliver g).bytes.length } →
      s.rxp.frames = f :: rest → f.inTransfer = true → ∃ t, exec .deliverComplete s = .next t
        ∧ t.rxp.frames = rest ∧ t.rxp.free = s.rxp.free + unitsFor f.payload.length ∧ t.rxp.refused = s.rxp.refused
        ∧ t.cpt.outgoing = none ∧ Counted .framesDelivered s t ∧ CountersSame [.framesDelivered] s t
        ∧ (s.rxp.refused ≠ [] → s.rxp.readyLevel ≤ t.rxp.free → t.rxp.readyOutstanding = true)
        ∧ SameOutside [.txs, .rxp, .cpt, .counters] s t)
  ∧ ∀ (g : StoredFrame) (s : State),
      s.cpt.outgoing = some { message := .deliver g, sent := 8 * (OutMessage.deliver g).bytes.length } →
      s.rxp.frames = [] →
      exec .deliverComplete s = .next { s with cpt := { s.cpt with outgoing := none } }
end

