-- ==== Sys2Proof/Laws/State.lean ====
section
/-! SUPPORT. One lemma a field for each update of the state, so that no proof unfolds a record update. -/

namespace Sys2Proof.Machine

open Sys2Proof

@[simp] theorem State.setSec_bau (s : State) (f : Sec → Sec) : (s.setSec f).bau = s.bau := by rfl
@[simp] theorem State.setSec_txs (s : State) (f : Sec → Sec) : (s.setSec f).txs = s.txs := by rfl
@[simp] theorem State.setSec_rxp (s : State) (f : Sec → Sec) : (s.setSec f).rxp = s.rxp := by rfl
@[simp] theorem State.setSec_ptb (s : State) (f : Sec → Sec) : (s.setSec f).ptb = s.ptb := by rfl
@[simp] theorem State.setSec_tmu (s : State) (f : Sec → Sec) : (s.setSec f).tmu = s.tmu := by rfl
@[simp] theorem State.setSec_src (s : State) (f : Sec → Sec) : (s.setSec f).src = s.src := by rfl
@[simp] theorem State.setSec_alu (s : State) (f : Sec → Sec) : (s.setSec f).alu = s.alu := by rfl
@[simp] theorem State.setSec_cpt (s : State) (f : Sec → Sec) : (s.setSec f).cpt = s.cpt := by rfl
@[simp] theorem State.setSec_stl (s : State) (f : Sec → Sec) : (s.setSec f).stl = s.stl := by rfl
@[simp] theorem State.setSec_counters (s : State) (f : Sec → Sec) : (s.setSec f).counters = s.counters := by rfl
@[simp] theorem State.setSec_pins (s : State) (f : Sec → Sec) : (s.setSec f).pins = s.pins := by rfl
@[simp] theorem State.setSec_pinsAhead (s : State) (f : Sec → Sec) : (s.setSec f).pinsAhead = s.pinsAhead := by rfl
@[simp] theorem State.setSec_pending (s : State) (f : Sec → Sec) : (s.setSec f).pending = s.pending := by rfl

@[simp] theorem State.setBau_txs (s : State) (f : Bau → Bau) : (s.setBau f).txs = s.txs := by rfl
@[simp] theorem State.setBau_rxp (s : State) (f : Bau → Bau) : (s.setBau f).rxp = s.rxp := by rfl
@[simp] theorem State.setBau_ptb (s : State) (f : Bau → Bau) : (s.setBau f).ptb = s.ptb := by rfl
@[simp] theorem State.setBau_tmu (s : State) (f : Bau → Bau) : (s.setBau f).tmu = s.tmu := by rfl
@[simp] theorem State.setBau_src (s : State) (f : Bau → Bau) : (s.setBau f).src = s.src := by rfl
@[simp] theorem State.setBau_sec (s : State) (f : Bau → Bau) : (s.setBau f).sec = s.sec := by rfl
@[simp] theorem State.setBau_alu (s : State) (f : Bau → Bau) : (s.setBau f).alu = s.alu := by rfl
@[simp] theorem State.setBau_cpt (s : State) (f : Bau → Bau) : (s.setBau f).cpt = s.cpt := by rfl
@[simp] theorem State.setBau_stl (s : State) (f : Bau → Bau) : (s.setBau f).stl = s.stl := by rfl
@[simp] theorem State.setBau_counters (s : State) (f : Bau → Bau) : (s.setBau f).counters = s.counters := by rfl
@[simp] theorem State.setBau_pins (s : State) (f : Bau → Bau) : (s.setBau f).pins = s.pins := by rfl
@[simp] theorem State.setBau_pinsAhead (s : State) (f : Bau → Bau) : (s.setBau f).pinsAhead = s.pinsAhead := by rfl
@[simp] theorem State.setBau_pending (s : State) (f : Bau → Bau) : (s.setBau f).pending = s.pending := by rfl

@[simp] theorem State.setCpt_bau (s : State) (f : Cpt → Cpt) : (s.setCpt f).bau = s.bau := by rfl
@[simp] theorem State.setCpt_txs (s : State) (f : Cpt → Cpt) : (s.setCpt f).txs = s.txs := by rfl
@[simp] theorem State.setCpt_rxp (s : State) (f : Cpt → Cpt) : (s.setCpt f).rxp = s.rxp := by rfl
@[simp] theorem State.setCpt_ptb (s : State) (f : Cpt → Cpt) : (s.setCpt f).ptb = s.ptb := by rfl
@[simp] theorem State.setCpt_tmu (s : State) (f : Cpt → Cpt) : (s.setCpt f).tmu = s.tmu := by rfl
@[simp] theorem State.setCpt_src (s : State) (f : Cpt → Cpt) : (s.setCpt f).src = s.src := by rfl
@[simp] theorem State.setCpt_sec (s : State) (f : Cpt → Cpt) : (s.setCpt f).sec = s.sec := by rfl
@[simp] theorem State.setCpt_alu (s : State) (f : Cpt → Cpt) : (s.setCpt f).alu = s.alu := by rfl
@[simp] theorem State.setCpt_stl (s : State) (f : Cpt → Cpt) : (s.setCpt f).stl = s.stl := by rfl
@[simp] theorem State.setCpt_counters (s : State) (f : Cpt → Cpt) : (s.setCpt f).counters = s.counters := by rfl
@[simp] theorem State.setCpt_pins (s : State) (f : Cpt → Cpt) : (s.setCpt f).pins = s.pins := by rfl
@[simp] theorem State.setCpt_pinsAhead (s : State) (f : Cpt → Cpt) : (s.setCpt f).pinsAhead = s.pinsAhead := by rfl
@[simp] theorem State.setCpt_pending (s : State) (f : Cpt → Cpt) : (s.setCpt f).pending = s.pending := by rfl

@[simp] theorem State.setPeer_bau (s : State) (i : Slot) (e : PeerEntry) : (s.setPeer i e).bau = s.bau := by rfl
@[simp] theorem State.setPeer_txs (s : State) (i : Slot) (e : PeerEntry) : (s.setPeer i e).txs = s.txs := by rfl
@[simp] theorem State.setPeer_rxp (s : State) (i : Slot) (e : PeerEntry) : (s.setPeer i e).rxp = s.rxp := by rfl
@[simp] theorem State.setPeer_tmu (s : State) (i : Slot) (e : PeerEntry) : (s.setPeer i e).tmu = s.tmu := by rfl
@[simp] theorem State.setPeer_src (s : State) (i : Slot) (e : PeerEntry) : (s.setPeer i e).src = s.src := by rfl
@[simp] theorem State.setPeer_sec (s : State) (i : Slot) (e : PeerEntry) : (s.setPeer i e).sec = s.sec := by rfl
@[simp] theorem State.setPeer_alu (s : State) (i : Slot) (e : PeerEntry) : (s.setPeer i e).alu = s.alu := by rfl
@[simp] theorem State.setPeer_cpt (s : State) (i : Slot) (e : PeerEntry) : (s.setPeer i e).cpt = s.cpt := by rfl
@[simp] theorem State.setPeer_stl (s : State) (i : Slot) (e : PeerEntry) : (s.setPeer i e).stl = s.stl := by rfl
@[simp] theorem State.setPeer_counters (s : State) (i : Slot) (e : PeerEntry) : (s.setPeer i e).counters = s.counters := by rfl
@[simp] theorem State.setPeer_pins (s : State) (i : Slot) (e : PeerEntry) : (s.setPeer i e).pins = s.pins := by rfl
@[simp] theorem State.setPeer_pinsAhead (s : State) (i : Slot) (e : PeerEntry) : (s.setPeer i e).pinsAhead = s.pinsAhead := by rfl
@[simp] theorem State.setPeer_pending (s : State) (i : Slot) (e : PeerEntry) : (s.setPeer i e).pending = s.pending := by rfl

@[simp] theorem State.setInput_bau (s : State) (n : Fin 8) (x : AlarmInput) : (s.setInput n x).bau = s.bau := by rfl
@[simp] theorem State.setInput_txs (s : State) (n : Fin 8) (x : AlarmInput) : (s.setInput n x).txs = s.txs := by rfl
@[simp] theorem State.setInput_rxp (s : State) (n : Fin 8) (x : AlarmInput) : (s.setInput n x).rxp = s.rxp := by rfl
@[simp] theorem State.setInput_ptb (s : State) (n : Fin 8) (x : AlarmInput) : (s.setInput n x).ptb = s.ptb := by rfl
@[simp] theorem State.setInput_tmu (s : State) (n : Fin 8) (x : AlarmInput) : (s.setInput n x).tmu = s.tmu := by rfl
@[simp] theorem State.setInput_src (s : State) (n : Fin 8) (x : AlarmInput) : (s.setInput n x).src = s.src := by rfl
@[simp] theorem State.setInput_sec (s : State) (n : Fin 8) (x : AlarmInput) : (s.setInput n x).sec = s.sec := by rfl
@[simp] theorem State.setInput_alu_table (s : State) (n : Fin 8) (x : AlarmInput) : (s.setInput n x).alu.table = s.alu.table := by rfl
@[simp] theorem State.setInput_alu_suppressed (s : State) (n : Fin 8) (x : AlarmInput) : (s.setInput n x).alu.suppressed = s.alu.suppressed := by rfl
@[simp] theorem State.setInput_alu_overflow (s : State) (n : Fin 8) (x : AlarmInput) : (s.setInput n x).alu.overflow = s.alu.overflow := by rfl
@[simp] theorem State.setInput_alu_summary (s : State) (n : Fin 8) (x : AlarmInput) : (s.setInput n x).alu.summary = s.alu.summary := by rfl
@[simp] theorem State.setInput_alu_intervalTimer (s : State) (n : Fin 8) (x : AlarmInput) : (s.setInput n x).alu.intervalTimer = s.alu.intervalTimer := by rfl
@[simp] theorem State.setInput_alu_holdOffTimer (s : State) (n : Fin 8) (x : AlarmInput) : (s.setInput n x).alu.holdOffTimer = s.alu.holdOffTimer := by rfl
@[simp] theorem State.setInput_alu_alertDrive (s : State) (n : Fin 8) (x : AlarmInput) : (s.setInput n x).alu.alertDrive = s.alu.alertDrive := by rfl
@[simp] theorem State.setInput_alu_alert (s : State) (n : Fin 8) (x : AlarmInput) : (s.setInput n x).alu.alert = s.alu.alert := by rfl
@[simp] theorem State.setInput_alu_collector (s : State) (n : Fin 8) (x : AlarmInput) : (s.setInput n x).alu.collector = s.alu.collector := by rfl
@[simp] theorem State.setInput_alu_crit (s : State) (n : Fin 8) (x : AlarmInput) : (s.setInput n x).alu.crit = s.alu.crit := by rfl
@[simp] theorem State.setInput_alu_maj (s : State) (n : Fin 8) (x : AlarmInput) : (s.setInput n x).alu.maj = s.alu.maj := by rfl
@[simp] theorem State.setInput_cpt (s : State) (n : Fin 8) (x : AlarmInput) : (s.setInput n x).cpt = s.cpt := by rfl
@[simp] theorem State.setInput_stl (s : State) (n : Fin 8) (x : AlarmInput) : (s.setInput n x).stl = s.stl := by rfl
@[simp] theorem State.setInput_counters (s : State) (n : Fin 8) (x : AlarmInput) : (s.setInput n x).counters = s.counters := by rfl
@[simp] theorem State.setInput_pins (s : State) (n : Fin 8) (x : AlarmInput) : (s.setInput n x).pins = s.pins := by rfl
@[simp] theorem State.setInput_pinsAhead (s : State) (n : Fin 8) (x : AlarmInput) : (s.setInput n x).pinsAhead = s.pinsAhead := by rfl
@[simp] theorem State.setInput_pending (s : State) (n : Fin 8) (x : AlarmInput) : (s.setInput n x).pending = s.pending := by rfl

@[simp] theorem State.setQueue_bau (s : State) (c : CardClass) (q : List QueueEntry) : (s.setQueue c q).bau = s.bau := by rfl
@[simp] theorem State.setQueue_txs_storeFree (s : State) (c : CardClass) (q : List QueueEntry) : (s.setQueue c q).txs.storeFree = s.txs.storeFree := by rfl
@[simp] theorem State.setQueue_txs_slots (s : State) (c : CardClass) (q : List QueueEntry) : (s.setQueue c q).txs.slots = s.txs.slots := by rfl
@[simp] theorem State.setQueue_txs_nextSeq (s : State) (c : CardClass) (q : List QueueEntry) : (s.setQueue c q).txs.nextSeq = s.txs.nextSeq := by rfl
@[simp] theorem State.setQueue_txs_lateTimer (s : State) (c : CardClass) (q : List QueueEntry) : (s.setQueue c q).txs.lateTimer = s.txs.lateTimer := by rfl
@[simp] theorem State.setQueue_txs_undeliverableTimer (s : State) (c : CardClass) (q : List QueueEntry) : (s.setQueue c q).txs.undeliverableTimer = s.txs.undeliverableTimer := by rfl
@[simp] theorem State.setQueue_txs_drainedReported (s : State) (c : CardClass) (q : List QueueEntry) : (s.setQueue c q).txs.drainedReported = s.txs.drainedReported := by rfl
@[simp] theorem State.setQueue_rxp (s : State) (c : CardClass) (q : List QueueEntry) : (s.setQueue c q).rxp = s.rxp := by rfl
@[simp] theorem State.setQueue_ptb (s : State) (c : CardClass) (q : List QueueEntry) : (s.setQueue c q).ptb = s.ptb := by rfl
@[simp] theorem State.setQueue_tmu (s : State) (c : CardClass) (q : List QueueEntry) : (s.setQueue c q).tmu = s.tmu := by rfl
@[simp] theorem State.setQueue_src (s : State) (c : CardClass) (q : List QueueEntry) : (s.setQueue c q).src = s.src := by rfl
@[simp] theorem State.setQueue_sec (s : State) (c : CardClass) (q : List QueueEntry) : (s.setQueue c q).sec = s.sec := by rfl
@[simp] theorem State.setQueue_alu (s : State) (c : CardClass) (q : List QueueEntry) : (s.setQueue c q).alu = s.alu := by rfl
@[simp] theorem State.setQueue_cpt (s : State) (c : CardClass) (q : List QueueEntry) : (s.setQueue c q).cpt = s.cpt := by rfl
@[simp] theorem State.setQueue_stl (s : State) (c : CardClass) (q : List QueueEntry) : (s.setQueue c q).stl = s.stl := by rfl
@[simp] theorem State.setQueue_counters (s : State) (c : CardClass) (q : List QueueEntry) : (s.setQueue c q).counters = s.counters := by rfl
@[simp] theorem State.setQueue_pins (s : State) (c : CardClass) (q : List QueueEntry) : (s.setQueue c q).pins = s.pins := by rfl
@[simp] theorem State.setQueue_pinsAhead (s : State) (c : CardClass) (q : List QueueEntry) : (s.setQueue c q).pinsAhead = s.pinsAhead := by rfl
@[simp] theorem State.setQueue_pending (s : State) (c : CardClass) (q : List QueueEntry) : (s.setQueue c q).pending = s.pending := by rfl

@[simp] theorem State.setSlots_bau (s : State) (t : Slots) : (s.setSlots t).bau = s.bau := by rfl
@[simp] theorem State.setSlots_txs_queues (s : State) (t : Slots) : (s.setSlots t).txs.queues = s.txs.queues := by rfl
@[simp] theorem State.setSlots_txs_storeFree (s : State) (t : Slots) : (s.setSlots t).txs.storeFree = s.txs.storeFree := by rfl
@[simp] theorem State.setSlots_txs_nextSeq (s : State) (t : Slots) : (s.setSlots t).txs.nextSeq = s.txs.nextSeq := by rfl
@[simp] theorem State.setSlots_txs_lateTimer (s : State) (t : Slots) : (s.setSlots t).txs.lateTimer = s.txs.lateTimer := by rfl
@[simp] theorem State.setSlots_txs_undeliverableTimer (s : State) (t : Slots) : (s.setSlots t).txs.undeliverableTimer = s.txs.undeliverableTimer := by rfl
@[simp] theorem State.setSlots_txs_drainedReported (s : State) (t : Slots) : (s.setSlots t).txs.drainedReported = s.txs.drainedReported := by rfl
@[simp] theorem State.setSlots_rxp (s : State) (t : Slots) : (s.setSlots t).rxp = s.rxp := by rfl
@[simp] theorem State.setSlots_ptb (s : State) (t : Slots) : (s.setSlots t).ptb = s.ptb := by rfl
@[simp] theorem State.setSlots_tmu (s : State) (t : Slots) : (s.setSlots t).tmu = s.tmu := by rfl
@[simp] theorem State.setSlots_src (s : State) (t : Slots) : (s.setSlots t).src = s.src := by rfl
@[simp] theorem State.setSlots_sec (s : State) (t : Slots) : (s.setSlots t).sec = s.sec := by rfl
@[simp] theorem State.setSlots_alu (s : State) (t : Slots) : (s.setSlots t).alu = s.alu := by rfl
@[simp] theorem State.setSlots_cpt (s : State) (t : Slots) : (s.setSlots t).cpt = s.cpt := by rfl
@[simp] theorem State.setSlots_stl (s : State) (t : Slots) : (s.setSlots t).stl = s.stl := by rfl
@[simp] theorem State.setSlots_counters (s : State) (t : Slots) : (s.setSlots t).counters = s.counters := by rfl
@[simp] theorem State.setSlots_pins (s : State) (t : Slots) : (s.setSlots t).pins = s.pins := by rfl
@[simp] theorem State.setSlots_pinsAhead (s : State) (t : Slots) : (s.setSlots t).pinsAhead = s.pinsAhead := by rfl
@[simp] theorem State.setSlots_pending (s : State) (t : Slots) : (s.setSlots t).pending = s.pending := by rfl

@[simp] theorem State.setTable_bau (s : State) (l : List SourceEntry) : (s.setTable l).bau = s.bau := by rfl
@[simp] theorem State.setTable_txs (s : State) (l : List SourceEntry) : (s.setTable l).txs = s.txs := by rfl
@[simp] theorem State.setTable_rxp (s : State) (l : List SourceEntry) : (s.setTable l).rxp = s.rxp := by rfl
@[simp] theorem State.setTable_ptb (s : State) (l : List SourceEntry) : (s.setTable l).ptb = s.ptb := by rfl
@[simp] theorem State.setTable_tmu (s : State) (l : List SourceEntry) : (s.setTable l).tmu = s.tmu := by rfl
@[simp] theorem State.setTable_src_quality (s : State) (l : List SourceEntry) : (s.setTable l).src.quality = s.src.quality := by rfl
@[simp] theorem State.setTable_src_priority (s : State) (l : List SourceEntry) : (s.setTable l).src.priority = s.src.priority := by rfl
@[simp] theorem State.setTable_src_capable (s : State) (l : List SourceEntry) : (s.setTable l).src.capable = s.src.capable := by rfl
@[simp] theorem State.setTable_src_selection (s : State) (l : List SourceEntry) : (s.setTable l).src.selection = s.src.selection := by rfl
@[simp] theorem State.setTable_src_role (s : State) (l : List SourceEntry) : (s.setTable l).src.role = s.src.role := by rfl
@[simp] theorem State.setTable_src_announceTimer (s : State) (l : List SourceEntry) : (s.setTable l).src.announceTimer = s.src.announceTimer := by rfl
@[simp] theorem State.setTable_src_syncTimeout (s : State) (l : List SourceEntry) : (s.setTable l).src.syncTimeout = s.src.syncTimeout := by rfl
@[simp] theorem State.setTable_src_refTimeout (s : State) (l : List SourceEntry) : (s.setTable l).src.refTimeout = s.src.refTimeout := by rfl
@[simp] theorem State.setTable_src_refSeen (s : State) (l : List SourceEntry) : (s.setTable l).src.refSeen = s.src.refSeen := by rfl
@[simp] theorem State.setTable_src_sourceLost (s : State) (l : List SourceEntry) : (s.setTable l).src.sourceLost = s.src.sourceLost := by rfl
@[simp] theorem State.setTable_sec (s : State) (l : List SourceEntry) : (s.setTable l).sec = s.sec := by rfl
@[simp] theorem State.setTable_alu (s : State) (l : List SourceEntry) : (s.setTable l).alu = s.alu := by rfl
@[simp] theorem State.setTable_cpt (s : State) (l : List SourceEntry) : (s.setTable l).cpt = s.cpt := by rfl
@[simp] theorem State.setTable_stl (s : State) (l : List SourceEntry) : (s.setTable l).stl = s.stl := by rfl
@[simp] theorem State.setTable_counters (s : State) (l : List SourceEntry) : (s.setTable l).counters = s.counters := by rfl
@[simp] theorem State.setTable_pins (s : State) (l : List SourceEntry) : (s.setTable l).pins = s.pins := by rfl
@[simp] theorem State.setTable_pinsAhead (s : State) (l : List SourceEntry) : (s.setTable l).pinsAhead = s.pinsAhead := by rfl
@[simp] theorem State.setTable_pending (s : State) (l : List SourceEntry) : (s.setTable l).pending = s.pending := by rfl

@[simp] theorem State.withPending_bau (s : State) (q : List Instr) : (s.withPending q).bau = s.bau := by rfl
@[simp] theorem State.withPending_txs (s : State) (q : List Instr) : (s.withPending q).txs = s.txs := by rfl
@[simp] theorem State.withPending_rxp (s : State) (q : List Instr) : (s.withPending q).rxp = s.rxp := by rfl
@[simp] theorem State.withPending_ptb (s : State) (q : List Instr) : (s.withPending q).ptb = s.ptb := by rfl
@[simp] theorem State.withPending_tmu (s : State) (q : List Instr) : (s.withPending q).tmu = s.tmu := by rfl
@[simp] theorem State.withPending_src (s : State) (q : List Instr) : (s.withPending q).src = s.src := by rfl
@[simp] theorem State.withPending_sec (s : State) (q : List Instr) : (s.withPending q).sec = s.sec := by rfl
@[simp] theorem State.withPending_alu (s : State) (q : List Instr) : (s.withPending q).alu = s.alu := by rfl
@[simp] theorem State.withPending_cpt (s : State) (q : List Instr) : (s.withPending q).cpt = s.cpt := by rfl
@[simp] theorem State.withPending_stl (s : State) (q : List Instr) : (s.withPending q).stl = s.stl := by rfl
@[simp] theorem State.withPending_counters (s : State) (q : List Instr) : (s.withPending q).counters = s.counters := by rfl

/-! ### What an update puts in -/

@[simp] theorem State.setSec_sec (s : State) (f : Sec → Sec) : (s.setSec f).sec = f s.sec := by rfl
@[simp] theorem State.setBau_bau (s : State) (f : Bau → Bau) : (s.setBau f).bau = f s.bau := by rfl
@[simp] theorem State.setCpt_cpt (s : State) (f : Cpt → Cpt) : (s.setCpt f).cpt = f s.cpt := by rfl
@[simp] theorem State.setSlots_txs_slots' (s : State) (t : Slots) : (s.setSlots t).txs.slots = t := by rfl
@[simp] theorem State.setTable_src_table' (s : State) (l : List SourceEntry) : (s.setTable l).src.table = l := by rfl
@[simp] theorem State.withPending_pending' (s : State) (q : List Instr) : (s.withPending q).pending = q := by rfl

/-- Reading a peer entry just written. -/
@[simp] theorem State.peer_setPeer (s : State) (i : Slot) (e : PeerEntry) : (s.setPeer i e).peer i = e := by
  simp [State.peer, State.setPeer]

/-- A write of one peer entry leaves every other. -/
theorem State.peer_setPeer_ne (s : State) {i j : Slot} (e : PeerEntry) (h : j ≠ i) :
    (s.setPeer i e).peer j = s.peer j := by
  have : i.val ≠ j.val := fun h' => h (Fin.ext h').symm
  simp [State.peer, State.setPeer, this]

/-- Reading an input just written. -/
@[simp] theorem State.input_setInput (s : State) (n : Fin 8) (x : AlarmInput) : (s.setInput n x).input n = x := by
  simp [State.input, State.setInput]

/-- A write of one input leaves every other. -/
theorem State.input_setInput_ne (s : State) {n m : Fin 8} (x : AlarmInput) (h : m ≠ n) :
    (s.setInput n x).input m = s.input m := by
  have : n.val ≠ m.val := fun h' => h (Fin.ext h').symm
  simp [State.input, State.setInput, this]

@[simp] theorem PerClass.get_set {α : Type} (p : PerClass α) (c : CardClass) (x : α) : (p.set c x).get c = x := by
  cases c <;> rfl

theorem PerClass.get_set_ne {α : Type} (p : PerClass α) {c d : CardClass} (x : α) (h : d ≠ c) :
    (p.set c x).get d = p.get d := by
  cases c <;> cases d <;> first | rfl | exact absurd rfl h

@[simp] theorem PerClass.get_all {α : Type} (x : α) (c : CardClass) : (PerClass.all x).get c = x := by cases c <;> rfl

/-- Per-class values are equal when they agree on every class. -/
theorem PerClass.ext_get {α : Type} {p q : PerClass α} (h : ∀ c, p.get c = q.get c) : p = q := by
  have h1 := h .control; have h2 := h .deadline; have h3 := h .bulk
  cases p; cases q; simp [PerClass.get] at h1 h2 h3; simp [h1, h2, h3]

/-- Reading a queue just written. -/
@[simp] theorem State.queue_setQueue (s : State) (c : CardClass) (q : List QueueEntry) : (s.setQueue c q).queue c = q := by
  simp [State.queue, State.setQueue]

/-- A write of one queue leaves the others. -/
theorem State.queue_setQueue_ne (s : State) {c d : CardClass} (q : List QueueEntry) (h : d ≠ c) :
    (s.setQueue c q).queue d = s.queue d := by
  simp [State.queue, State.setQueue, PerClass.get_set_ne _ _ h]

@[simp] theorem Slots.get_set (t : Slots) (k : InternalKind) (x : SlotState) : (t.set k x).get k = x := by
  cases k <;> rfl

theorem Slots.get_set_ne (t : Slots) {k j : InternalKind} (x : SlotState) (h : j ≠ k) : (t.set k x).get j = t.get j := by
  cases k <;> cases j <;> first | rfl | exact absurd rfl h

/-- The peer table after a write of one entry. -/
@[simp] theorem State.setPeer_ptb_getElem (s : State) (i j : Slot) (e : PeerEntry) (hj : j.val < 16) :
    (s.setPeer i e).ptb[j.val]'hj = if j = i then e else s.ptb[j.val]'hj := by
  by_cases h : j = i
  · subst h; simpa [State.peer] using State.peer_setPeer s j e
  · simpa [State.peer, h] using State.peer_setPeer_ne s e h

/-- The inputs after a write of one of them. -/
@[simp] theorem State.setInput_inputs_getElem (s : State) (n m : Fin 8) (x : AlarmInput) (hm : m.val < 8) :
    (s.setInput n x).alu.inputs[m.val]'hm = if m = n then x else s.alu.inputs[m.val]'hm := by
  by_cases h : m = n
  · subst h; simpa [State.input] using State.input_setInput s m x
  · simpa [State.input, h] using State.input_setInput_ne s x h

/-- The queues after a write of one of them. -/
@[simp] theorem State.setQueue_queues_get (s : State) (c d : CardClass) (q : List QueueEntry) :
    (s.setQueue c q).txs.queues.get d = if d = c then q else s.txs.queues.get d := by
  by_cases h : d = c
  · subst h; simpa [State.queue] using State.queue_setQueue s d q
  · simpa [State.queue, h] using State.queue_setQueue_ne s q h


end Sys2Proof.Machine
end

