-- ==== Sys2Proof/Laws/Ops.lean ====
section
/-! SUPPORT. What each operation of the shared operations leaves as it was, and what it does. -/

namespace Sys2Proof.Machine

open Sys2Proof

/-! ### Frames -/

@[simp] theorem signal_frame (s : State) (e : EventKind) :
    (signal e s).bau = s.bau ∧ (signal e s).txs = s.txs ∧ (signal e s).rxp = s.rxp ∧ (signal e s).ptb = s.ptb ∧
    (signal e s).tmu = s.tmu ∧ (signal e s).src = s.src ∧ (signal e s).sec = s.sec ∧ (signal e s).alu = s.alu ∧
    (signal e s).cpt.bits = s.cpt.bits ∧
    (signal e s).cpt.parser = s.cpt.parser ∧ (signal e s).cpt.incoming = s.cpt.incoming ∧
    (signal e s).cpt.replies = s.cpt.replies ∧ (signal e s).cpt.outgoing = s.cpt.outgoing ∧
    (signal e s).cpt.results = s.cpt.results ∧ (signal e s).cpt.eventMap = s.cpt.eventMap ∧
    (signal e s).cpt.hold = s.cpt.hold ∧ (signal e s).cpt.crst = s.cpt.crst ∧ (signal e s).stl = s.stl ∧
    (signal e s).counters = s.counters ∧ (signal e s).pins = s.pins ∧ (signal e s).pinsAhead = s.pinsAhead ∧
    (signal e s).pending = s.pending := by
  unfold signal Cpt.refreshLines; simp

@[simp] theorem bumpBy_frame (s : State) (i : CounterId) (k : Nat) :
    (bumpBy i k s).bau = s.bau ∧ (bumpBy i k s).txs = s.txs ∧ (bumpBy i k s).rxp = s.rxp ∧
    (bumpBy i k s).ptb = s.ptb ∧ (bumpBy i k s).tmu = s.tmu ∧ (bumpBy i k s).src = s.src ∧
    (bumpBy i k s).sec = s.sec ∧ (bumpBy i k s).alu = s.alu ∧ (bumpBy i k s).cpt.bits = s.cpt.bits ∧
    (bumpBy i k s).cpt.parser = s.cpt.parser ∧
    (bumpBy i k s).cpt.incoming = s.cpt.incoming ∧ (bumpBy i k s).cpt.replies = s.cpt.replies ∧
    (bumpBy i k s).cpt.outgoing = s.cpt.outgoing ∧ (bumpBy i k s).cpt.results = s.cpt.results ∧
    (bumpBy i k s).cpt.eventMap = s.cpt.eventMap ∧ (bumpBy i k s).cpt.hold = s.cpt.hold ∧
    (bumpBy i k s).cpt.crst = s.cpt.crst ∧ (bumpBy i k s).stl = s.stl ∧ (bumpBy i k s).pins = s.pins ∧
    (bumpBy i k s).pinsAhead = s.pinsAhead ∧
    (bumpBy i k s).pending = s.pending := by
  unfold bumpBy; dsimp only; (repeat' split) <;> simp

@[simp] theorem bump_frame (s : State) (i : CounterId) :
    (bump i s).bau = s.bau ∧ (bump i s).txs = s.txs ∧ (bump i s).rxp = s.rxp ∧ (bump i s).ptb = s.ptb ∧
    (bump i s).tmu = s.tmu ∧ (bump i s).src = s.src ∧ (bump i s).sec = s.sec ∧ (bump i s).alu = s.alu ∧
    (bump i s).cpt.bits = s.cpt.bits ∧
    (bump i s).cpt.parser = s.cpt.parser ∧ (bump i s).cpt.incoming = s.cpt.incoming ∧
    (bump i s).cpt.replies = s.cpt.replies ∧ (bump i s).cpt.outgoing = s.cpt.outgoing ∧
    (bump i s).cpt.results = s.cpt.results ∧ (bump i s).cpt.eventMap = s.cpt.eventMap ∧
    (bump i s).cpt.hold = s.cpt.hold ∧ (bump i s).cpt.crst = s.cpt.crst ∧ (bump i s).stl = s.stl ∧
    (bump i s).pins = s.pins ∧ (bump i s).pinsAhead = s.pinsAhead ∧
    (bump i s).pending = s.pending := by
  unfold bump; simp

@[simp] theorem signalIfSaturated_frame (s : State) (o n : Counter) :
    (signalIfSaturated o n s).bau = s.bau ∧ (signalIfSaturated o n s).txs = s.txs ∧
    (signalIfSaturated o n s).rxp = s.rxp ∧ (signalIfSaturated o n s).ptb = s.ptb ∧
    (signalIfSaturated o n s).tmu = s.tmu ∧ (signalIfSaturated o n s).src = s.src ∧
    (signalIfSaturated o n s).sec = s.sec ∧ (signalIfSaturated o n s).alu = s.alu ∧
    (signalIfSaturated o n s).cpt.bits = s.cpt.bits ∧
    (signalIfSaturated o n s).cpt.parser = s.cpt.parser ∧ (signalIfSaturated o n s).cpt.incoming = s.cpt.incoming ∧
    (signalIfSaturated o n s).cpt.replies = s.cpt.replies ∧
    (signalIfSaturated o n s).cpt.outgoing = s.cpt.outgoing ∧
    (signalIfSaturated o n s).cpt.results = s.cpt.results ∧
    (signalIfSaturated o n s).cpt.eventMap = s.cpt.eventMap ∧ (signalIfSaturated o n s).cpt.hold = s.cpt.hold ∧
    (signalIfSaturated o n s).cpt.crst = s.cpt.crst ∧ (signalIfSaturated o n s).stl = s.stl ∧
    (signalIfSaturated o n s).counters = s.counters ∧ (signalIfSaturated o n s).pins = s.pins ∧
    (signalIfSaturated o n s).pinsAhead = s.pinsAhead ∧
    (signalIfSaturated o n s).pending = s.pending := by
  unfold signalIfSaturated; (repeat' split) <;> simp

@[simp] theorem countFrame_frame (s : State) (i : Slot) :
    (countFrame i s).bau = s.bau ∧ (countFrame i s).txs = s.txs ∧ (countFrame i s).rxp = s.rxp ∧
    (countFrame i s).tmu = s.tmu ∧ (countFrame i s).src = s.src ∧ (countFrame i s).sec = s.sec ∧
    (countFrame i s).alu = s.alu ∧ (countFrame i s).cpt.bits = s.cpt.bits ∧
    (countFrame i s).cpt.parser = s.cpt.parser ∧
    (countFrame i s).cpt.incoming = s.cpt.incoming ∧ (countFrame i s).cpt.replies = s.cpt.replies ∧
    (countFrame i s).cpt.outgoing = s.cpt.outgoing ∧ (countFrame i s).cpt.results = s.cpt.results ∧
    (countFrame i s).cpt.eventMap = s.cpt.eventMap ∧ (countFrame i s).cpt.hold = s.cpt.hold ∧
    (countFrame i s).cpt.crst = s.cpt.crst ∧ (countFrame i s).stl = s.stl ∧ (countFrame i s).counters = s.counters ∧
    (countFrame i s).pins = s.pins ∧ (countFrame i s).pinsAhead = s.pinsAhead ∧
    (countFrame i s).pending = s.pending := by
  unfold countFrame; dsimp only; simp

@[simp] theorem countGap_frame (s : State) (i : Slot) (k : Nat) :
    (countGap i k s).bau = s.bau ∧ (countGap i k s).txs = s.txs ∧ (countGap i k s).rxp = s.rxp ∧
    (countGap i k s).tmu = s.tmu ∧ (countGap i k s).src = s.src ∧ (countGap i k s).sec = s.sec ∧
    (countGap i k s).alu = s.alu ∧ (countGap i k s).cpt.bits = s.cpt.bits ∧
    (countGap i k s).cpt.parser = s.cpt.parser ∧
    (countGap i k s).cpt.incoming = s.cpt.incoming ∧ (countGap i k s).cpt.replies = s.cpt.replies ∧
    (countGap i k s).cpt.outgoing = s.cpt.outgoing ∧ (countGap i k s).cpt.results = s.cpt.results ∧
    (countGap i k s).cpt.eventMap = s.cpt.eventMap ∧ (countGap i k s).cpt.hold = s.cpt.hold ∧
    (countGap i k s).cpt.crst = s.cpt.crst ∧ (countGap i k s).stl = s.stl ∧ (countGap i k s).counters = s.counters ∧
    (countGap i k s).pins = s.pins ∧ (countGap i k s).pinsAhead = s.pinsAhead ∧
    (countGap i k s).pending = s.pending := by
  unfold countGap; dsimp only; simp

@[simp] theorem countDuplicate_frame (s : State) (i : Slot) :
    (countDuplicate i s).bau = s.bau ∧ (countDuplicate i s).txs = s.txs ∧ (countDuplicate i s).rxp = s.rxp ∧
    (countDuplicate i s).tmu = s.tmu ∧ (countDuplicate i s).src = s.src ∧ (countDuplicate i s).sec = s.sec ∧
    (countDuplicate i s).alu = s.alu ∧ (countDuplicate i s).cpt.bits = s.cpt.bits ∧
    (countDuplicate i s).cpt.parser = s.cpt.parser ∧
    (countDuplicate i s).cpt.incoming = s.cpt.incoming ∧ (countDuplicate i s).cpt.replies = s.cpt.replies ∧
    (countDuplicate i s).cpt.outgoing = s.cpt.outgoing ∧ (countDuplicate i s).cpt.results = s.cpt.results ∧
    (countDuplicate i s).cpt.eventMap = s.cpt.eventMap ∧ (countDuplicate i s).cpt.hold = s.cpt.hold ∧
    (countDuplicate i s).cpt.crst = s.cpt.crst ∧ (countDuplicate i s).stl = s.stl ∧
    (countDuplicate i s).counters = s.counters ∧ (countDuplicate i s).pins = s.pins ∧
    (countDuplicate i s).pinsAhead = s.pinsAhead ∧
    (countDuplicate i s).pending = s.pending := by
  unfold countDuplicate; dsimp only; simp

@[simp] theorem request_frame (s : State) (k : InternalKind) :
    (request k s).bau = s.bau ∧ (request k s).txs.queues = s.txs.queues ∧
    (request k s).txs.storeFree = s.txs.storeFree ∧ (request k s).txs.nextSeq = s.txs.nextSeq ∧
    (request k s).txs.lateTimer = s.txs.lateTimer ∧
    (request k s).txs.undeliverableTimer = s.txs.undeliverableTimer ∧
    (request k s).txs.drainedReported = s.txs.drainedReported ∧ (request k s).rxp = s.rxp ∧
    (request k s).ptb = s.ptb ∧ (request k s).tmu = s.tmu ∧ (request k s).src = s.src ∧ (request k s).sec = s.sec ∧
    (request k s).alu = s.alu ∧ (request k s).cpt = s.cpt ∧ (request k s).stl = s.stl ∧
    (request k s).counters = s.counters ∧ (request k s).pins = s.pins ∧ (request k s).pinsAhead = s.pinsAhead ∧
    (request k s).pending = s.pending := by
  unfold request; simp

@[simp] theorem requestWithdraw_frame (s : State) (c : WithdrawCause) :
    (requestWithdraw c s).bau = s.bau ∧ (requestWithdraw c s).txs.queues = s.txs.queues ∧
    (requestWithdraw c s).txs.storeFree = s.txs.storeFree ∧ (requestWithdraw c s).txs.nextSeq = s.txs.nextSeq ∧
    (requestWithdraw c s).txs.lateTimer = s.txs.lateTimer ∧
    (requestWithdraw c s).txs.undeliverableTimer = s.txs.undeliverableTimer ∧
    (requestWithdraw c s).txs.drainedReported = s.txs.drainedReported ∧ (requestWithdraw c s).rxp = s.rxp ∧
    (requestWithdraw c s).ptb = s.ptb ∧ (requestWithdraw c s).tmu = s.tmu ∧ (requestWithdraw c s).src = s.src ∧
    (requestWithdraw c s).sec = s.sec ∧ (requestWithdraw c s).alu = s.alu ∧ (requestWithdraw c s).cpt = s.cpt ∧
    (requestWithdraw c s).stl = s.stl ∧ (requestWithdraw c s).counters = s.counters ∧
    (requestWithdraw c s).pins = s.pins ∧ (requestWithdraw c s).pinsAhead = s.pinsAhead ∧
    (requestWithdraw c s).pending = s.pending := by
  unfold requestWithdraw; dsimp only; simp

@[simp] theorem requestGone_frame (s : State) (forced : Bool) :
    (requestGone forced s).bau = s.bau ∧ (requestGone forced s).txs.queues = s.txs.queues ∧
    (requestGone forced s).txs.storeFree = s.txs.storeFree ∧ (requestGone forced s).txs.nextSeq = s.txs.nextSeq ∧
    (requestGone forced s).txs.lateTimer = s.txs.lateTimer ∧
    (requestGone forced s).txs.undeliverableTimer = s.txs.undeliverableTimer ∧
    (requestGone forced s).txs.drainedReported = s.txs.drainedReported ∧ (requestGone forced s).rxp = s.rxp ∧
    (requestGone forced s).ptb = s.ptb ∧ (requestGone forced s).tmu = s.tmu ∧ (requestGone forced s).src = s.src ∧
    (requestGone forced s).sec = s.sec ∧ (requestGone forced s).alu = s.alu ∧ (requestGone forced s).cpt = s.cpt ∧
    (requestGone forced s).stl = s.stl ∧ (requestGone forced s).counters = s.counters ∧
    (requestGone forced s).pins = s.pins ∧ (requestGone forced s).pinsAhead = s.pinsAhead ∧
    (requestGone forced s).pending = s.pending := by
  unfold requestGone; dsimp only; simp

/-! ### Effects -/

/-- The pending set after an event is placed in it (R186). -/
@[simp] theorem mem_insertEvent (a e : EventKind) (l : List EventKind) : e ∈ insertEvent a l ↔ e = a ∨ e ∈ l := by
  have : e ∈ eventCatalogue := by cases e <;> decide
  simp [insertEvent, this]

@[simp] theorem signal_cpt_events (s : State) (e : EventKind) :
    (signal e s).cpt.events = insertEvent e s.cpt.events := rfl

/-- Signalling an event brings the notice lines up to date (R186). -/
theorem signal_lawLines (s : State) (e : EventKind) : LawLines (signal e s) := ⟨rfl, rfl⟩

/-- The counters after an addition to one of them (R18). -/
theorem counter_bumpBy (i j : CounterId) (k : Nat) (s : State) :
    (bumpBy i k s).counter j = if j = i then satAdd (s.counter i) k else s.counter j := by
  have hc : ∀ e t, (signal e t).counter j = t.counter j := fun e t => by simp [State.counter]
  have hs : ∀ v, ({ s with counters := s.counters.set i.index.val v i.index.isLt } : State).counter j
      = if j = i then v else s.counter j := by
    intro v
    by_cases h : j = i
    · subst h; simp [State.counter]
    · have : i.index.val ≠ j.index.val := by cases i <;> cases j <;> first | exact absurd rfl h | decide
      simp [State.counter, h, this]
  unfold bumpBy
  dsimp only
  split <;> simp [hc, hs]

theorem counter_bump (i j : CounterId) (s : State) :
    (bump i s).counter j = if j = i then satAdd (s.counter i) 1 else s.counter j := counter_bumpBy i j 1 s

/-- The counters after an addition to one of them, each by its place (R18). -/
@[simp] theorem bumpBy_counters_getElem (i j : CounterId) (k : Nat) (s : State) (h : j.index.val < 41) :
    (bumpBy i k s).counters[j.index.val]'h = if j = i then satAdd s.counters[i.index.val] k else s.counters[j.index.val]'h :=
  counter_bumpBy i j k s

@[simp] theorem bump_counters_getElem (i j : CounterId) (s : State) (h : j.index.val < 41) :
    (bump i s).counters[j.index.val]'h = if j = i then satAdd s.counters[i.index.val] 1 else s.counters[j.index.val]'h :=
  counter_bumpBy i j 1 s

/-- A counter of two states whose counters are the same. -/
theorem counter_congr {s t : State} (h : t.counters = s.counters) (i : CounterId) : t.counter i = s.counter i := by
  simp [State.counter, h]

@[simp] theorem satAdd_zero (c : Counter) : satAdd c 0 = c := by
  apply Fin.ext
  have := c.isLt
  simp [satAdd, Fin.ofNat]
  omega

/-- Additions to a saturating counter add up (R18). -/
theorem satAdd_satAdd (c : Counter) (a b : Nat) : satAdd (satAdd c a) b = satAdd c (a + b) := by
  apply Fin.ext
  have := c.isLt
  simp [satAdd, Fin.ofNat]
  omega

/-- A block of the state that no listed block is, is the same. -/
theorem sameOutside_trans {l : List Block} {s t u : State} (h : SameOutside l s t) (h' : SameOutside l t u) :
    SameOutside l s u := by
  intro b hb
  have h1 := h b hb; have h2 := h' b hb
  cases b <;> simp_all [Block.same]

theorem onlyEventsPlaced_refl (s : State) : OnlyEventsPlaced s s := ⟨rfl, fun _ h => h⟩

theorem onlyEventsPlaced_trans {s t u : State} (h : OnlyEventsPlaced s t) (h' : OnlyEventsPlaced t u) :
    OnlyEventsPlaced s u := by
  refine ⟨?_, fun e he => h'.2 e (h.2 e he)⟩
  have a := h.1; have b := h'.1
  rw [b]; rw [a]


/-! ### No operation takes an event out of the pending set (R186) -/

@[simp] theorem signal_events (s : State) (e : EventKind) {a : EventKind} (h : a ∈ s.cpt.events) :
    a ∈ (signal e s).cpt.events := by
  simp [h]

@[simp] theorem bumpBy_events (s : State) (i : CounterId) (k : Nat) {a : EventKind} (h : a ∈ s.cpt.events) :
    a ∈ (bumpBy i k s).cpt.events := by
  unfold bumpBy; dsimp only; (repeat' split) <;>
    (repeat (first | with_reducible apply signal_events | simp [h] | exact h))

@[simp] theorem bump_events (s : State) (i : CounterId) {a : EventKind} (h : a ∈ s.cpt.events) :
    a ∈ (bump i s).cpt.events := by
  unfold bump;
    (repeat (first | with_reducible apply bumpBy_events | simp [h] | exact h))

@[simp] theorem signalIfSaturated_events (s : State) (o n : Counter) {a : EventKind} (h : a ∈ s.cpt.events) :
    a ∈ (signalIfSaturated o n s).cpt.events := by
  unfold signalIfSaturated; (repeat' split) <;>
    (repeat (first | with_reducible apply signal_events | simp [h] | exact h))

@[simp] theorem countFrame_events (s : State) (i : Slot) {a : EventKind} (h : a ∈ s.cpt.events) :
    a ∈ (countFrame i s).cpt.events := by
  unfold countFrame; dsimp only;
    (repeat (first | with_reducible apply signalIfSaturated_events | simp [h] | exact h))

@[simp] theorem countGap_events (s : State) (i : Slot) (k : Nat) {a : EventKind} (h : a ∈ s.cpt.events) :
    a ∈ (countGap i k s).cpt.events := by
  unfold countGap; dsimp only;
    (repeat (first | with_reducible apply signalIfSaturated_events | simp [h] | exact h))

@[simp] theorem countDuplicate_events (s : State) (i : Slot) {a : EventKind} (h : a ∈ s.cpt.events) :
    a ∈ (countDuplicate i s).cpt.events := by
  unfold countDuplicate; dsimp only;
    (repeat (first | with_reducible apply signalIfSaturated_events | simp [h] | exact h))

/-! ### Filters -/

theorem Conditioner.due_iff (c : Conditioner) (level : Bool) : c.due level = true ↔ Held c level := by
  cases c; simp [Conditioner.due, Held]

theorem AlarmInput.due_iff (x : AlarmInput) (level : Bool) : x.due level = true ↔ InputHeld x level := by
  unfold AlarmInput.due InputHeld AlarmInput.pinAsserted
  exact decide_eq_true_iff

/-- What a filter's count is after a tick (R128, R153). -/
theorem filterCount_sampled (length : Nat) (settled : Bool) (count : Timer) :
    CountSampled length (settled = true) count (filterCount length settled count) := by
  cases settled <;> cases count <;> simp [CountSampled, filterCount]

/-- What a sampled filter is after a tick (R128, R129). -/
theorem Conditioner.sample_sampled (up down : Nat) (pin : Bool) (c : Conditioner) :
    Sampled up down pin c (c.sample up down pin) := by
  have h := filterCount_sampled (if pin then up else down) (pin == c.level) c.count
  simp only [beq_iff_eq] at h
  exact ⟨rfl, rfl, h⟩

/-- What a filter behind a synchroniser is after a tick (R171, R183, R188). -/
theorem Synchronised.sample_sampled (length : Nat) (pin : Bool) (c : Synchronised) :
    SampledThrough length pin c (c.sample length length pin) :=
  ⟨rfl, c.toConditioner.sample_sampled length length c.stage⟩

@[simp] theorem Synchronised.take_stage (level : Bool) (c : Synchronised) : (c.take level).stage = c.stage := rfl
@[simp] theorem Synchronised.take_level (level : Bool) (c : Synchronised) : (c.take level).level = level := rfl

/-! ### The outgoing direction (R175, R181) -/

/-- Fill is bits of 0 (R199). -/
@[simp] theorem fillBits_eq (n : Nat) : fillBits n = List.replicate n false := by
  have h (k : Nat) : bitsOf (List.replicate k fillByte) = List.replicate (8 * k) false := by
    induction k with
    | zero => rfl
    | succ k ih =>
      rw [List.replicate_succ, show bitsOf (fillByte :: List.replicate k fillByte)
        = byteBits fillByte ++ bitsOf (List.replicate k fillByte) from rfl, ih,
        show byteBits fillByte = List.replicate 8 false from by decide, List.replicate_append_replicate]
      congr 1
      omega
  rw [fillBits, h, List.take_replicate]
  congr 1
  omega

/-- Edges move what has gone out of a message, never its message, and never past its last bit (R175). -/
theorem Outgoing.clocked_message (phase edges : Nat) (o : Outgoing) : (o.clocked phase edges).message = o.message := rfl
theorem Outgoing.clocked_sent_le (phase edges : Nat) (o : Outgoing) :
    (o.clocked phase edges).sent ≤ 8 * o.message.bytes.length := Nat.min_le_right ..

/-- A message whose last bit has gone out is finished (R181). -/
theorem Cpt.finished_of_whole {c : Cpt} {o : Outgoing} (h : c.outgoing = some o)
    (hw : o.sent = 8 * o.message.bytes.length) : c.finished = some o.message := by
  simp [Cpt.finished, h, Option.filter, Outgoing.whole, hw]

/-- A message of which a bit is still to go out is not (R181). -/
theorem Cpt.finished_of_not_whole {c : Cpt} {o : Outgoing} (h : c.outgoing = some o)
    (hw : o.sent ≠ 8 * o.message.bytes.length) : c.finished = none := by
  simp [Cpt.finished, h, Option.filter, Outgoing.whole, hw]

/-! ### Bits and bytes -/

theorem bytesOf_byteBits (b : Byte) (more : List Bool) : bytesOf (byteBits b ++ more) = b :: bytesOf more := by
  have h : BitVec.ofNat 8 (natOfBits (byteBits b)) = b := by revert b; decide +kernel
  simp only [byteBits, List.map_cons, List.map_nil, List.cons_append, List.nil_append, bytesOf] at *
  rw [h]

/-- The bytes of bits sent are the bytes sent (R199). -/
@[simp] theorem bytesOf_bitsOf (bs : List Byte) : bytesOf (bitsOf bs) = bs := by
  induction bs with
  | nil => rfl
  | cons b bs ih => rw [show bitsOf (b :: bs) = byteBits b ++ bitsOf bs from rfl, bytesOf_byteBits, ih]

@[simp] theorem length_bitsOf (bs : List Byte) : (bitsOf bs).length = 8 * bs.length := by
  induction bs with
  | nil => rfl
  | cons b bs ih =>
    have : (byteBits b).length = 8 := rfl
    simp only [bitsOf, List.flatMap_cons, List.length_append, List.length_cons] at *
    omega

/-- No bit is left over from whole bytes (R199). -/
@[simp] theorem bitsLeft_bitsOf (bs : List Byte) : bitsLeft (bitsOf bs) = [] := by simp [bitsLeft]

end Sys2Proof.Machine
end

