-- ==== Sys2Proof/Laws/Alarms.lean ====
section
/-! SUPPORT. What each operation of the alarm unit leaves as it was, and what it does. -/

namespace Sys2Proof.Machine

open Sys2Proof

/-! ### Frames -/

@[simp] theorem refreshRelays_frame (s : State) :
    (refreshRelays s).bau = s.bau ∧ (refreshRelays s).txs = s.txs ∧ (refreshRelays s).rxp = s.rxp ∧
    (refreshRelays s).ptb = s.ptb ∧ (refreshRelays s).tmu = s.tmu ∧ (refreshRelays s).src = s.src ∧
    (refreshRelays s).sec = s.sec ∧ (refreshRelays s).alu.inputs = s.alu.inputs ∧
    (refreshRelays s).alu.table = s.alu.table ∧ (refreshRelays s).alu.suppressed = s.alu.suppressed ∧
    (refreshRelays s).alu.overflow = s.alu.overflow ∧ (refreshRelays s).alu.summary = s.alu.summary ∧
    (refreshRelays s).alu.intervalTimer = s.alu.intervalTimer ∧
    (refreshRelays s).alu.holdOffTimer = s.alu.holdOffTimer ∧ (refreshRelays s).alu.alertDrive = s.alu.alertDrive ∧
    (refreshRelays s).alu.alert = s.alu.alert ∧ (refreshRelays s).alu.collector = s.alu.collector ∧
    (refreshRelays s).cpt = s.cpt ∧ (refreshRelays s).stl = s.stl ∧ (refreshRelays s).counters = s.counters ∧
    (refreshRelays s).pins = s.pins ∧ (refreshRelays s).pinsAhead = s.pinsAhead ∧
    (refreshRelays s).pending = s.pending := by
  unfold refreshRelays; dsimp only; simp

@[simp] theorem refreshSummary_frame (s : State) :
    (refreshSummary s).bau = s.bau ∧ (refreshSummary s).txs = s.txs ∧ (refreshSummary s).rxp = s.rxp ∧
    (refreshSummary s).ptb = s.ptb ∧ (refreshSummary s).tmu = s.tmu ∧ (refreshSummary s).src = s.src ∧
    (refreshSummary s).sec = s.sec ∧ (refreshSummary s).alu.inputs = s.alu.inputs ∧
    (refreshSummary s).alu.table = s.alu.table ∧ (refreshSummary s).alu.suppressed = s.alu.suppressed ∧
    (refreshSummary s).alu.overflow = s.alu.overflow ∧ (refreshSummary s).alu.intervalTimer = s.alu.intervalTimer ∧
    (refreshSummary s).alu.alertDrive = s.alu.alertDrive ∧ (refreshSummary s).alu.alert = s.alu.alert ∧
    (refreshSummary s).alu.collector = s.alu.collector ∧ (refreshSummary s).alu.crit = s.alu.crit ∧
    (refreshSummary s).alu.maj = s.alu.maj ∧ (refreshSummary s).cpt = s.cpt ∧ (refreshSummary s).stl = s.stl ∧
    (refreshSummary s).counters = s.counters ∧ (refreshSummary s).pins = s.pins ∧
    (refreshSummary s).pinsAhead = s.pinsAhead ∧
    (refreshSummary s).pending = s.pending := by
  unfold refreshSummary; dsimp only; (repeat' split) <;> simp

@[simp] theorem noticePeerView_frame (s : State) :
    (noticePeerView s).bau = s.bau ∧ (noticePeerView s).txs = s.txs ∧ (noticePeerView s).rxp = s.rxp ∧
    (noticePeerView s).ptb = s.ptb ∧ (noticePeerView s).tmu = s.tmu ∧ (noticePeerView s).src = s.src ∧
    (noticePeerView s).sec = s.sec ∧ (noticePeerView s).alu.inputs = s.alu.inputs ∧
    (noticePeerView s).alu.table = s.alu.table ∧ (noticePeerView s).alu.suppressed = s.alu.suppressed ∧
    (noticePeerView s).alu.overflow = s.alu.overflow ∧ (noticePeerView s).alu.intervalTimer = s.alu.intervalTimer ∧
    (noticePeerView s).alu.alertDrive = s.alu.alertDrive ∧ (noticePeerView s).alu.alert = s.alu.alert ∧
    (noticePeerView s).alu.collector = s.alu.collector ∧ (noticePeerView s).cpt = s.cpt ∧
    (noticePeerView s).stl = s.stl ∧ (noticePeerView s).counters = s.counters ∧
    (noticePeerView s).pins = s.pins ∧ (noticePeerView s).pinsAhead = s.pinsAhead ∧
    (noticePeerView s).pending = s.pending := by
  unfold noticePeerView; simp

@[simp] theorem refreshAlert_frame (s : State) :
    (refreshAlert s).bau = s.bau ∧ (refreshAlert s).txs = s.txs ∧ (refreshAlert s).rxp = s.rxp ∧
    (refreshAlert s).ptb = s.ptb ∧ (refreshAlert s).tmu = s.tmu ∧ (refreshAlert s).src = s.src ∧
    (refreshAlert s).sec = s.sec ∧ (refreshAlert s).alu.inputs = s.alu.inputs ∧
    (refreshAlert s).alu.table = s.alu.table ∧ (refreshAlert s).alu.suppressed = s.alu.suppressed ∧
    (refreshAlert s).alu.overflow = s.alu.overflow ∧ (refreshAlert s).alu.summary = s.alu.summary ∧
    (refreshAlert s).alu.intervalTimer = s.alu.intervalTimer ∧
    (refreshAlert s).alu.holdOffTimer = s.alu.holdOffTimer ∧ (refreshAlert s).alu.alert = s.alu.alert ∧
    (refreshAlert s).alu.collector = s.alu.collector ∧ (refreshAlert s).alu.crit = s.alu.crit ∧
    (refreshAlert s).alu.maj = s.alu.maj ∧ (refreshAlert s).cpt = s.cpt ∧ (refreshAlert s).stl = s.stl ∧
    (refreshAlert s).counters = s.counters ∧ (refreshAlert s).pins = s.pins ∧
    (refreshAlert s).pinsAhead = s.pinsAhead ∧
    (refreshAlert s).pending = s.pending := by
  unfold refreshAlert; dsimp only; simp

@[simp] theorem changeTable_frame (s : State) (table : List AlarmEntry) (overflow : Bool) :
    (changeTable table overflow s).bau = s.bau ∧ (changeTable table overflow s).txs = s.txs ∧
    (changeTable table overflow s).rxp = s.rxp ∧ (changeTable table overflow s).ptb = s.ptb ∧
    (changeTable table overflow s).tmu = s.tmu ∧ (changeTable table overflow s).src = s.src ∧
    (changeTable table overflow s).sec = s.sec ∧ (changeTable table overflow s).alu.inputs = s.alu.inputs ∧
    (changeTable table overflow s).alu.suppressed = s.alu.suppressed ∧
    (changeTable table overflow s).alu.intervalTimer = s.alu.intervalTimer ∧
    (changeTable table overflow s).alu.alert = s.alu.alert ∧
    (changeTable table overflow s).alu.collector = s.alu.collector ∧
    (changeTable table overflow s).cpt.bits = s.cpt.bits ∧
    (changeTable table overflow s).cpt.parser = s.cpt.parser ∧
    (changeTable table overflow s).cpt.incoming = s.cpt.incoming ∧
    (changeTable table overflow s).cpt.replies = s.cpt.replies ∧
    (changeTable table overflow s).cpt.outgoing = s.cpt.outgoing ∧
    (changeTable table overflow s).cpt.results = s.cpt.results ∧
    (changeTable table overflow s).cpt.eventMap = s.cpt.eventMap ∧
    (changeTable table overflow s).cpt.hold = s.cpt.hold ∧ (changeTable table overflow s).cpt.crst = s.cpt.crst ∧
    (changeTable table overflow s).stl = s.stl ∧ (changeTable table overflow s).counters = s.counters ∧
    (changeTable table overflow s).pins = s.pins ∧ (changeTable table overflow s).pinsAhead = s.pinsAhead ∧
    (changeTable table overflow s).pending = s.pending := by
  unfold changeTable; dsimp only; simp

@[simp] theorem markKey_frame (s : State) (k : AlarmKey) :
    (markKey k s).bau = s.bau ∧ (markKey k s).txs = s.txs ∧ (markKey k s).rxp = s.rxp ∧ (markKey k s).ptb = s.ptb ∧
    (markKey k s).tmu = s.tmu ∧ (markKey k s).src = s.src ∧ (markKey k s).sec = s.sec ∧
    (markKey k s).alu.inputs = s.alu.inputs ∧ (markKey k s).alu.table = s.alu.table ∧
    (markKey k s).alu.overflow = s.alu.overflow ∧ (markKey k s).alu.summary = s.alu.summary ∧
    (markKey k s).alu.intervalTimer = s.alu.intervalTimer ∧ (markKey k s).alu.holdOffTimer = s.alu.holdOffTimer ∧
    (markKey k s).alu.alertDrive = s.alu.alertDrive ∧ (markKey k s).alu.alert = s.alu.alert ∧
    (markKey k s).alu.collector = s.alu.collector ∧ (markKey k s).alu.crit = s.alu.crit ∧
    (markKey k s).alu.maj = s.alu.maj ∧ (markKey k s).cpt = s.cpt ∧ (markKey k s).stl = s.stl ∧
    (markKey k s).counters = s.counters ∧ (markKey k s).pins = s.pins ∧ (markKey k s).pinsAhead = s.pinsAhead ∧
    (markKey k s).pending = s.pending := by
  unfold markKey; dsimp only; simp

@[simp] theorem unmarkKey_frame (s : State) (k : AlarmKey) :
    (unmarkKey k s).bau = s.bau ∧ (unmarkKey k s).txs = s.txs ∧ (unmarkKey k s).rxp = s.rxp ∧
    (unmarkKey k s).ptb = s.ptb ∧ (unmarkKey k s).tmu = s.tmu ∧ (unmarkKey k s).src = s.src ∧
    (unmarkKey k s).sec = s.sec ∧ (unmarkKey k s).alu.inputs = s.alu.inputs ∧
    (unmarkKey k s).alu.table = s.alu.table ∧ (unmarkKey k s).alu.overflow = s.alu.overflow ∧
    (unmarkKey k s).alu.summary = s.alu.summary ∧ (unmarkKey k s).alu.intervalTimer = s.alu.intervalTimer ∧
    (unmarkKey k s).alu.holdOffTimer = s.alu.holdOffTimer ∧ (unmarkKey k s).alu.alertDrive = s.alu.alertDrive ∧
    (unmarkKey k s).alu.alert = s.alu.alert ∧ (unmarkKey k s).alu.collector = s.alu.collector ∧
    (unmarkKey k s).alu.crit = s.alu.crit ∧ (unmarkKey k s).alu.maj = s.alu.maj ∧ (unmarkKey k s).cpt = s.cpt ∧
    (unmarkKey k s).stl = s.stl ∧ (unmarkKey k s).counters = s.counters ∧ (unmarkKey k s).pins = s.pins ∧
    (unmarkKey k s).pinsAhead = s.pinsAhead ∧
    (unmarkKey k s).pending = s.pending := by
  unfold unmarkKey; dsimp only; simp

@[simp] theorem setCause_frame (s : State) (n : Fin 8) (on : Bool) :
    (setCause n on s).bau = s.bau ∧ (setCause n on s).txs = s.txs ∧ (setCause n on s).rxp = s.rxp ∧
    (setCause n on s).ptb = s.ptb ∧ (setCause n on s).tmu = s.tmu ∧ (setCause n on s).src = s.src ∧
    (setCause n on s).sec = s.sec ∧ (setCause n on s).alu.table = s.alu.table ∧
    (setCause n on s).alu.suppressed = s.alu.suppressed ∧ (setCause n on s).alu.overflow = s.alu.overflow ∧
    (setCause n on s).alu.summary = s.alu.summary ∧ (setCause n on s).alu.intervalTimer = s.alu.intervalTimer ∧
    (setCause n on s).alu.holdOffTimer = s.alu.holdOffTimer ∧ (setCause n on s).alu.alertDrive = s.alu.alertDrive ∧
    (setCause n on s).alu.alert = s.alu.alert ∧ (setCause n on s).alu.collector = s.alu.collector ∧
    (setCause n on s).alu.crit = s.alu.crit ∧ (setCause n on s).alu.maj = s.alu.maj ∧
    (setCause n on s).cpt = s.cpt ∧ (setCause n on s).stl = s.stl ∧ (setCause n on s).counters = s.counters ∧
    (setCause n on s).pins = s.pins ∧ (setCause n on s).pinsAhead = s.pinsAhead ∧
    (setCause n on s).pending = s.pending := by
  unfold setCause; dsimp only; simp

@[simp] theorem evictCause_frame (s : State) (e : AlarmEntry) :
    (evictCause e s).bau = s.bau ∧ (evictCause e s).txs = s.txs ∧ (evictCause e s).rxp = s.rxp ∧
    (evictCause e s).ptb = s.ptb ∧ (evictCause e s).tmu = s.tmu ∧ (evictCause e s).src = s.src ∧
    (evictCause e s).sec = s.sec ∧ (evictCause e s).alu.table = s.alu.table ∧
    (evictCause e s).alu.overflow = s.alu.overflow ∧ (evictCause e s).alu.summary = s.alu.summary ∧
    (evictCause e s).alu.intervalTimer = s.alu.intervalTimer ∧
    (evictCause e s).alu.holdOffTimer = s.alu.holdOffTimer ∧ (evictCause e s).alu.alertDrive = s.alu.alertDrive ∧
    (evictCause e s).alu.alert = s.alu.alert ∧ (evictCause e s).alu.collector = s.alu.collector ∧
    (evictCause e s).alu.crit = s.alu.crit ∧ (evictCause e s).alu.maj = s.alu.maj ∧ (evictCause e s).cpt = s.cpt ∧
    (evictCause e s).stl = s.stl ∧ (evictCause e s).counters = s.counters ∧ (evictCause e s).pins = s.pins ∧
    (evictCause e s).pinsAhead = s.pinsAhead ∧
    (evictCause e s).pending = s.pending := by
  unfold evictCause; (repeat' split) <;> simp

@[simp] theorem raiseKey_frame (s : State) (k : AlarmKey) (v : Severity) :
    (raiseKey k v s).bau = s.bau ∧ (raiseKey k v s).txs = s.txs ∧ (raiseKey k v s).rxp = s.rxp ∧
    (raiseKey k v s).ptb = s.ptb ∧ (raiseKey k v s).tmu = s.tmu ∧ (raiseKey k v s).src = s.src ∧
    (raiseKey k v s).sec = s.sec ∧ (raiseKey k v s).alu.intervalTimer = s.alu.intervalTimer ∧
    (raiseKey k v s).alu.alert = s.alu.alert ∧ (raiseKey k v s).alu.collector = s.alu.collector ∧
    (raiseKey k v s).cpt.bits = s.cpt.bits ∧
    (raiseKey k v s).cpt.parser = s.cpt.parser ∧ (raiseKey k v s).cpt.incoming = s.cpt.incoming ∧
    (raiseKey k v s).cpt.replies = s.cpt.replies ∧ (raiseKey k v s).cpt.outgoing = s.cpt.outgoing ∧
    (raiseKey k v s).cpt.results = s.cpt.results ∧ (raiseKey k v s).cpt.eventMap = s.cpt.eventMap ∧
    (raiseKey k v s).cpt.hold = s.cpt.hold ∧ (raiseKey k v s).cpt.crst = s.cpt.crst ∧ (raiseKey k v s).stl = s.stl ∧
    (raiseKey k v s).pins = s.pins ∧ (raiseKey k v s).pinsAhead = s.pinsAhead ∧
    (raiseKey k v s).pending = s.pending := by
  unfold raiseKey; dsimp only; (repeat' split) <;> simp

@[simp] theorem raiseInternal_frame (s : State) (k : AlarmKey) :
    (raiseInternal k s).bau = s.bau ∧ (raiseInternal k s).txs = s.txs ∧ (raiseInternal k s).rxp = s.rxp ∧
    (raiseInternal k s).ptb = s.ptb ∧ (raiseInternal k s).tmu = s.tmu ∧ (raiseInternal k s).src = s.src ∧
    (raiseInternal k s).sec = s.sec ∧ (raiseInternal k s).alu.intervalTimer = s.alu.intervalTimer ∧
    (raiseInternal k s).alu.alert = s.alu.alert ∧ (raiseInternal k s).alu.collector = s.alu.collector ∧
    (raiseInternal k s).cpt.bits = s.cpt.bits ∧
    (raiseInternal k s).cpt.parser = s.cpt.parser ∧ (raiseInternal k s).cpt.incoming = s.cpt.incoming ∧
    (raiseInternal k s).cpt.replies = s.cpt.replies ∧ (raiseInternal k s).cpt.outgoing = s.cpt.outgoing ∧
    (raiseInternal k s).cpt.results = s.cpt.results ∧ (raiseInternal k s).cpt.eventMap = s.cpt.eventMap ∧
    (raiseInternal k s).cpt.hold = s.cpt.hold ∧ (raiseInternal k s).cpt.crst = s.cpt.crst ∧
    (raiseInternal k s).stl = s.stl ∧ (raiseInternal k s).pins = s.pins ∧
    (raiseInternal k s).pinsAhead = s.pinsAhead ∧
    (raiseInternal k s).pending = s.pending := by
  unfold raiseInternal; simp

@[simp] theorem removeEntry_frame (s : State) (k : AlarmKey) :
    (removeEntry k s).bau = s.bau ∧ (removeEntry k s).txs = s.txs ∧ (removeEntry k s).rxp = s.rxp ∧
    (removeEntry k s).ptb = s.ptb ∧ (removeEntry k s).tmu = s.tmu ∧ (removeEntry k s).src = s.src ∧
    (removeEntry k s).sec = s.sec ∧ (removeEntry k s).alu.inputs = s.alu.inputs ∧
    (removeEntry k s).alu.suppressed = s.alu.suppressed ∧
    (removeEntry k s).alu.intervalTimer = s.alu.intervalTimer ∧ (removeEntry k s).alu.alert = s.alu.alert ∧
    (removeEntry k s).alu.collector = s.alu.collector ∧ (removeEntry k s).cpt.bits = s.cpt.bits ∧
    (removeEntry k s).cpt.parser = s.cpt.parser ∧
    (removeEntry k s).cpt.incoming = s.cpt.incoming ∧ (removeEntry k s).cpt.replies = s.cpt.replies ∧
    (removeEntry k s).cpt.outgoing = s.cpt.outgoing ∧ (removeEntry k s).cpt.results = s.cpt.results ∧
    (removeEntry k s).cpt.eventMap = s.cpt.eventMap ∧ (removeEntry k s).cpt.hold = s.cpt.hold ∧
    (removeEntry k s).cpt.crst = s.cpt.crst ∧ (removeEntry k s).stl = s.stl ∧
    (removeEntry k s).counters = s.counters ∧ (removeEntry k s).pins = s.pins ∧
    (removeEntry k s).pinsAhead = s.pinsAhead ∧
    (removeEntry k s).pending = s.pending := by
  unfold removeEntry; simp

@[simp] theorem clearKey_frame (s : State) (k : AlarmKey) :
    (clearKey k s).bau = s.bau ∧ (clearKey k s).txs = s.txs ∧ (clearKey k s).rxp = s.rxp ∧
    (clearKey k s).ptb = s.ptb ∧ (clearKey k s).tmu = s.tmu ∧ (clearKey k s).src = s.src ∧
    (clearKey k s).sec = s.sec ∧ (clearKey k s).alu.inputs = s.alu.inputs ∧
    (clearKey k s).alu.intervalTimer = s.alu.intervalTimer ∧ (clearKey k s).alu.alert = s.alu.alert ∧
    (clearKey k s).alu.collector = s.alu.collector ∧ (clearKey k s).cpt.bits = s.cpt.bits ∧
    (clearKey k s).cpt.parser = s.cpt.parser ∧
    (clearKey k s).cpt.incoming = s.cpt.incoming ∧ (clearKey k s).cpt.replies = s.cpt.replies ∧
    (clearKey k s).cpt.outgoing = s.cpt.outgoing ∧ (clearKey k s).cpt.results = s.cpt.results ∧
    (clearKey k s).cpt.eventMap = s.cpt.eventMap ∧ (clearKey k s).cpt.hold = s.cpt.hold ∧
    (clearKey k s).cpt.crst = s.cpt.crst ∧ (clearKey k s).stl = s.stl ∧ (clearKey k s).counters = s.counters ∧
    (clearKey k s).pins = s.pins ∧ (clearKey k s).pinsAhead = s.pinsAhead ∧
    (clearKey k s).pending = s.pending := by
  unfold clearKey; (repeat' split) <;> simp

@[simp] theorem ackEntry_frame (s : State) (e : AlarmEntry) :
    (ackEntry e s).bau = s.bau ∧ (ackEntry e s).txs = s.txs ∧ (ackEntry e s).rxp = s.rxp ∧
    (ackEntry e s).ptb = s.ptb ∧ (ackEntry e s).tmu = s.tmu ∧ (ackEntry e s).src = s.src ∧
    (ackEntry e s).sec = s.sec ∧ (ackEntry e s).alu.intervalTimer = s.alu.intervalTimer ∧
    (ackEntry e s).alu.alert = s.alu.alert ∧ (ackEntry e s).alu.collector = s.alu.collector ∧
    (ackEntry e s).cpt.bits = s.cpt.bits ∧
    (ackEntry e s).cpt.parser = s.cpt.parser ∧ (ackEntry e s).cpt.incoming = s.cpt.incoming ∧
    (ackEntry e s).cpt.replies = s.cpt.replies ∧ (ackEntry e s).cpt.outgoing = s.cpt.outgoing ∧
    (ackEntry e s).cpt.results = s.cpt.results ∧ (ackEntry e s).cpt.eventMap = s.cpt.eventMap ∧
    (ackEntry e s).cpt.hold = s.cpt.hold ∧ (ackEntry e s).cpt.crst = s.cpt.crst ∧ (ackEntry e s).stl = s.stl ∧
    (ackEntry e s).counters = s.counters ∧ (ackEntry e s).pins = s.pins ∧ (ackEntry e s).pinsAhead = s.pinsAhead ∧
    (ackEntry e s).pending = s.pending := by
  unfold ackEntry; dsimp only; (repeat' split) <;> simp

@[simp] theorem resetCardAlarms_frame (s : State) :
    (resetCardAlarms s).bau = s.bau ∧ (resetCardAlarms s).txs = s.txs ∧ (resetCardAlarms s).rxp = s.rxp ∧
    (resetCardAlarms s).ptb = s.ptb ∧ (resetCardAlarms s).tmu = s.tmu ∧ (resetCardAlarms s).src = s.src ∧
    (resetCardAlarms s).sec = s.sec ∧ (resetCardAlarms s).alu.inputs = s.alu.inputs ∧
    (resetCardAlarms s).alu.intervalTimer = s.alu.intervalTimer ∧ (resetCardAlarms s).alu.alert = s.alu.alert ∧
    (resetCardAlarms s).alu.collector = s.alu.collector ∧ (resetCardAlarms s).cpt.bits = s.cpt.bits ∧
    (resetCardAlarms s).cpt.parser = s.cpt.parser ∧
    (resetCardAlarms s).cpt.incoming = s.cpt.incoming ∧ (resetCardAlarms s).cpt.replies = s.cpt.replies ∧
    (resetCardAlarms s).cpt.outgoing = s.cpt.outgoing ∧ (resetCardAlarms s).cpt.results = s.cpt.results ∧
    (resetCardAlarms s).cpt.eventMap = s.cpt.eventMap ∧ (resetCardAlarms s).cpt.hold = s.cpt.hold ∧
    (resetCardAlarms s).cpt.crst = s.cpt.crst ∧ (resetCardAlarms s).stl = s.stl ∧
    (resetCardAlarms s).counters = s.counters ∧ (resetCardAlarms s).pins = s.pins ∧
    (resetCardAlarms s).pinsAhead = s.pinsAhead ∧
    (resetCardAlarms s).pending = s.pending := by
  unfold resetCardAlarms; dsimp only; (repeat' split) <;> simp

@[simp] theorem assertInput_frame (s : State) (n : Fin 8) :
    (assertInput n s).bau = s.bau ∧ (assertInput n s).txs = s.txs ∧ (assertInput n s).rxp = s.rxp ∧
    (assertInput n s).ptb = s.ptb ∧ (assertInput n s).tmu = s.tmu ∧ (assertInput n s).src = s.src ∧
    (assertInput n s).sec = s.sec ∧ (assertInput n s).alu.intervalTimer = s.alu.intervalTimer ∧
    (assertInput n s).alu.alert = s.alu.alert ∧ (assertInput n s).alu.collector = s.alu.collector ∧
    (assertInput n s).cpt.bits = s.cpt.bits ∧
    (assertInput n s).cpt.parser = s.cpt.parser ∧ (assertInput n s).cpt.incoming = s.cpt.incoming ∧
    (assertInput n s).cpt.replies = s.cpt.replies ∧ (assertInput n s).cpt.outgoing = s.cpt.outgoing ∧
    (assertInput n s).cpt.results = s.cpt.results ∧ (assertInput n s).cpt.eventMap = s.cpt.eventMap ∧
    (assertInput n s).cpt.hold = s.cpt.hold ∧ (assertInput n s).cpt.crst = s.cpt.crst ∧
    (assertInput n s).stl = s.stl ∧ (assertInput n s).pins = s.pins ∧ (assertInput n s).pinsAhead = s.pinsAhead ∧
    (assertInput n s).pending = s.pending := by
  unfold assertInput; dsimp only; (repeat' split) <;> simp

@[simp] theorem endInputCause_frame (s : State) (n : Fin 8) :
    (endInputCause n s).bau = s.bau ∧ (endInputCause n s).txs = s.txs ∧ (endInputCause n s).rxp = s.rxp ∧
    (endInputCause n s).ptb = s.ptb ∧ (endInputCause n s).tmu = s.tmu ∧ (endInputCause n s).src = s.src ∧
    (endInputCause n s).sec = s.sec ∧ (endInputCause n s).alu.intervalTimer = s.alu.intervalTimer ∧
    (endInputCause n s).alu.alert = s.alu.alert ∧ (endInputCause n s).alu.collector = s.alu.collector ∧
    (endInputCause n s).cpt.bits = s.cpt.bits ∧
    (endInputCause n s).cpt.parser = s.cpt.parser ∧ (endInputCause n s).cpt.incoming = s.cpt.incoming ∧
    (endInputCause n s).cpt.replies = s.cpt.replies ∧ (endInputCause n s).cpt.outgoing = s.cpt.outgoing ∧
    (endInputCause n s).cpt.results = s.cpt.results ∧ (endInputCause n s).cpt.eventMap = s.cpt.eventMap ∧
    (endInputCause n s).cpt.hold = s.cpt.hold ∧ (endInputCause n s).cpt.crst = s.cpt.crst ∧
    (endInputCause n s).stl = s.stl ∧ (endInputCause n s).counters = s.counters ∧
    (endInputCause n s).pins = s.pins ∧ (endInputCause n s).pinsAhead = s.pinsAhead ∧
    (endInputCause n s).pending = s.pending := by
  unfold endInputCause; (repeat' split) <;> simp

@[simp] theorem deassertInput_frame (s : State) (n : Fin 8) :
    (deassertInput n s).bau = s.bau ∧ (deassertInput n s).txs = s.txs ∧ (deassertInput n s).rxp = s.rxp ∧
    (deassertInput n s).ptb = s.ptb ∧ (deassertInput n s).tmu = s.tmu ∧ (deassertInput n s).src = s.src ∧
    (deassertInput n s).sec = s.sec ∧ (deassertInput n s).alu.intervalTimer = s.alu.intervalTimer ∧
    (deassertInput n s).alu.alert = s.alu.alert ∧ (deassertInput n s).alu.collector = s.alu.collector ∧
    (deassertInput n s).cpt.bits = s.cpt.bits ∧
    (deassertInput n s).cpt.parser = s.cpt.parser ∧ (deassertInput n s).cpt.incoming = s.cpt.incoming ∧
    (deassertInput n s).cpt.replies = s.cpt.replies ∧ (deassertInput n s).cpt.outgoing = s.cpt.outgoing ∧
    (deassertInput n s).cpt.results = s.cpt.results ∧ (deassertInput n s).cpt.eventMap = s.cpt.eventMap ∧
    (deassertInput n s).cpt.hold = s.cpt.hold ∧ (deassertInput n s).cpt.crst = s.cpt.crst ∧
    (deassertInput n s).stl = s.stl ∧ (deassertInput n s).counters = s.counters ∧
    (deassertInput n s).pins = s.pins ∧ (deassertInput n s).pinsAhead = s.pinsAhead ∧
    (deassertInput n s).pending = s.pending := by
  unfold deassertInput; dsimp only; (repeat' split) <;> simp

@[simp] theorem takeInputSettings_frame (s : State) (x : InputSettings) (n : Fin 8) :
    (takeInputSettings x n s).bau = s.bau ∧ (takeInputSettings x n s).txs = s.txs ∧
    (takeInputSettings x n s).rxp = s.rxp ∧ (takeInputSettings x n s).ptb = s.ptb ∧
    (takeInputSettings x n s).tmu = s.tmu ∧ (takeInputSettings x n s).src = s.src ∧
    (takeInputSettings x n s).sec = s.sec ∧ (takeInputSettings x n s).alu.intervalTimer = s.alu.intervalTimer ∧
    (takeInputSettings x n s).alu.alert = s.alu.alert ∧ (takeInputSettings x n s).alu.collector = s.alu.collector ∧
    (takeInputSettings x n s).cpt.bits = s.cpt.bits ∧
    (takeInputSettings x n s).cpt.parser = s.cpt.parser ∧ (takeInputSettings x n s).cpt.incoming = s.cpt.incoming ∧
    (takeInputSettings x n s).cpt.replies = s.cpt.replies ∧
    (takeInputSettings x n s).cpt.outgoing = s.cpt.outgoing ∧
    (takeInputSettings x n s).cpt.results = s.cpt.results ∧
    (takeInputSettings x n s).cpt.eventMap = s.cpt.eventMap ∧ (takeInputSettings x n s).cpt.hold = s.cpt.hold ∧
    (takeInputSettings x n s).cpt.crst = s.cpt.crst ∧ (takeInputSettings x n s).stl = s.stl ∧
    (takeInputSettings x n s).counters = s.counters ∧ (takeInputSettings x n s).pins = s.pins ∧
    (takeInputSettings x n s).pinsAhead = s.pinsAhead ∧
    (takeInputSettings x n s).pending = s.pending := by
  unfold takeInputSettings; dsimp only; (repeat' split) <;> simp

/-! ### No operation takes an event out of the pending set (R186) -/

@[simp] theorem changeTable_events (s : State) (table : List AlarmEntry) (overflow : Bool) {a : EventKind} (h : a ∈ s.cpt.events) :
    a ∈ (changeTable table overflow s).cpt.events := by
  unfold changeTable; dsimp only;
    (repeat (first | with_reducible apply signal_events | simp [h] | exact h))

@[simp] theorem raiseKey_events (s : State) (k : AlarmKey) (v : Severity) {a : EventKind} (h : a ∈ s.cpt.events) :
    a ∈ (raiseKey k v s).cpt.events := by
  unfold raiseKey; dsimp only; (repeat' split) <;>
    (repeat (first | with_reducible apply bump_events | with_reducible apply changeTable_events | simp [h] | exact h))

@[simp] theorem raiseInternal_events (s : State) (k : AlarmKey) {a : EventKind} (h : a ∈ s.cpt.events) :
    a ∈ (raiseInternal k s).cpt.events := by
  unfold raiseInternal;
    (repeat (first | with_reducible apply raiseKey_events | simp [h] | exact h))

@[simp] theorem removeEntry_events (s : State) (k : AlarmKey) {a : EventKind} (h : a ∈ s.cpt.events) :
    a ∈ (removeEntry k s).cpt.events := by
  unfold removeEntry;
    (repeat (first | with_reducible apply changeTable_events | simp [h] | exact h))

@[simp] theorem clearKey_events (s : State) (k : AlarmKey) {a : EventKind} (h : a ∈ s.cpt.events) :
    a ∈ (clearKey k s).cpt.events := by
  unfold clearKey; (repeat' split) <;>
    (repeat (first | with_reducible apply changeTable_events | with_reducible apply removeEntry_events | simp [h] | exact h))

@[simp] theorem ackEntry_events (s : State) (e : AlarmEntry) {a : EventKind} (h : a ∈ s.cpt.events) :
    a ∈ (ackEntry e s).cpt.events := by
  unfold ackEntry; dsimp only; (repeat' split) <;>
    (repeat (first | with_reducible apply changeTable_events | with_reducible apply removeEntry_events | simp [h] | exact h))

@[simp] theorem resetCardAlarms_events (s : State) {a : EventKind} (h : a ∈ s.cpt.events) :
    a ∈ (resetCardAlarms s).cpt.events := by
  unfold resetCardAlarms; dsimp only; (repeat' split) <;>
    (repeat (first | with_reducible apply changeTable_events | simp [h] | exact h))

@[simp] theorem assertInput_events (s : State) (n : Fin 8) {a : EventKind} (h : a ∈ s.cpt.events) :
    a ∈ (assertInput n s).cpt.events := by
  unfold assertInput; dsimp only; (repeat' split) <;>
    (repeat (first | with_reducible apply raiseKey_events | simp [h] | exact h))

@[simp] theorem endInputCause_events (s : State) (n : Fin 8) {a : EventKind} (h : a ∈ s.cpt.events) :
    a ∈ (endInputCause n s).cpt.events := by
  unfold endInputCause; (repeat' split) <;>
    (repeat (first | with_reducible apply clearKey_events | simp [h] | exact h))

@[simp] theorem deassertInput_events (s : State) (n : Fin 8) {a : EventKind} (h : a ∈ s.cpt.events) :
    a ∈ (deassertInput n s).cpt.events := by
  unfold deassertInput; dsimp only; (repeat' split) <;>
    (repeat (first | with_reducible apply endInputCause_events | simp [h] | exact h))

@[simp] theorem takeInputSettings_events (s : State) (x : InputSettings) (n : Fin 8) {a : EventKind} (h : a ∈ s.cpt.events) :
    a ∈ (takeInputSettings x n s).cpt.events := by
  unfold takeInputSettings; dsimp only; (repeat' split) <;>
    (repeat (first | with_reducible apply clearKey_events | simp [h] | exact h))

end Sys2Proof.Machine
end

