-- ==== Sys2Proof/Laws/Transmit.lean ====
section
/-! SUPPORT. What each operation of the transmit scheduler leaves as it was, and what it does. -/

namespace Sys2Proof.Machine

open Sys2Proof

/-! ### Frames -/

@[simp] theorem appendResults_frame (s : State) (rs : List ResultEntry) :
    (appendResults rs s).bau = s.bau ∧ (appendResults rs s).txs = s.txs ∧ (appendResults rs s).rxp = s.rxp ∧
    (appendResults rs s).ptb = s.ptb ∧ (appendResults rs s).tmu = s.tmu ∧ (appendResults rs s).src = s.src ∧
    (appendResults rs s).sec = s.sec ∧ (appendResults rs s).alu = s.alu ∧
    (appendResults rs s).cpt.bits = s.cpt.bits ∧
    (appendResults rs s).cpt.parser = s.cpt.parser ∧ (appendResults rs s).cpt.incoming = s.cpt.incoming ∧
    (appendResults rs s).cpt.replies = s.cpt.replies ∧ (appendResults rs s).cpt.outgoing = s.cpt.outgoing ∧
    (appendResults rs s).cpt.events = s.cpt.events ∧ (appendResults rs s).cpt.eventMap = s.cpt.eventMap ∧
    (appendResults rs s).cpt.urgent = s.cpt.urgent ∧ (appendResults rs s).cpt.attention = s.cpt.attention ∧
    (appendResults rs s).cpt.hold = s.cpt.hold ∧ (appendResults rs s).cpt.crst = s.cpt.crst ∧
    (appendResults rs s).stl = s.stl ∧ (appendResults rs s).counters = s.counters ∧
    (appendResults rs s).pins = s.pins ∧ (appendResults rs s).pinsAhead = s.pinsAhead ∧
    (appendResults rs s).pending = s.pending := by
  unfold appendResults; dsimp only; simp

@[simp] theorem freeUnits_frame (s : State) (k : Nat) :
    (freeUnits k s).bau = s.bau ∧ (freeUnits k s).txs.queues = s.txs.queues ∧
    (freeUnits k s).txs.slots = s.txs.slots ∧ (freeUnits k s).txs.nextSeq = s.txs.nextSeq ∧
    (freeUnits k s).txs.lateTimer = s.txs.lateTimer ∧
    (freeUnits k s).txs.undeliverableTimer = s.txs.undeliverableTimer ∧
    (freeUnits k s).txs.drainedReported = s.txs.drainedReported ∧ (freeUnits k s).rxp = s.rxp ∧
    (freeUnits k s).ptb = s.ptb ∧ (freeUnits k s).tmu = s.tmu ∧ (freeUnits k s).src = s.src ∧
    (freeUnits k s).sec = s.sec ∧ (freeUnits k s).alu = s.alu ∧ (freeUnits k s).cpt = s.cpt ∧
    (freeUnits k s).stl = s.stl ∧ (freeUnits k s).counters = s.counters ∧ (freeUnits k s).pins = s.pins ∧
    (freeUnits k s).pinsAhead = s.pinsAhead ∧
    (freeUnits k s).pending = s.pending := by
  unfold freeUnits; dsimp only; simp

@[simp] theorem countResults_frame (s : State) (code : ResultCode) (k : Nat) :
    (countResults code k s).bau = s.bau ∧ (countResults code k s).txs = s.txs ∧
    (countResults code k s).rxp = s.rxp ∧ (countResults code k s).ptb = s.ptb ∧
    (countResults code k s).tmu = s.tmu ∧ (countResults code k s).src = s.src ∧
    (countResults code k s).sec = s.sec ∧ (countResults code k s).alu = s.alu ∧
    (countResults code k s).cpt.bits = s.cpt.bits ∧
    (countResults code k s).cpt.parser = s.cpt.parser ∧ (countResults code k s).cpt.incoming = s.cpt.incoming ∧
    (countResults code k s).cpt.replies = s.cpt.replies ∧ (countResults code k s).cpt.outgoing = s.cpt.outgoing ∧
    (countResults code k s).cpt.results = s.cpt.results ∧ (countResults code k s).cpt.eventMap = s.cpt.eventMap ∧
    (countResults code k s).cpt.hold = s.cpt.hold ∧ (countResults code k s).cpt.crst = s.cpt.crst ∧
    (countResults code k s).stl = s.stl ∧ (countResults code k s).pins = s.pins ∧
    (countResults code k s).pinsAhead = s.pinsAhead ∧
    (countResults code k s).pending = s.pending := by
  unfold countResults; (repeat' split) <;> simp

@[simp] theorem purgeQueue_frame (s : State) (p : QueueEntry → Bool) (code : ResultCode) (c : CardClass) :
    (purgeQueue p code c s).bau = s.bau ∧ (purgeQueue p code c s).txs.slots = s.txs.slots ∧
    (purgeQueue p code c s).txs.nextSeq = s.txs.nextSeq ∧ (purgeQueue p code c s).txs.lateTimer = s.txs.lateTimer ∧
    (purgeQueue p code c s).txs.undeliverableTimer = s.txs.undeliverableTimer ∧
    (purgeQueue p code c s).txs.drainedReported = s.txs.drainedReported ∧ (purgeQueue p code c s).rxp = s.rxp ∧
    (purgeQueue p code c s).ptb = s.ptb ∧ (purgeQueue p code c s).tmu = s.tmu ∧
    (purgeQueue p code c s).src = s.src ∧ (purgeQueue p code c s).sec = s.sec ∧
    (purgeQueue p code c s).alu = s.alu ∧ (purgeQueue p code c s).cpt.bits = s.cpt.bits ∧
    (purgeQueue p code c s).cpt.parser = s.cpt.parser ∧
    (purgeQueue p code c s).cpt.incoming = s.cpt.incoming ∧ (purgeQueue p code c s).cpt.replies = s.cpt.replies ∧
    (purgeQueue p code c s).cpt.outgoing = s.cpt.outgoing ∧ (purgeQueue p code c s).cpt.eventMap = s.cpt.eventMap ∧
    (purgeQueue p code c s).cpt.hold = s.cpt.hold ∧ (purgeQueue p code c s).cpt.crst = s.cpt.crst ∧
    (purgeQueue p code c s).stl = s.stl ∧ (purgeQueue p code c s).pins = s.pins ∧
    (purgeQueue p code c s).pinsAhead = s.pinsAhead ∧
    (purgeQueue p code c s).pending = s.pending := by
  unfold purgeQueue; dsimp only; simp

@[simp] theorem purgeQueues_frame (s : State) (p : QueueEntry → Bool) (code : ResultCode) :
    (purgeQueues p code s).bau = s.bau ∧ (purgeQueues p code s).txs.slots = s.txs.slots ∧
    (purgeQueues p code s).txs.nextSeq = s.txs.nextSeq ∧ (purgeQueues p code s).txs.lateTimer = s.txs.lateTimer ∧
    (purgeQueues p code s).txs.undeliverableTimer = s.txs.undeliverableTimer ∧
    (purgeQueues p code s).txs.drainedReported = s.txs.drainedReported ∧ (purgeQueues p code s).rxp = s.rxp ∧
    (purgeQueues p code s).ptb = s.ptb ∧ (purgeQueues p code s).tmu = s.tmu ∧ (purgeQueues p code s).src = s.src ∧
    (purgeQueues p code s).sec = s.sec ∧ (purgeQueues p code s).alu = s.alu ∧
    (purgeQueues p code s).cpt.bits = s.cpt.bits ∧
    (purgeQueues p code s).cpt.parser = s.cpt.parser ∧ (purgeQueues p code s).cpt.incoming = s.cpt.incoming ∧
    (purgeQueues p code s).cpt.replies = s.cpt.replies ∧ (purgeQueues p code s).cpt.outgoing = s.cpt.outgoing ∧
    (purgeQueues p code s).cpt.eventMap = s.cpt.eventMap ∧ (purgeQueues p code s).cpt.hold = s.cpt.hold ∧
    (purgeQueues p code s).cpt.crst = s.cpt.crst ∧ (purgeQueues p code s).stl = s.stl ∧
    (purgeQueues p code s).pins = s.pins ∧ (purgeQueues p code s).pinsAhead = s.pinsAhead ∧
    (purgeQueues p code s).pending = s.pending := by
  unfold purgeQueues; simp

@[simp] theorem purgePeerLeft_frame (s : State) (i : Slot) :
    (purgePeerLeft i s).bau = s.bau ∧ (purgePeerLeft i s).txs.slots = s.txs.slots ∧
    (purgePeerLeft i s).txs.nextSeq = s.txs.nextSeq ∧ (purgePeerLeft i s).txs.lateTimer = s.txs.lateTimer ∧
    (purgePeerLeft i s).txs.undeliverableTimer = s.txs.undeliverableTimer ∧
    (purgePeerLeft i s).txs.drainedReported = s.txs.drainedReported ∧ (purgePeerLeft i s).rxp = s.rxp ∧
    (purgePeerLeft i s).ptb = s.ptb ∧ (purgePeerLeft i s).tmu = s.tmu ∧ (purgePeerLeft i s).src = s.src ∧
    (purgePeerLeft i s).sec = s.sec ∧ (purgePeerLeft i s).alu = s.alu ∧
    (purgePeerLeft i s).cpt.bits = s.cpt.bits ∧
    (purgePeerLeft i s).cpt.parser = s.cpt.parser ∧ (purgePeerLeft i s).cpt.incoming = s.cpt.incoming ∧
    (purgePeerLeft i s).cpt.replies = s.cpt.replies ∧ (purgePeerLeft i s).cpt.outgoing = s.cpt.outgoing ∧
    (purgePeerLeft i s).cpt.eventMap = s.cpt.eventMap ∧ (purgePeerLeft i s).cpt.hold = s.cpt.hold ∧
    (purgePeerLeft i s).cpt.crst = s.cpt.crst ∧ (purgePeerLeft i s).stl = s.stl ∧
    (purgePeerLeft i s).pins = s.pins ∧ (purgePeerLeft i s).pinsAhead = s.pinsAhead ∧
    (purgePeerLeft i s).pending = s.pending := by
  unfold purgePeerLeft; simp

@[simp] theorem purgeTimeLost_frame (s : State) :
    (purgeTimeLost s).bau = s.bau ∧ (purgeTimeLost s).txs.slots = s.txs.slots ∧
    (purgeTimeLost s).txs.nextSeq = s.txs.nextSeq ∧ (purgeTimeLost s).txs.lateTimer = s.txs.lateTimer ∧
    (purgeTimeLost s).txs.undeliverableTimer = s.txs.undeliverableTimer ∧
    (purgeTimeLost s).txs.drainedReported = s.txs.drainedReported ∧ (purgeTimeLost s).rxp = s.rxp ∧
    (purgeTimeLost s).ptb = s.ptb ∧ (purgeTimeLost s).tmu = s.tmu ∧ (purgeTimeLost s).src = s.src ∧
    (purgeTimeLost s).sec = s.sec ∧ (purgeTimeLost s).alu = s.alu ∧ (purgeTimeLost s).cpt.bits = s.cpt.bits ∧
    (purgeTimeLost s).cpt.parser = s.cpt.parser ∧
    (purgeTimeLost s).cpt.incoming = s.cpt.incoming ∧ (purgeTimeLost s).cpt.replies = s.cpt.replies ∧
    (purgeTimeLost s).cpt.outgoing = s.cpt.outgoing ∧ (purgeTimeLost s).cpt.eventMap = s.cpt.eventMap ∧
    (purgeTimeLost s).cpt.hold = s.cpt.hold ∧ (purgeTimeLost s).cpt.crst = s.cpt.crst ∧
    (purgeTimeLost s).stl = s.stl ∧ (purgeTimeLost s).pins = s.pins ∧ (purgeTimeLost s).pinsAhead = s.pinsAhead ∧
    (purgeTimeLost s).pending = s.pending := by
  unfold purgeTimeLost; simp

@[simp] theorem purgeWithdrawn_frame (s : State) :
    (purgeWithdrawn s).bau = s.bau ∧ (purgeWithdrawn s).txs.slots = s.txs.slots ∧
    (purgeWithdrawn s).txs.nextSeq = s.txs.nextSeq ∧ (purgeWithdrawn s).txs.lateTimer = s.txs.lateTimer ∧
    (purgeWithdrawn s).txs.undeliverableTimer = s.txs.undeliverableTimer ∧
    (purgeWithdrawn s).txs.drainedReported = s.txs.drainedReported ∧ (purgeWithdrawn s).rxp = s.rxp ∧
    (purgeWithdrawn s).ptb = s.ptb ∧ (purgeWithdrawn s).tmu = s.tmu ∧ (purgeWithdrawn s).src = s.src ∧
    (purgeWithdrawn s).sec = s.sec ∧ (purgeWithdrawn s).alu = s.alu ∧ (purgeWithdrawn s).cpt.bits = s.cpt.bits ∧
    (purgeWithdrawn s).cpt.parser = s.cpt.parser ∧
    (purgeWithdrawn s).cpt.incoming = s.cpt.incoming ∧ (purgeWithdrawn s).cpt.replies = s.cpt.replies ∧
    (purgeWithdrawn s).cpt.outgoing = s.cpt.outgoing ∧ (purgeWithdrawn s).cpt.eventMap = s.cpt.eventMap ∧
    (purgeWithdrawn s).cpt.hold = s.cpt.hold ∧ (purgeWithdrawn s).cpt.crst = s.cpt.crst ∧
    (purgeWithdrawn s).stl = s.stl ∧ (purgeWithdrawn s).pins = s.pins ∧ (purgeWithdrawn s).pinsAhead = s.pinsAhead ∧
    (purgeWithdrawn s).pending = s.pending := by
  unfold purgeWithdrawn; simp

@[simp] theorem retireLate_frame (s : State) (e : QueueEntry) :
    (retireLate e s).bau = s.bau ∧ (retireLate e s).txs.queues = s.txs.queues ∧
    (retireLate e s).txs.slots = s.txs.slots ∧ (retireLate e s).txs.nextSeq = s.txs.nextSeq ∧
    (retireLate e s).txs.undeliverableTimer = s.txs.undeliverableTimer ∧
    (retireLate e s).txs.drainedReported = s.txs.drainedReported ∧ (retireLate e s).rxp = s.rxp ∧
    (retireLate e s).ptb = s.ptb ∧ (retireLate e s).tmu = s.tmu ∧ (retireLate e s).src = s.src ∧
    (retireLate e s).sec = s.sec ∧ (retireLate e s).alu.intervalTimer = s.alu.intervalTimer ∧
    (retireLate e s).alu.alert = s.alu.alert ∧ (retireLate e s).alu.collector = s.alu.collector ∧
    (retireLate e s).cpt.bits = s.cpt.bits ∧
    (retireLate e s).cpt.parser = s.cpt.parser ∧ (retireLate e s).cpt.incoming = s.cpt.incoming ∧
    (retireLate e s).cpt.replies = s.cpt.replies ∧ (retireLate e s).cpt.outgoing = s.cpt.outgoing ∧
    (retireLate e s).cpt.eventMap = s.cpt.eventMap ∧ (retireLate e s).cpt.hold = s.cpt.hold ∧
    (retireLate e s).cpt.crst = s.cpt.crst ∧ (retireLate e s).stl = s.stl ∧ (retireLate e s).pins = s.pins ∧
    (retireLate e s).pinsAhead = s.pinsAhead ∧
    (retireLate e s).pending = s.pending := by
  unfold retireLate; dsimp only; simp

@[simp] theorem retireAll_frame (s : State) (l : List QueueEntry) :
    (retireAll l s).bau = s.bau ∧ (retireAll l s).txs.queues = s.txs.queues ∧
    (retireAll l s).txs.slots = s.txs.slots ∧ (retireAll l s).txs.nextSeq = s.txs.nextSeq ∧
    (retireAll l s).txs.undeliverableTimer = s.txs.undeliverableTimer ∧
    (retireAll l s).txs.drainedReported = s.txs.drainedReported ∧ (retireAll l s).rxp = s.rxp ∧
    (retireAll l s).ptb = s.ptb ∧ (retireAll l s).tmu = s.tmu ∧ (retireAll l s).src = s.src ∧
    (retireAll l s).sec = s.sec ∧ (retireAll l s).alu.intervalTimer = s.alu.intervalTimer ∧
    (retireAll l s).alu.alert = s.alu.alert ∧ (retireAll l s).alu.collector = s.alu.collector ∧
    (retireAll l s).cpt.bits = s.cpt.bits ∧
    (retireAll l s).cpt.parser = s.cpt.parser ∧ (retireAll l s).cpt.incoming = s.cpt.incoming ∧
    (retireAll l s).cpt.replies = s.cpt.replies ∧ (retireAll l s).cpt.outgoing = s.cpt.outgoing ∧
    (retireAll l s).cpt.eventMap = s.cpt.eventMap ∧ (retireAll l s).cpt.hold = s.cpt.hold ∧
    (retireAll l s).cpt.crst = s.cpt.crst ∧ (retireAll l s).stl = s.stl ∧ (retireAll l s).pins = s.pins ∧
    (retireAll l s).pinsAhead = s.pinsAhead ∧
    (retireAll l s).pending = s.pending := by
  induction l generalizing s with
  | nil => simp [retireAll]
  | cons e l ih => unfold retireAll; simp [ih]

@[simp] theorem sweepLate_frame (s : State) :
    (sweepLate s).bau = s.bau ∧ (sweepLate s).txs.slots = s.txs.slots ∧ (sweepLate s).txs.nextSeq = s.txs.nextSeq ∧
    (sweepLate s).txs.undeliverableTimer = s.txs.undeliverableTimer ∧
    (sweepLate s).txs.drainedReported = s.txs.drainedReported ∧ (sweepLate s).rxp = s.rxp ∧
    (sweepLate s).ptb = s.ptb ∧ (sweepLate s).tmu = s.tmu ∧ (sweepLate s).src = s.src ∧ (sweepLate s).sec = s.sec ∧
    (sweepLate s).alu.intervalTimer = s.alu.intervalTimer ∧ (sweepLate s).alu.alert = s.alu.alert ∧
    (sweepLate s).alu.collector = s.alu.collector ∧ (sweepLate s).cpt.bits = s.cpt.bits ∧
    (sweepLate s).cpt.parser = s.cpt.parser ∧
    (sweepLate s).cpt.incoming = s.cpt.incoming ∧ (sweepLate s).cpt.replies = s.cpt.replies ∧
    (sweepLate s).cpt.outgoing = s.cpt.outgoing ∧ (sweepLate s).cpt.eventMap = s.cpt.eventMap ∧
    (sweepLate s).cpt.hold = s.cpt.hold ∧ (sweepLate s).cpt.crst = s.cpt.crst ∧ (sweepLate s).stl = s.stl ∧
    (sweepLate s).pins = s.pins ∧ (sweepLate s).pinsAhead = s.pinsAhead ∧
    (sweepLate s).pending = s.pending := by
  unfold sweepLate; dsimp only; simp

@[simp] theorem reportDrained_frame (s : State) :
    (reportDrained s).bau = s.bau ∧ (reportDrained s).txs.queues = s.txs.queues ∧
    (reportDrained s).txs.storeFree = s.txs.storeFree ∧ (reportDrained s).txs.nextSeq = s.txs.nextSeq ∧
    (reportDrained s).txs.lateTimer = s.txs.lateTimer ∧
    (reportDrained s).txs.undeliverableTimer = s.txs.undeliverableTimer ∧ (reportDrained s).rxp = s.rxp ∧
    (reportDrained s).ptb = s.ptb ∧ (reportDrained s).tmu = s.tmu ∧ (reportDrained s).src = s.src ∧
    (reportDrained s).sec = s.sec ∧ (reportDrained s).alu = s.alu ∧ (reportDrained s).cpt = s.cpt ∧
    (reportDrained s).stl = s.stl ∧ (reportDrained s).counters = s.counters ∧ (reportDrained s).pins = s.pins ∧
    (reportDrained s).pinsAhead = s.pinsAhead ∧
    (reportDrained s).pending = s.pending := by
  unfold reportDrained; dsimp only; (repeat' split) <;> simp

@[simp] theorem leaveQueue_frame (s : State) (c : CardClass) (e : QueueEntry) :
    (leaveQueue c e s).bau = s.bau ∧ (leaveQueue c e s).txs.slots = s.txs.slots ∧
    (leaveQueue c e s).txs.nextSeq = s.txs.nextSeq ∧ (leaveQueue c e s).txs.lateTimer = s.txs.lateTimer ∧
    (leaveQueue c e s).txs.undeliverableTimer = s.txs.undeliverableTimer ∧
    (leaveQueue c e s).txs.drainedReported = s.txs.drainedReported ∧ (leaveQueue c e s).rxp = s.rxp ∧
    (leaveQueue c e s).ptb = s.ptb ∧ (leaveQueue c e s).tmu = s.tmu ∧ (leaveQueue c e s).src = s.src ∧
    (leaveQueue c e s).sec = s.sec ∧ (leaveQueue c e s).alu = s.alu ∧ (leaveQueue c e s).cpt = s.cpt ∧
    (leaveQueue c e s).stl = s.stl ∧ (leaveQueue c e s).counters = s.counters ∧
    (leaveQueue c e s).pins = s.pins ∧ (leaveQueue c e s).pinsAhead = s.pinsAhead ∧
    (leaveQueue c e s).pending = s.pending := by
  unfold leaveQueue; simp

@[simp] theorem retireFlight_frame (s : State) (c : CardClass) (e : QueueEntry) (code : ResultCode) :
    (retireFlight c e code s).bau = s.bau ∧ (retireFlight c e code s).txs.slots = s.txs.slots ∧
    (retireFlight c e code s).txs.nextSeq = s.txs.nextSeq ∧
    (retireFlight c e code s).txs.lateTimer = s.txs.lateTimer ∧
    (retireFlight c e code s).txs.undeliverableTimer = s.txs.undeliverableTimer ∧
    (retireFlight c e code s).txs.drainedReported = s.txs.drainedReported ∧ (retireFlight c e code s).rxp = s.rxp ∧
    (retireFlight c e code s).ptb = s.ptb ∧ (retireFlight c e code s).tmu = s.tmu ∧
    (retireFlight c e code s).src = s.src ∧ (retireFlight c e code s).sec = s.sec ∧
    (retireFlight c e code s).alu = s.alu ∧ (retireFlight c e code s).cpt.bits = s.cpt.bits ∧
    (retireFlight c e code s).cpt.parser = s.cpt.parser ∧
    (retireFlight c e code s).cpt.incoming = s.cpt.incoming ∧
    (retireFlight c e code s).cpt.replies = s.cpt.replies ∧
    (retireFlight c e code s).cpt.outgoing = s.cpt.outgoing ∧
    (retireFlight c e code s).cpt.eventMap = s.cpt.eventMap ∧ (retireFlight c e code s).cpt.hold = s.cpt.hold ∧
    (retireFlight c e code s).cpt.crst = s.cpt.crst ∧ (retireFlight c e code s).stl = s.stl ∧
    (retireFlight c e code s).pins = s.pins ∧ (retireFlight c e code s).pinsAhead = s.pinsAhead ∧
    (retireFlight c e code s).pending = s.pending := by
  unfold retireFlight; simp

@[simp] theorem returnFlight_frame (s : State) (c : CardClass) (n : Nat) :
    (returnFlight c n s).bau = s.bau ∧ (returnFlight c n s).txs.slots = s.txs.slots ∧
    (returnFlight c n s).txs.nextSeq = s.txs.nextSeq ∧
    (returnFlight c n s).txs.undeliverableTimer = s.txs.undeliverableTimer ∧
    (returnFlight c n s).txs.drainedReported = s.txs.drainedReported ∧ (returnFlight c n s).rxp = s.rxp ∧
    (returnFlight c n s).ptb = s.ptb ∧ (returnFlight c n s).tmu = s.tmu ∧ (returnFlight c n s).src = s.src ∧
    (returnFlight c n s).sec = s.sec ∧ (returnFlight c n s).alu.intervalTimer = s.alu.intervalTimer ∧
    (returnFlight c n s).alu.alert = s.alu.alert ∧ (returnFlight c n s).alu.collector = s.alu.collector ∧
    (returnFlight c n s).cpt.bits = s.cpt.bits ∧
    (returnFlight c n s).cpt.parser = s.cpt.parser ∧ (returnFlight c n s).cpt.incoming = s.cpt.incoming ∧
    (returnFlight c n s).cpt.replies = s.cpt.replies ∧ (returnFlight c n s).cpt.outgoing = s.cpt.outgoing ∧
    (returnFlight c n s).cpt.eventMap = s.cpt.eventMap ∧ (returnFlight c n s).cpt.hold = s.cpt.hold ∧
    (returnFlight c n s).cpt.crst = s.cpt.crst ∧ (returnFlight c n s).stl = s.stl ∧
    (returnFlight c n s).pins = s.pins ∧ (returnFlight c n s).pinsAhead = s.pinsAhead ∧
    (returnFlight c n s).pending = s.pending := by
  unfold returnFlight; dsimp only; (repeat' split) <;> simp

@[simp] theorem blockPeer_frame (s : State) (d : Dest) :
    (blockPeer d s).bau = s.bau ∧ (blockPeer d s).txs = s.txs ∧ (blockPeer d s).rxp = s.rxp ∧
    (blockPeer d s).tmu = s.tmu ∧ (blockPeer d s).src = s.src ∧ (blockPeer d s).sec = s.sec ∧
    (blockPeer d s).alu = s.alu ∧ (blockPeer d s).cpt = s.cpt ∧ (blockPeer d s).stl = s.stl ∧
    (blockPeer d s).counters = s.counters ∧ (blockPeer d s).pins = s.pins ∧ (blockPeer d s).pinsAhead = s.pinsAhead ∧
    (blockPeer d s).pending = s.pending := by
  unfold blockPeer; dsimp only; (repeat' split) <;> simp

@[simp] theorem outcomeMarked_frame (s : State) (c : CardClass) (e : QueueEntry) (code : ResultCode) (o : TxOutcome) :
    (outcomeMarked c e code o s).bau = s.bau ∧ (outcomeMarked c e code o s).txs.slots = s.txs.slots ∧
    (outcomeMarked c e code o s).txs.nextSeq = s.txs.nextSeq ∧
    (outcomeMarked c e code o s).txs.lateTimer = s.txs.lateTimer ∧
    (outcomeMarked c e code o s).txs.undeliverableTimer = s.txs.undeliverableTimer ∧
    (outcomeMarked c e code o s).txs.drainedReported = s.txs.drainedReported ∧
    (outcomeMarked c e code o s).rxp = s.rxp ∧ (outcomeMarked c e code o s).ptb = s.ptb ∧
    (outcomeMarked c e code o s).tmu = s.tmu ∧ (outcomeMarked c e code o s).src = s.src ∧
    (outcomeMarked c e code o s).sec = s.sec ∧ (outcomeMarked c e code o s).alu = s.alu ∧
    (outcomeMarked c e code o s).cpt.bits = s.cpt.bits ∧
    (outcomeMarked c e code o s).cpt.parser = s.cpt.parser ∧
    (outcomeMarked c e code o s).cpt.incoming = s.cpt.incoming ∧
    (outcomeMarked c e code o s).cpt.replies = s.cpt.replies ∧
    (outcomeMarked c e code o s).cpt.outgoing = s.cpt.outgoing ∧
    (outcomeMarked c e code o s).cpt.eventMap = s.cpt.eventMap ∧
    (outcomeMarked c e code o s).cpt.hold = s.cpt.hold ∧ (outcomeMarked c e code o s).cpt.crst = s.cpt.crst ∧
    (outcomeMarked c e code o s).stl = s.stl ∧ (outcomeMarked c e code o s).pins = s.pins ∧
    (outcomeMarked c e code o s).pinsAhead = s.pinsAhead ∧
    (outcomeMarked c e code o s).pending = s.pending := by
  unfold outcomeMarked; dsimp only; (repeat' split) <;> simp

@[simp] theorem outcomeNoReply_frame (s : State) (c : CardClass) (e : QueueEntry) :
    (outcomeNoReply c e s).bau = s.bau ∧ (outcomeNoReply c e s).txs.slots = s.txs.slots ∧
    (outcomeNoReply c e s).txs.nextSeq = s.txs.nextSeq ∧
    (outcomeNoReply c e s).txs.drainedReported = s.txs.drainedReported ∧ (outcomeNoReply c e s).rxp = s.rxp ∧
    (outcomeNoReply c e s).ptb = s.ptb ∧ (outcomeNoReply c e s).tmu = s.tmu ∧ (outcomeNoReply c e s).src = s.src ∧
    (outcomeNoReply c e s).sec = s.sec ∧ (outcomeNoReply c e s).alu.intervalTimer = s.alu.intervalTimer ∧
    (outcomeNoReply c e s).alu.alert = s.alu.alert ∧ (outcomeNoReply c e s).alu.collector = s.alu.collector ∧
    (outcomeNoReply c e s).cpt.bits = s.cpt.bits ∧
    (outcomeNoReply c e s).cpt.parser = s.cpt.parser ∧ (outcomeNoReply c e s).cpt.incoming = s.cpt.incoming ∧
    (outcomeNoReply c e s).cpt.replies = s.cpt.replies ∧ (outcomeNoReply c e s).cpt.outgoing = s.cpt.outgoing ∧
    (outcomeNoReply c e s).cpt.eventMap = s.cpt.eventMap ∧ (outcomeNoReply c e s).cpt.hold = s.cpt.hold ∧
    (outcomeNoReply c e s).cpt.crst = s.cpt.crst ∧ (outcomeNoReply c e s).stl = s.stl ∧
    (outcomeNoReply c e s).pins = s.pins ∧ (outcomeNoReply c e s).pinsAhead = s.pinsAhead ∧
    (outcomeNoReply c e s).pending = s.pending := by
  unfold outcomeNoReply; dsimp only; (repeat' split) <;> simp

@[simp] theorem cardOutcome_frame (s : State) (c : CardClass) (o : TxOutcome) :
    (cardOutcome c o s).bau = s.bau ∧ (cardOutcome c o s).txs.slots = s.txs.slots ∧
    (cardOutcome c o s).txs.nextSeq = s.txs.nextSeq ∧
    (cardOutcome c o s).txs.drainedReported = s.txs.drainedReported ∧ (cardOutcome c o s).rxp = s.rxp ∧
    (cardOutcome c o s).tmu = s.tmu ∧ (cardOutcome c o s).src = s.src ∧ (cardOutcome c o s).sec = s.sec ∧
    (cardOutcome c o s).alu.intervalTimer = s.alu.intervalTimer ∧ (cardOutcome c o s).alu.alert = s.alu.alert ∧
    (cardOutcome c o s).alu.collector = s.alu.collector ∧ (cardOutcome c o s).cpt.bits = s.cpt.bits ∧
    (cardOutcome c o s).cpt.parser = s.cpt.parser ∧
    (cardOutcome c o s).cpt.incoming = s.cpt.incoming ∧ (cardOutcome c o s).cpt.replies = s.cpt.replies ∧
    (cardOutcome c o s).cpt.outgoing = s.cpt.outgoing ∧ (cardOutcome c o s).cpt.eventMap = s.cpt.eventMap ∧
    (cardOutcome c o s).cpt.hold = s.cpt.hold ∧ (cardOutcome c o s).cpt.crst = s.cpt.crst ∧
    (cardOutcome c o s).stl = s.stl ∧ (cardOutcome c o s).pins = s.pins ∧
    (cardOutcome c o s).pinsAhead = s.pinsAhead ∧
    (cardOutcome c o s).pending = s.pending := by
  unfold cardOutcome; (repeat' split) <;> simp

@[simp] theorem lostOutcome_frame (s : State) (t : Transmission) (o : TxOutcome) :
    (lostOutcome t o s).bau = s.bau ∧ (lostOutcome t o s).txs.nextSeq = s.txs.nextSeq ∧
    (lostOutcome t o s).txs.drainedReported = s.txs.drainedReported ∧ (lostOutcome t o s).rxp = s.rxp ∧
    (lostOutcome t o s).tmu = s.tmu ∧ (lostOutcome t o s).src = s.src ∧ (lostOutcome t o s).sec = s.sec ∧
    (lostOutcome t o s).alu.intervalTimer = s.alu.intervalTimer ∧ (lostOutcome t o s).alu.alert = s.alu.alert ∧
    (lostOutcome t o s).alu.collector = s.alu.collector ∧ (lostOutcome t o s).cpt.bits = s.cpt.bits ∧
    (lostOutcome t o s).cpt.parser = s.cpt.parser ∧
    (lostOutcome t o s).cpt.incoming = s.cpt.incoming ∧ (lostOutcome t o s).cpt.replies = s.cpt.replies ∧
    (lostOutcome t o s).cpt.outgoing = s.cpt.outgoing ∧ (lostOutcome t o s).cpt.eventMap = s.cpt.eventMap ∧
    (lostOutcome t o s).cpt.hold = s.cpt.hold ∧ (lostOutcome t o s).cpt.crst = s.cpt.crst ∧
    (lostOutcome t o s).stl = s.stl ∧ (lostOutcome t o s).pins = s.pins ∧
    (lostOutcome t o s).pinsAhead = s.pinsAhead ∧
    (lostOutcome t o s).pending = s.pending := by
  unfold lostOutcome; (repeat' split) <;> simp

/-! ### How an own frame ends on the pair -/

@[simp] theorem judgeBroken_bau (s : State) (own : Bool) (c : BrokenCause) :
    (judgeBroken own c s).bau = { s.bau with pointer := 0 } := by
  simp [judgeBroken]

@[simp] theorem judgeBroken_frame (s : State) (own : Bool) (c : BrokenCause) :
    (judgeBroken own c s).txs = s.txs ∧ (judgeBroken own c s).rxp = s.rxp ∧ (judgeBroken own c s).ptb = s.ptb ∧
    (judgeBroken own c s).tmu = s.tmu ∧ (judgeBroken own c s).src = s.src ∧ (judgeBroken own c s).sec = s.sec ∧
    (judgeBroken own c s).alu = s.alu ∧ (judgeBroken own c s).cpt.bits = s.cpt.bits ∧
    (judgeBroken own c s).cpt.parser = s.cpt.parser ∧ (judgeBroken own c s).cpt.incoming = s.cpt.incoming ∧
    (judgeBroken own c s).cpt.replies = s.cpt.replies ∧ (judgeBroken own c s).cpt.outgoing = s.cpt.outgoing ∧
    (judgeBroken own c s).cpt.results = s.cpt.results ∧ (judgeBroken own c s).cpt.eventMap = s.cpt.eventMap ∧
    (judgeBroken own c s).cpt.hold = s.cpt.hold ∧ (judgeBroken own c s).cpt.crst = s.cpt.crst ∧
    (judgeBroken own c s).stl = s.stl ∧ (judgeBroken own c s).pins = s.pins ∧
    (judgeBroken own c s).pinsAhead = s.pinsAhead ∧ (judgeBroken own c s).pending = s.pending := by
  unfold judgeBroken; simp

@[simp] theorem countCollision_frame (s : State) :
    (countCollision s).bau.view = s.bau.view ∧ (countCollision s).bau.tx = s.bau.tx ∧
    (countCollision s).bau.rx = s.bau.rx ∧ (countCollision s).bau.pointer = s.bau.pointer ∧
    (countCollision s).bau.tickCount = s.bau.tickCount ∧ (countCollision s).bau.position = s.bau.position ∧
    (countCollision s).bau.positionNew = s.bau.positionNew ∧ (countCollision s).bau.reply = s.bau.reply ∧
    (countCollision s).txs = s.txs ∧ (countCollision s).rxp = s.rxp ∧ (countCollision s).ptb = s.ptb ∧
    (countCollision s).tmu = s.tmu ∧ (countCollision s).src = s.src ∧ (countCollision s).sec = s.sec ∧
    (countCollision s).alu.intervalTimer = s.alu.intervalTimer ∧ (countCollision s).alu.alert = s.alu.alert ∧
    (countCollision s).alu.collector = s.alu.collector ∧ (countCollision s).cpt.bits = s.cpt.bits ∧
    (countCollision s).cpt.parser = s.cpt.parser ∧ (countCollision s).cpt.incoming = s.cpt.incoming ∧
    (countCollision s).cpt.replies = s.cpt.replies ∧ (countCollision s).cpt.outgoing = s.cpt.outgoing ∧
    (countCollision s).cpt.results = s.cpt.results ∧ (countCollision s).cpt.eventMap = s.cpt.eventMap ∧
    (countCollision s).cpt.hold = s.cpt.hold ∧ (countCollision s).cpt.crst = s.cpt.crst ∧
    (countCollision s).stl = s.stl ∧ (countCollision s).pins = s.pins ∧ (countCollision s).pinsAhead = s.pinsAhead ∧
    (countCollision s).pending = s.pending := by
  unfold countCollision; dsimp only; split <;> simp

@[simp] theorem endSent_frame (s : State) (t : Transmission) :
    (endSent t s).bau.tickCount = s.bau.tickCount ∧ (endSent t s).bau.position = s.bau.position ∧
    (endSent t s).bau.positionNew = s.bau.positionNew ∧ (endSent t s).bau.reply = s.bau.reply ∧
    (endSent t s).txs.nextSeq = s.txs.nextSeq ∧ (endSent t s).txs.drainedReported = s.txs.drainedReported ∧
    (endSent t s).rxp = s.rxp ∧ (endSent t s).tmu = s.tmu ∧ (endSent t s).src = s.src ∧ (endSent t s).sec = s.sec ∧
    (endSent t s).alu.intervalTimer = s.alu.intervalTimer ∧ (endSent t s).alu.alert = s.alu.alert ∧
    (endSent t s).alu.collector = s.alu.collector ∧ (endSent t s).cpt.bits = s.cpt.bits ∧
    (endSent t s).cpt.parser = s.cpt.parser ∧ (endSent t s).cpt.incoming = s.cpt.incoming ∧
    (endSent t s).cpt.replies = s.cpt.replies ∧ (endSent t s).cpt.outgoing = s.cpt.outgoing ∧
    (endSent t s).cpt.eventMap = s.cpt.eventMap ∧ (endSent t s).cpt.hold = s.cpt.hold ∧
    (endSent t s).cpt.crst = s.cpt.crst ∧ (endSent t s).stl = s.stl ∧ (endSent t s).pins = s.pins ∧
    (endSent t s).pinsAhead = s.pinsAhead ∧ (endSent t s).pending = s.pending := by
  unfold endSent; dsimp only; (repeat' split) <;> simp

@[simp] theorem endCollided_frame (s : State) (t : Transmission) :
    (endCollided t s).bau.tickCount = s.bau.tickCount ∧ (endCollided t s).bau.position = s.bau.position ∧
    (endCollided t s).bau.positionNew = s.bau.positionNew ∧ (endCollided t s).bau.reply = s.bau.reply ∧
    (endCollided t s).txs.nextSeq = s.txs.nextSeq ∧ (endCollided t s).txs.drainedReported = s.txs.drainedReported ∧
    (endCollided t s).rxp = s.rxp ∧ (endCollided t s).tmu = s.tmu ∧ (endCollided t s).src = s.src ∧
    (endCollided t s).sec = s.sec ∧ (endCollided t s).alu.intervalTimer = s.alu.intervalTimer ∧
    (endCollided t s).alu.alert = s.alu.alert ∧ (endCollided t s).alu.collector = s.alu.collector ∧
    (endCollided t s).cpt.bits = s.cpt.bits ∧ (endCollided t s).cpt.parser = s.cpt.parser ∧
    (endCollided t s).cpt.incoming = s.cpt.incoming ∧ (endCollided t s).cpt.replies = s.cpt.replies ∧
    (endCollided t s).cpt.outgoing = s.cpt.outgoing ∧ (endCollided t s).cpt.eventMap = s.cpt.eventMap ∧
    (endCollided t s).cpt.hold = s.cpt.hold ∧ (endCollided t s).cpt.crst = s.cpt.crst ∧
    (endCollided t s).stl = s.stl ∧ (endCollided t s).pins = s.pins ∧ (endCollided t s).pinsAhead = s.pinsAhead ∧
    (endCollided t s).pending = s.pending := by
  unfold endCollided; dsimp only; simp

@[simp] theorem takeEnding_frame (s : State) :
    (takeEnding s).bau.tickCount = s.bau.tickCount ∧ (takeEnding s).bau.position = s.bau.position ∧
    (takeEnding s).bau.positionNew = s.bau.positionNew ∧ (takeEnding s).bau.reply = s.bau.reply ∧
    (takeEnding s).txs.nextSeq = s.txs.nextSeq ∧ (takeEnding s).txs.drainedReported = s.txs.drainedReported ∧
    (takeEnding s).rxp = s.rxp ∧ (takeEnding s).tmu = s.tmu ∧ (takeEnding s).src = s.src ∧
    (takeEnding s).sec = s.sec ∧ (takeEnding s).alu.intervalTimer = s.alu.intervalTimer ∧
    (takeEnding s).alu.alert = s.alu.alert ∧ (takeEnding s).alu.collector = s.alu.collector ∧
    (takeEnding s).cpt.bits = s.cpt.bits ∧ (takeEnding s).cpt.parser = s.cpt.parser ∧
    (takeEnding s).cpt.incoming = s.cpt.incoming ∧ (takeEnding s).cpt.replies = s.cpt.replies ∧
    (takeEnding s).cpt.outgoing = s.cpt.outgoing ∧ (takeEnding s).cpt.eventMap = s.cpt.eventMap ∧
    (takeEnding s).cpt.hold = s.cpt.hold ∧ (takeEnding s).cpt.crst = s.cpt.crst ∧ (takeEnding s).stl = s.stl ∧
    (takeEnding s).pins = s.pins ∧ (takeEnding s).pinsAhead = s.pinsAhead ∧ (takeEnding s).pending = s.pending := by
  unfold takeEnding; (repeat' split) <;> simp

/-- Nothing has ended where nothing is on the pair. -/
theorem takeEnding_of_silent {s : State} (h : s.bau.tx = none) : takeEnding s = s := by simp [takeEnding, h]

/-- A frame that is being sent has not ended (R9). -/
theorem takeEnding_of_sending {s : State} {t : Transmission} (h : s.bau.tx = some t) (ht : t.sending = true) :
    takeEnding s = s := by
  simp only [Transmission.sending, Bool.and_eq_true, Bool.not_eq_true'] at ht
  simp [takeEnding, h, ht.1.2, ht.2]

/-- A frame is not both: one that has ended has not collided (R9). -/
theorem not_collided_of_ended {t : Transmission} (h : t.ended = true) : t.collided = false := by
  simp only [Transmission.ended, Bool.and_eq_true, Bool.not_eq_true'] at h
  simp [Transmission.collided, h.1.1]

@[simp] theorem emptySlots_frame (s : State) (keep : InternalKind → Bool) :
    (emptySlots keep s).bau = s.bau ∧ (emptySlots keep s).txs.queues = s.txs.queues ∧
    (emptySlots keep s).txs.storeFree = s.txs.storeFree ∧ (emptySlots keep s).txs.nextSeq = s.txs.nextSeq ∧
    (emptySlots keep s).txs.lateTimer = s.txs.lateTimer ∧
    (emptySlots keep s).txs.undeliverableTimer = s.txs.undeliverableTimer ∧
    (emptySlots keep s).txs.drainedReported = s.txs.drainedReported ∧ (emptySlots keep s).rxp = s.rxp ∧
    (emptySlots keep s).ptb = s.ptb ∧ (emptySlots keep s).tmu = s.tmu ∧ (emptySlots keep s).src = s.src ∧
    (emptySlots keep s).sec = s.sec ∧ (emptySlots keep s).alu = s.alu ∧ (emptySlots keep s).cpt = s.cpt ∧
    (emptySlots keep s).stl = s.stl ∧ (emptySlots keep s).counters = s.counters ∧
    (emptySlots keep s).pins = s.pins ∧ (emptySlots keep s).pinsAhead = s.pinsAhead ∧
    (emptySlots keep s).pending = s.pending := by
  unfold emptySlots; simp

@[simp] theorem resetSequence_frame (s : State) (i : Slot) :
    (resetSequence i s).bau = s.bau ∧ (resetSequence i s).txs.storeFree = s.txs.storeFree ∧
    (resetSequence i s).txs.slots = s.txs.slots ∧ (resetSequence i s).txs.lateTimer = s.txs.lateTimer ∧
    (resetSequence i s).txs.undeliverableTimer = s.txs.undeliverableTimer ∧
    (resetSequence i s).txs.drainedReported = s.txs.drainedReported ∧ (resetSequence i s).rxp = s.rxp ∧
    (resetSequence i s).ptb = s.ptb ∧ (resetSequence i s).tmu = s.tmu ∧ (resetSequence i s).src = s.src ∧
    (resetSequence i s).sec = s.sec ∧ (resetSequence i s).alu = s.alu ∧ (resetSequence i s).cpt = s.cpt ∧
    (resetSequence i s).stl = s.stl ∧ (resetSequence i s).counters = s.counters ∧
    (resetSequence i s).pins = s.pins ∧ (resetSequence i s).pinsAhead = s.pinsAhead ∧
    (resetSequence i s).pending = s.pending := by
  unfold resetSequence; dsimp only; simp

@[simp] theorem advanceSequence_frame (s : State) (c : CardClass) (d : Dest) :
    (advanceSequence c d s).bau = s.bau ∧ (advanceSequence c d s).txs.queues = s.txs.queues ∧
    (advanceSequence c d s).txs.storeFree = s.txs.storeFree ∧ (advanceSequence c d s).txs.slots = s.txs.slots ∧
    (advanceSequence c d s).txs.lateTimer = s.txs.lateTimer ∧
    (advanceSequence c d s).txs.undeliverableTimer = s.txs.undeliverableTimer ∧
    (advanceSequence c d s).txs.drainedReported = s.txs.drainedReported ∧ (advanceSequence c d s).rxp = s.rxp ∧
    (advanceSequence c d s).ptb = s.ptb ∧ (advanceSequence c d s).tmu = s.tmu ∧
    (advanceSequence c d s).src = s.src ∧ (advanceSequence c d s).sec = s.sec ∧
    (advanceSequence c d s).alu = s.alu ∧ (advanceSequence c d s).cpt = s.cpt ∧
    (advanceSequence c d s).stl = s.stl ∧ (advanceSequence c d s).counters = s.counters ∧
    (advanceSequence c d s).pins = s.pins ∧ (advanceSequence c d s).pinsAhead = s.pinsAhead ∧
    (advanceSequence c d s).pending = s.pending := by
  unfold advanceSequence; dsimp only; (repeat' split) <;> simp

@[simp] theorem admitSend_frame (s : State) (c : CardClass) (m : SendRequest) :
    (admitSend c m s).bau = s.bau ∧ (admitSend c m s).txs.slots = s.txs.slots ∧
    (admitSend c m s).txs.lateTimer = s.txs.lateTimer ∧
    (admitSend c m s).txs.undeliverableTimer = s.txs.undeliverableTimer ∧
    (admitSend c m s).txs.drainedReported = s.txs.drainedReported ∧ (admitSend c m s).rxp = s.rxp ∧
    (admitSend c m s).ptb = s.ptb ∧ (admitSend c m s).tmu = s.tmu ∧ (admitSend c m s).src = s.src ∧
    (admitSend c m s).sec = s.sec ∧ (admitSend c m s).alu = s.alu ∧ (admitSend c m s).cpt = s.cpt ∧
    (admitSend c m s).stl = s.stl ∧ (admitSend c m s).counters = s.counters ∧ (admitSend c m s).pins = s.pins ∧
    (admitSend c m s).pinsAhead = s.pinsAhead ∧
    (admitSend c m s).pending = s.pending := by
  unfold admitSend; dsimp only; simp

@[simp] theorem releaseOn_frame (s : State) (g : Strobe) :
    (releaseOn g s).bau = s.bau ∧ (releaseOn g s).txs.storeFree = s.txs.storeFree ∧
    (releaseOn g s).txs.slots = s.txs.slots ∧ (releaseOn g s).txs.nextSeq = s.txs.nextSeq ∧
    (releaseOn g s).txs.lateTimer = s.txs.lateTimer ∧
    (releaseOn g s).txs.undeliverableTimer = s.txs.undeliverableTimer ∧
    (releaseOn g s).txs.drainedReported = s.txs.drainedReported ∧ (releaseOn g s).rxp = s.rxp ∧
    (releaseOn g s).ptb = s.ptb ∧ (releaseOn g s).tmu = s.tmu ∧ (releaseOn g s).src = s.src ∧
    (releaseOn g s).sec = s.sec ∧ (releaseOn g s).alu = s.alu ∧ (releaseOn g s).cpt = s.cpt ∧
    (releaseOn g s).stl = s.stl ∧ (releaseOn g s).counters = s.counters ∧ (releaseOn g s).pins = s.pins ∧
    (releaseOn g s).pinsAhead = s.pinsAhead ∧
    (releaseOn g s).pending = s.pending := by
  unfold releaseOn; simp

@[simp] theorem resetQueue_frame (s : State) (c : CardClass) :
    (resetQueue c s).bau = s.bau ∧ (resetQueue c s).txs.slots = s.txs.slots ∧
    (resetQueue c s).txs.nextSeq = s.txs.nextSeq ∧ (resetQueue c s).txs.lateTimer = s.txs.lateTimer ∧
    (resetQueue c s).txs.undeliverableTimer = s.txs.undeliverableTimer ∧
    (resetQueue c s).txs.drainedReported = s.txs.drainedReported ∧ (resetQueue c s).rxp = s.rxp ∧
    (resetQueue c s).ptb = s.ptb ∧ (resetQueue c s).tmu = s.tmu ∧ (resetQueue c s).src = s.src ∧
    (resetQueue c s).sec = s.sec ∧ (resetQueue c s).alu = s.alu ∧ (resetQueue c s).cpt = s.cpt ∧
    (resetQueue c s).stl = s.stl ∧ (resetQueue c s).counters = s.counters ∧ (resetQueue c s).pins = s.pins ∧
    (resetQueue c s).pinsAhead = s.pinsAhead ∧
    (resetQueue c s).pending = s.pending := by
  unfold resetQueue; simp

@[simp] theorem resetQueues_frame (s : State) :
    (resetQueues s).bau = s.bau ∧ (resetQueues s).txs.slots = s.txs.slots ∧
    (resetQueues s).txs.nextSeq = s.txs.nextSeq ∧ (resetQueues s).txs.lateTimer = s.txs.lateTimer ∧
    (resetQueues s).txs.undeliverableTimer = s.txs.undeliverableTimer ∧
    (resetQueues s).txs.drainedReported = s.txs.drainedReported ∧ (resetQueues s).rxp = s.rxp ∧
    (resetQueues s).ptb = s.ptb ∧ (resetQueues s).tmu = s.tmu ∧ (resetQueues s).src = s.src ∧
    (resetQueues s).sec = s.sec ∧ (resetQueues s).alu = s.alu ∧ (resetQueues s).cpt = s.cpt ∧
    (resetQueues s).stl = s.stl ∧ (resetQueues s).counters = s.counters ∧ (resetQueues s).pins = s.pins ∧
    (resetQueues s).pinsAhead = s.pinsAhead ∧
    (resetQueues s).pending = s.pending := by
  unfold resetQueues; simp

/-! ### No operation takes an event out of the pending set (R186) -/

@[simp] theorem countResults_events (s : State) (code : ResultCode) (k : Nat) {a : EventKind} (h : a ∈ s.cpt.events) :
    a ∈ (countResults code k s).cpt.events := by
  unfold countResults; (repeat' split) <;>
    (repeat (first | with_reducible apply bumpBy_events | simp [h] | exact h))

@[simp] theorem purgeQueue_events (s : State) (p : QueueEntry → Bool) (code : ResultCode) (c : CardClass) {a : EventKind} (h : a ∈ s.cpt.events) :
    a ∈ (purgeQueue p code c s).cpt.events := by
  unfold purgeQueue; dsimp only;
    (repeat (first | with_reducible apply countResults_events | simp [h] | exact h))

@[simp] theorem purgeQueues_events (s : State) (p : QueueEntry → Bool) (code : ResultCode) {a : EventKind} (h : a ∈ s.cpt.events) :
    a ∈ (purgeQueues p code s).cpt.events := by
  unfold purgeQueues;
    (repeat (first | with_reducible apply purgeQueue_events | simp [h] | exact h))

@[simp] theorem purgePeerLeft_events (s : State) (i : Slot) {a : EventKind} (h : a ∈ s.cpt.events) :
    a ∈ (purgePeerLeft i s).cpt.events := by
  unfold purgePeerLeft;
    (repeat (first | with_reducible apply purgeQueues_events | simp [h] | exact h))

@[simp] theorem purgeTimeLost_events (s : State) {a : EventKind} (h : a ∈ s.cpt.events) :
    a ∈ (purgeTimeLost s).cpt.events := by
  unfold purgeTimeLost;
    (repeat (first | with_reducible apply purgeQueue_events | simp [h] | exact h))

@[simp] theorem purgeWithdrawn_events (s : State) {a : EventKind} (h : a ∈ s.cpt.events) :
    a ∈ (purgeWithdrawn s).cpt.events := by
  unfold purgeWithdrawn;
    (repeat (first | with_reducible apply purgeQueues_events | simp [h] | exact h))

@[simp] theorem retireLate_events (s : State) (e : QueueEntry) {a : EventKind} (h : a ∈ s.cpt.events) :
    a ∈ (retireLate e s).cpt.events := by
  unfold retireLate; dsimp only;
    (repeat (first | with_reducible apply bump_events | with_reducible apply raiseInternal_events | simp [h] | exact h))

@[simp] theorem retireAll_events (s : State) (l : List QueueEntry) {a : EventKind} (h : a ∈ s.cpt.events) :
    a ∈ (retireAll l s).cpt.events := by
  induction l generalizing s with
  | nil => simpa [retireAll] using h
  | cons a l ih => unfold retireAll; exact ih _ (by simp [h])

@[simp] theorem sweepLate_events (s : State) {a : EventKind} (h : a ∈ s.cpt.events) :
    a ∈ (sweepLate s).cpt.events := by
  unfold sweepLate; dsimp only;
    (repeat (first | with_reducible apply retireAll_events | simp [h] | exact h))

@[simp] theorem retireFlight_events (s : State) (c : CardClass) (e : QueueEntry) (code : ResultCode) {a : EventKind} (h : a ∈ s.cpt.events) :
    a ∈ (retireFlight c e code s).cpt.events := by
  unfold retireFlight;
    (repeat (first | with_reducible apply countResults_events | simp [h] | exact h))

@[simp] theorem returnFlight_events (s : State) (c : CardClass) (n : Nat) {a : EventKind} (h : a ∈ s.cpt.events) :
    a ∈ (returnFlight c n s).cpt.events := by
  unfold returnFlight; dsimp only; (repeat' split) <;>
    (repeat (first | with_reducible apply sweepLate_events | simp [h] | exact h))

@[simp] theorem outcomeMarked_events (s : State) (c : CardClass) (e : QueueEntry) (code : ResultCode) (o : TxOutcome) {a : EventKind} (h : a ∈ s.cpt.events) :
    a ∈ (outcomeMarked c e code o s).cpt.events := by
  unfold outcomeMarked; dsimp only; (repeat' split) <;>
    (repeat (first | with_reducible apply bump_events | with_reducible apply retireFlight_events | simp [h] | exact h))

@[simp] theorem outcomeNoReply_events (s : State) (c : CardClass) (e : QueueEntry) {a : EventKind} (h : a ∈ s.cpt.events) :
    a ∈ (outcomeNoReply c e s).cpt.events := by
  unfold outcomeNoReply; dsimp only; (repeat' split) <;>
    (repeat (first | with_reducible apply raiseInternal_events | with_reducible apply retireFlight_events | with_reducible apply returnFlight_events | simp [h] | exact h))

@[simp] theorem cardOutcome_events (s : State) (c : CardClass) (o : TxOutcome) {a : EventKind} (h : a ∈ s.cpt.events) :
    a ∈ (cardOutcome c o s).cpt.events := by
  unfold cardOutcome; (repeat' split) <;>
    (repeat (first | with_reducible apply bump_events | with_reducible apply retireFlight_events | with_reducible apply returnFlight_events | with_reducible apply outcomeMarked_events | with_reducible apply outcomeNoReply_events | simp [h] | exact h))

@[simp] theorem lostOutcome_events (s : State) (t : Transmission) (o : TxOutcome) {a : EventKind} (h : a ∈ s.cpt.events) :
    a ∈ (lostOutcome t o s).cpt.events := by
  unfold lostOutcome; (repeat' split) <;>
    (repeat (first | with_reducible apply cardOutcome_events | simp [h] | exact h))

/-! ### Events that stay pending while an own frame ends -/

@[simp] theorem endSent_events (s : State) (t : Transmission) {a : EventKind} (h : a ∈ s.cpt.events) :
    a ∈ (endSent t s).cpt.events := by
  unfold endSent; dsimp only; (repeat' split) <;>
    (repeat (first | with_reducible apply cardOutcome_events | with_reducible apply clearKey_events | with_reducible apply bump_events | simp [h] | exact h))

@[simp] theorem countCollision_events (s : State) {a : EventKind} (h : a ∈ s.cpt.events) :
    a ∈ (countCollision s).cpt.events := by
  unfold countCollision; dsimp only; split <;>
    (repeat (first | with_reducible apply raiseInternal_events | simp [h] | exact h))

@[simp] theorem endCollided_events (s : State) (t : Transmission) {a : EventKind} (h : a ∈ s.cpt.events) :
    a ∈ (endCollided t s).cpt.events := by
  unfold endCollided judgeBroken; dsimp only;
    (repeat (first | with_reducible apply countCollision_events | with_reducible apply bump_events | with_reducible apply lostOutcome_events | simp [h] | exact h))

@[simp] theorem takeEnding_events (s : State) {a : EventKind} (h : a ∈ s.cpt.events) : a ∈ (takeEnding s).cpt.events := by
  unfold takeEnding; (repeat' split) <;>
    (repeat (first | with_reducible apply endSent_events | with_reducible apply endCollided_events | simp [h] | exact h))

end Sys2Proof.Machine
end

