-- ==== Sys2Proof/Laws/Receive.lean ====
section
/-! SUPPORT. What each operation of the receive pool leaves as it was, and what it does. -/

namespace Sys2Proof.Machine

open Sys2Proof

/-! ### Frames -/

@[simp] theorem testReady_frame (s : State) :
    (testReady s).bau = s.bau ∧ (testReady s).txs.queues = s.txs.queues ∧
    (testReady s).txs.storeFree = s.txs.storeFree ∧ (testReady s).txs.nextSeq = s.txs.nextSeq ∧
    (testReady s).txs.lateTimer = s.txs.lateTimer ∧
    (testReady s).txs.undeliverableTimer = s.txs.undeliverableTimer ∧
    (testReady s).txs.drainedReported = s.txs.drainedReported ∧ (testReady s).rxp.frames = s.rxp.frames ∧
    (testReady s).rxp.free = s.rxp.free ∧ (testReady s).rxp.refused = s.rxp.refused ∧
    (testReady s).rxp.readyLevel = s.rxp.readyLevel ∧ (testReady s).rxp.groups = s.rxp.groups ∧
    (testReady s).ptb = s.ptb ∧ (testReady s).tmu = s.tmu ∧ (testReady s).src = s.src ∧ (testReady s).sec = s.sec ∧
    (testReady s).alu = s.alu ∧ (testReady s).cpt = s.cpt ∧ (testReady s).stl = s.stl ∧
    (testReady s).counters = s.counters ∧ (testReady s).pins = s.pins ∧ (testReady s).pinsAhead = s.pinsAhead ∧
    (testReady s).pending = s.pending := by
  unfold testReady; dsimp only; (repeat' split) <;> simp

@[simp] theorem storeFrame_frame (s : State) (f : DataFrame) :
    (storeFrame f s).bau = s.bau ∧ (storeFrame f s).txs = s.txs ∧ (storeFrame f s).rxp.refused = s.rxp.refused ∧
    (storeFrame f s).rxp.readyOutstanding = s.rxp.readyOutstanding ∧
    (storeFrame f s).rxp.readyLevel = s.rxp.readyLevel ∧ (storeFrame f s).rxp.groups = s.rxp.groups ∧
    (storeFrame f s).ptb = s.ptb ∧ (storeFrame f s).tmu = s.tmu ∧ (storeFrame f s).src = s.src ∧
    (storeFrame f s).sec = s.sec ∧ (storeFrame f s).alu = s.alu ∧ (storeFrame f s).cpt.bits = s.cpt.bits ∧
    (storeFrame f s).cpt.parser = s.cpt.parser ∧
    (storeFrame f s).cpt.incoming = s.cpt.incoming ∧ (storeFrame f s).cpt.replies = s.cpt.replies ∧
    (storeFrame f s).cpt.outgoing = s.cpt.outgoing ∧ (storeFrame f s).cpt.results = s.cpt.results ∧
    (storeFrame f s).cpt.eventMap = s.cpt.eventMap ∧ (storeFrame f s).cpt.hold = s.cpt.hold ∧
    (storeFrame f s).cpt.crst = s.cpt.crst ∧ (storeFrame f s).stl = s.stl ∧ (storeFrame f s).pins = s.pins ∧
    (storeFrame f s).pinsAhead = s.pinsAhead ∧
    (storeFrame f s).pending = s.pending := by
  unfold storeFrame; dsimp only; (repeat' split) <;> simp

@[simp] theorem setReply_frame (s : State) (code : ReplyCode) :
    (setReply code s).bau.view = s.bau.view ∧ (setReply code s).bau.position = s.bau.position ∧
    (setReply code s).bau.positionNew = s.bau.positionNew ∧ (setReply code s).bau.pointer = s.bau.pointer ∧
    (setReply code s).bau.collisions = s.bau.collisions ∧ (setReply code s).bau.tickCount = s.bau.tickCount ∧
    (setReply code s).bau.tx = s.bau.tx ∧ (setReply code s).bau.rx = s.bau.rx ∧ (setReply code s).txs = s.txs ∧
    (setReply code s).rxp = s.rxp ∧ (setReply code s).ptb = s.ptb ∧ (setReply code s).tmu = s.tmu ∧
    (setReply code s).src = s.src ∧ (setReply code s).sec = s.sec ∧ (setReply code s).alu = s.alu ∧
    (setReply code s).cpt = s.cpt ∧ (setReply code s).stl = s.stl ∧ (setReply code s).counters = s.counters ∧
    (setReply code s).pins = s.pins ∧ (setReply code s).pinsAhead = s.pinsAhead ∧
    (setReply code s).pending = s.pending := by
  unfold setReply; dsimp only; simp

@[simp] theorem setAccepted_frame (s : State) (i : Slot) (c : CardClass) (q : Byte) :
    (setAccepted i c q s).bau = s.bau ∧ (setAccepted i c q s).txs = s.txs ∧ (setAccepted i c q s).rxp = s.rxp ∧
    (setAccepted i c q s).tmu = s.tmu ∧ (setAccepted i c q s).src = s.src ∧ (setAccepted i c q s).sec = s.sec ∧
    (setAccepted i c q s).alu = s.alu ∧ (setAccepted i c q s).cpt = s.cpt ∧ (setAccepted i c q s).stl = s.stl ∧
    (setAccepted i c q s).counters = s.counters ∧ (setAccepted i c q s).pins = s.pins ∧
    (setAccepted i c q s).pinsAhead = s.pinsAhead ∧
    (setAccepted i c q s).pending = s.pending := by
  unfold setAccepted; dsimp only; simp

@[simp] theorem countGapOf_frame (s : State) (f : DataFrame) :
    (countGapOf f s).bau = s.bau ∧ (countGapOf f s).txs = s.txs ∧ (countGapOf f s).rxp = s.rxp ∧
    (countGapOf f s).tmu = s.tmu ∧ (countGapOf f s).src = s.src ∧ (countGapOf f s).sec = s.sec ∧
    (countGapOf f s).alu = s.alu ∧ (countGapOf f s).cpt.bits = s.cpt.bits ∧
    (countGapOf f s).cpt.parser = s.cpt.parser ∧
    (countGapOf f s).cpt.incoming = s.cpt.incoming ∧ (countGapOf f s).cpt.replies = s.cpt.replies ∧
    (countGapOf f s).cpt.outgoing = s.cpt.outgoing ∧ (countGapOf f s).cpt.results = s.cpt.results ∧
    (countGapOf f s).cpt.eventMap = s.cpt.eventMap ∧ (countGapOf f s).cpt.hold = s.cpt.hold ∧
    (countGapOf f s).cpt.crst = s.cpt.crst ∧ (countGapOf f s).stl = s.stl ∧ (countGapOf f s).pins = s.pins ∧
    (countGapOf f s).pinsAhead = s.pinsAhead ∧
    (countGapOf f s).pending = s.pending := by
  unfold countGapOf; (repeat' split) <;> simp

@[simp] theorem takeDuplicate_frame (s : State) (f : DataFrame) :
    (takeDuplicate f s).bau.view = s.bau.view ∧ (takeDuplicate f s).bau.position = s.bau.position ∧
    (takeDuplicate f s).bau.positionNew = s.bau.positionNew ∧ (takeDuplicate f s).bau.pointer = s.bau.pointer ∧
    (takeDuplicate f s).bau.collisions = s.bau.collisions ∧ (takeDuplicate f s).bau.tickCount = s.bau.tickCount ∧
    (takeDuplicate f s).bau.tx = s.bau.tx ∧ (takeDuplicate f s).bau.rx = s.bau.rx ∧
    (takeDuplicate f s).txs = s.txs ∧ (takeDuplicate f s).rxp = s.rxp ∧ (takeDuplicate f s).tmu = s.tmu ∧
    (takeDuplicate f s).src = s.src ∧ (takeDuplicate f s).sec = s.sec ∧ (takeDuplicate f s).alu = s.alu ∧
    (takeDuplicate f s).cpt.bits = s.cpt.bits ∧
    (takeDuplicate f s).cpt.parser = s.cpt.parser ∧ (takeDuplicate f s).cpt.incoming = s.cpt.incoming ∧
    (takeDuplicate f s).cpt.replies = s.cpt.replies ∧ (takeDuplicate f s).cpt.outgoing = s.cpt.outgoing ∧
    (takeDuplicate f s).cpt.results = s.cpt.results ∧ (takeDuplicate f s).cpt.eventMap = s.cpt.eventMap ∧
    (takeDuplicate f s).cpt.hold = s.cpt.hold ∧ (takeDuplicate f s).cpt.crst = s.cpt.crst ∧
    (takeDuplicate f s).stl = s.stl ∧ (takeDuplicate f s).pins = s.pins ∧
    (takeDuplicate f s).pinsAhead = s.pinsAhead ∧
    (takeDuplicate f s).pending = s.pending := by
  unfold takeDuplicate; simp

@[simp] theorem acceptUnicast_frame (s : State) (f : DataFrame) :
    (acceptUnicast f s).bau.view = s.bau.view ∧ (acceptUnicast f s).bau.position = s.bau.position ∧
    (acceptUnicast f s).bau.positionNew = s.bau.positionNew ∧ (acceptUnicast f s).bau.pointer = s.bau.pointer ∧
    (acceptUnicast f s).bau.collisions = s.bau.collisions ∧ (acceptUnicast f s).bau.tickCount = s.bau.tickCount ∧
    (acceptUnicast f s).bau.tx = s.bau.tx ∧ (acceptUnicast f s).bau.rx = s.bau.rx ∧
    (acceptUnicast f s).txs = s.txs ∧ (acceptUnicast f s).rxp.refused = s.rxp.refused ∧
    (acceptUnicast f s).rxp.readyOutstanding = s.rxp.readyOutstanding ∧
    (acceptUnicast f s).rxp.readyLevel = s.rxp.readyLevel ∧ (acceptUnicast f s).rxp.groups = s.rxp.groups ∧
    (acceptUnicast f s).tmu = s.tmu ∧ (acceptUnicast f s).src = s.src ∧ (acceptUnicast f s).sec = s.sec ∧
    (acceptUnicast f s).alu = s.alu ∧ (acceptUnicast f s).cpt.bits = s.cpt.bits ∧
    (acceptUnicast f s).cpt.parser = s.cpt.parser ∧
    (acceptUnicast f s).cpt.incoming = s.cpt.incoming ∧ (acceptUnicast f s).cpt.replies = s.cpt.replies ∧
    (acceptUnicast f s).cpt.outgoing = s.cpt.outgoing ∧ (acceptUnicast f s).cpt.results = s.cpt.results ∧
    (acceptUnicast f s).cpt.eventMap = s.cpt.eventMap ∧ (acceptUnicast f s).cpt.hold = s.cpt.hold ∧
    (acceptUnicast f s).cpt.crst = s.cpt.crst ∧ (acceptUnicast f s).stl = s.stl ∧
    (acceptUnicast f s).pins = s.pins ∧ (acceptUnicast f s).pinsAhead = s.pinsAhead ∧
    (acceptUnicast f s).pending = s.pending := by
  unfold acceptUnicast; simp

@[simp] theorem refuseUnicast_frame (s : State) (f : DataFrame) :
    (refuseUnicast f s).bau.view = s.bau.view ∧ (refuseUnicast f s).bau.position = s.bau.position ∧
    (refuseUnicast f s).bau.positionNew = s.bau.positionNew ∧ (refuseUnicast f s).bau.pointer = s.bau.pointer ∧
    (refuseUnicast f s).bau.collisions = s.bau.collisions ∧ (refuseUnicast f s).bau.tickCount = s.bau.tickCount ∧
    (refuseUnicast f s).bau.tx = s.bau.tx ∧ (refuseUnicast f s).bau.rx = s.bau.rx ∧
    (refuseUnicast f s).txs.queues = s.txs.queues ∧ (refuseUnicast f s).txs.storeFree = s.txs.storeFree ∧
    (refuseUnicast f s).txs.nextSeq = s.txs.nextSeq ∧ (refuseUnicast f s).txs.lateTimer = s.txs.lateTimer ∧
    (refuseUnicast f s).txs.undeliverableTimer = s.txs.undeliverableTimer ∧
    (refuseUnicast f s).txs.drainedReported = s.txs.drainedReported ∧
    (refuseUnicast f s).rxp.frames = s.rxp.frames ∧ (refuseUnicast f s).rxp.free = s.rxp.free ∧
    (refuseUnicast f s).rxp.readyLevel = s.rxp.readyLevel ∧ (refuseUnicast f s).rxp.groups = s.rxp.groups ∧
    (refuseUnicast f s).ptb = s.ptb ∧ (refuseUnicast f s).tmu = s.tmu ∧ (refuseUnicast f s).src = s.src ∧
    (refuseUnicast f s).sec = s.sec ∧ (refuseUnicast f s).alu.intervalTimer = s.alu.intervalTimer ∧
    (refuseUnicast f s).alu.alert = s.alu.alert ∧ (refuseUnicast f s).alu.collector = s.alu.collector ∧
    (refuseUnicast f s).cpt.bits = s.cpt.bits ∧
    (refuseUnicast f s).cpt.parser = s.cpt.parser ∧ (refuseUnicast f s).cpt.incoming = s.cpt.incoming ∧
    (refuseUnicast f s).cpt.replies = s.cpt.replies ∧ (refuseUnicast f s).cpt.outgoing = s.cpt.outgoing ∧
    (refuseUnicast f s).cpt.results = s.cpt.results ∧ (refuseUnicast f s).cpt.eventMap = s.cpt.eventMap ∧
    (refuseUnicast f s).cpt.hold = s.cpt.hold ∧ (refuseUnicast f s).cpt.crst = s.cpt.crst ∧
    (refuseUnicast f s).stl = s.stl ∧ (refuseUnicast f s).pins = s.pins ∧
    (refuseUnicast f s).pinsAhead = s.pinsAhead ∧
    (refuseUnicast f s).pending = s.pending := by
  unfold refuseUnicast; dsimp only; simp

@[simp] theorem takeUnicast_frame (s : State) (f : DataFrame) :
    (takeUnicast f s).bau.view = s.bau.view ∧ (takeUnicast f s).bau.position = s.bau.position ∧
    (takeUnicast f s).bau.positionNew = s.bau.positionNew ∧ (takeUnicast f s).bau.pointer = s.bau.pointer ∧
    (takeUnicast f s).bau.collisions = s.bau.collisions ∧ (takeUnicast f s).bau.tickCount = s.bau.tickCount ∧
    (takeUnicast f s).bau.tx = s.bau.tx ∧ (takeUnicast f s).bau.rx = s.bau.rx ∧
    (takeUnicast f s).txs.queues = s.txs.queues ∧ (takeUnicast f s).txs.storeFree = s.txs.storeFree ∧
    (takeUnicast f s).txs.nextSeq = s.txs.nextSeq ∧ (takeUnicast f s).txs.lateTimer = s.txs.lateTimer ∧
    (takeUnicast f s).txs.undeliverableTimer = s.txs.undeliverableTimer ∧
    (takeUnicast f s).txs.drainedReported = s.txs.drainedReported ∧
    (takeUnicast f s).rxp.readyLevel = s.rxp.readyLevel ∧ (takeUnicast f s).rxp.groups = s.rxp.groups ∧
    (takeUnicast f s).tmu = s.tmu ∧ (takeUnicast f s).src = s.src ∧ (takeUnicast f s).sec = s.sec ∧
    (takeUnicast f s).alu.intervalTimer = s.alu.intervalTimer ∧ (takeUnicast f s).alu.alert = s.alu.alert ∧
    (takeUnicast f s).alu.collector = s.alu.collector ∧ (takeUnicast f s).cpt.bits = s.cpt.bits ∧
    (takeUnicast f s).cpt.parser = s.cpt.parser ∧
    (takeUnicast f s).cpt.incoming = s.cpt.incoming ∧ (takeUnicast f s).cpt.replies = s.cpt.replies ∧
    (takeUnicast f s).cpt.outgoing = s.cpt.outgoing ∧ (takeUnicast f s).cpt.results = s.cpt.results ∧
    (takeUnicast f s).cpt.eventMap = s.cpt.eventMap ∧ (takeUnicast f s).cpt.hold = s.cpt.hold ∧
    (takeUnicast f s).cpt.crst = s.cpt.crst ∧ (takeUnicast f s).stl = s.stl ∧ (takeUnicast f s).pins = s.pins ∧
    (takeUnicast f s).pinsAhead = s.pinsAhead ∧
    (takeUnicast f s).pending = s.pending := by
  unfold takeUnicast; (repeat' split) <;> simp

@[simp] theorem takeGroup_frame (s : State) (f : DataFrame) :
    (takeGroup f s).bau = s.bau ∧ (takeGroup f s).txs = s.txs ∧ (takeGroup f s).rxp.refused = s.rxp.refused ∧
    (takeGroup f s).rxp.readyOutstanding = s.rxp.readyOutstanding ∧
    (takeGroup f s).rxp.readyLevel = s.rxp.readyLevel ∧ (takeGroup f s).rxp.groups = s.rxp.groups ∧
    (takeGroup f s).ptb = s.ptb ∧ (takeGroup f s).tmu = s.tmu ∧ (takeGroup f s).src = s.src ∧
    (takeGroup f s).sec = s.sec ∧ (takeGroup f s).alu = s.alu ∧ (takeGroup f s).cpt.bits = s.cpt.bits ∧
    (takeGroup f s).cpt.parser = s.cpt.parser ∧
    (takeGroup f s).cpt.incoming = s.cpt.incoming ∧ (takeGroup f s).cpt.replies = s.cpt.replies ∧
    (takeGroup f s).cpt.outgoing = s.cpt.outgoing ∧ (takeGroup f s).cpt.results = s.cpt.results ∧
    (takeGroup f s).cpt.eventMap = s.cpt.eventMap ∧ (takeGroup f s).cpt.hold = s.cpt.hold ∧
    (takeGroup f s).cpt.crst = s.cpt.crst ∧ (takeGroup f s).stl = s.stl ∧ (takeGroup f s).pins = s.pins ∧
    (takeGroup f s).pinsAhead = s.pinsAhead ∧
    (takeGroup f s).pending = s.pending := by
  unfold takeGroup; (repeat' split) <;> simp

@[simp] theorem poolTake_frame (s : State) (f : DataFrame) :
    (poolTake f s).bau.view = s.bau.view ∧ (poolTake f s).bau.position = s.bau.position ∧
    (poolTake f s).bau.positionNew = s.bau.positionNew ∧ (poolTake f s).bau.pointer = s.bau.pointer ∧
    (poolTake f s).bau.collisions = s.bau.collisions ∧ (poolTake f s).bau.tickCount = s.bau.tickCount ∧
    (poolTake f s).bau.tx = s.bau.tx ∧ (poolTake f s).bau.rx = s.bau.rx ∧ (poolTake f s).txs.queues = s.txs.queues ∧
    (poolTake f s).txs.storeFree = s.txs.storeFree ∧ (poolTake f s).txs.nextSeq = s.txs.nextSeq ∧
    (poolTake f s).txs.lateTimer = s.txs.lateTimer ∧
    (poolTake f s).txs.undeliverableTimer = s.txs.undeliverableTimer ∧
    (poolTake f s).txs.drainedReported = s.txs.drainedReported ∧ (poolTake f s).rxp.readyLevel = s.rxp.readyLevel ∧
    (poolTake f s).rxp.groups = s.rxp.groups ∧ (poolTake f s).tmu = s.tmu ∧ (poolTake f s).src = s.src ∧
    (poolTake f s).sec = s.sec ∧ (poolTake f s).alu.intervalTimer = s.alu.intervalTimer ∧
    (poolTake f s).alu.alert = s.alu.alert ∧ (poolTake f s).alu.collector = s.alu.collector ∧
    (poolTake f s).cpt.bits = s.cpt.bits ∧
    (poolTake f s).cpt.parser = s.cpt.parser ∧ (poolTake f s).cpt.incoming = s.cpt.incoming ∧
    (poolTake f s).cpt.replies = s.cpt.replies ∧ (poolTake f s).cpt.outgoing = s.cpt.outgoing ∧
    (poolTake f s).cpt.results = s.cpt.results ∧ (poolTake f s).cpt.eventMap = s.cpt.eventMap ∧
    (poolTake f s).cpt.hold = s.cpt.hold ∧ (poolTake f s).cpt.crst = s.cpt.crst ∧ (poolTake f s).stl = s.stl ∧
    (poolTake f s).pins = s.pins ∧ (poolTake f s).pinsAhead = s.pinsAhead ∧
    (poolTake f s).pending = s.pending := by
  unfold poolTake; (repeat' split) <;> simp

@[simp] theorem readyTransmitted_frame (s : State) :
    (readyTransmitted s).bau = s.bau ∧ (readyTransmitted s).txs.queues = s.txs.queues ∧
    (readyTransmitted s).txs.storeFree = s.txs.storeFree ∧ (readyTransmitted s).txs.nextSeq = s.txs.nextSeq ∧
    (readyTransmitted s).txs.lateTimer = s.txs.lateTimer ∧
    (readyTransmitted s).txs.undeliverableTimer = s.txs.undeliverableTimer ∧
    (readyTransmitted s).txs.drainedReported = s.txs.drainedReported ∧
    (readyTransmitted s).rxp.frames = s.rxp.frames ∧ (readyTransmitted s).rxp.free = s.rxp.free ∧
    (readyTransmitted s).rxp.readyLevel = s.rxp.readyLevel ∧ (readyTransmitted s).rxp.groups = s.rxp.groups ∧
    (readyTransmitted s).ptb = s.ptb ∧ (readyTransmitted s).tmu = s.tmu ∧ (readyTransmitted s).src = s.src ∧
    (readyTransmitted s).sec = s.sec ∧ (readyTransmitted s).alu.inputs = s.alu.inputs ∧
    (readyTransmitted s).alu.intervalTimer = s.alu.intervalTimer ∧ (readyTransmitted s).alu.alert = s.alu.alert ∧
    (readyTransmitted s).alu.collector = s.alu.collector ∧ (readyTransmitted s).cpt.bits = s.cpt.bits ∧
    (readyTransmitted s).cpt.parser = s.cpt.parser ∧
    (readyTransmitted s).cpt.incoming = s.cpt.incoming ∧ (readyTransmitted s).cpt.replies = s.cpt.replies ∧
    (readyTransmitted s).cpt.outgoing = s.cpt.outgoing ∧ (readyTransmitted s).cpt.results = s.cpt.results ∧
    (readyTransmitted s).cpt.eventMap = s.cpt.eventMap ∧ (readyTransmitted s).cpt.hold = s.cpt.hold ∧
    (readyTransmitted s).cpt.crst = s.cpt.crst ∧ (readyTransmitted s).stl = s.stl ∧
    (readyTransmitted s).counters = s.counters ∧ (readyTransmitted s).pins = s.pins ∧
    (readyTransmitted s).pinsAhead = s.pinsAhead ∧
    (readyTransmitted s).pending = s.pending := by
  unfold readyTransmitted; dsimp only; simp

@[simp] theorem readyWithdrawn_frame (s : State) :
    (readyWithdrawn s).bau = s.bau ∧ (readyWithdrawn s).txs.queues = s.txs.queues ∧
    (readyWithdrawn s).txs.storeFree = s.txs.storeFree ∧ (readyWithdrawn s).txs.nextSeq = s.txs.nextSeq ∧
    (readyWithdrawn s).txs.lateTimer = s.txs.lateTimer ∧
    (readyWithdrawn s).txs.undeliverableTimer = s.txs.undeliverableTimer ∧
    (readyWithdrawn s).txs.drainedReported = s.txs.drainedReported ∧ (readyWithdrawn s).rxp.frames = s.rxp.frames ∧
    (readyWithdrawn s).rxp.free = s.rxp.free ∧ (readyWithdrawn s).rxp.refused = s.rxp.refused ∧
    (readyWithdrawn s).rxp.readyLevel = s.rxp.readyLevel ∧ (readyWithdrawn s).rxp.groups = s.rxp.groups ∧
    (readyWithdrawn s).ptb = s.ptb ∧ (readyWithdrawn s).tmu = s.tmu ∧ (readyWithdrawn s).src = s.src ∧
    (readyWithdrawn s).sec = s.sec ∧ (readyWithdrawn s).alu = s.alu ∧ (readyWithdrawn s).cpt = s.cpt ∧
    (readyWithdrawn s).stl = s.stl ∧ (readyWithdrawn s).counters = s.counters ∧
    (readyWithdrawn s).pins = s.pins ∧ (readyWithdrawn s).pinsAhead = s.pinsAhead ∧
    (readyWithdrawn s).pending = s.pending := by
  unfold readyWithdrawn; dsimp only; simp

@[simp] theorem poolSeatLoss_frame (s : State) :
    (poolSeatLoss s).bau = s.bau ∧ (poolSeatLoss s).txs = s.txs ∧
    (poolSeatLoss s).rxp.readyLevel = s.rxp.readyLevel ∧ (poolSeatLoss s).rxp.groups = s.rxp.groups ∧
    (poolSeatLoss s).ptb = s.ptb ∧ (poolSeatLoss s).tmu = s.tmu ∧ (poolSeatLoss s).src = s.src ∧
    (poolSeatLoss s).sec = s.sec ∧ (poolSeatLoss s).alu.inputs = s.alu.inputs ∧
    (poolSeatLoss s).alu.intervalTimer = s.alu.intervalTimer ∧ (poolSeatLoss s).alu.alert = s.alu.alert ∧
    (poolSeatLoss s).alu.collector = s.alu.collector ∧ (poolSeatLoss s).cpt.bits = s.cpt.bits ∧
    (poolSeatLoss s).cpt.parser = s.cpt.parser ∧
    (poolSeatLoss s).cpt.incoming = s.cpt.incoming ∧ (poolSeatLoss s).cpt.replies = s.cpt.replies ∧
    (poolSeatLoss s).cpt.outgoing = s.cpt.outgoing ∧ (poolSeatLoss s).cpt.results = s.cpt.results ∧
    (poolSeatLoss s).cpt.eventMap = s.cpt.eventMap ∧ (poolSeatLoss s).cpt.hold = s.cpt.hold ∧
    (poolSeatLoss s).cpt.crst = s.cpt.crst ∧ (poolSeatLoss s).stl = s.stl ∧ (poolSeatLoss s).counters = s.counters ∧
    (poolSeatLoss s).pins = s.pins ∧ (poolSeatLoss s).pinsAhead = s.pinsAhead ∧
    (poolSeatLoss s).pending = s.pending := by
  unfold poolSeatLoss; dsimp only; simp

@[simp] theorem poolCardReset_frame (s : State) :
    (poolCardReset s).bau = s.bau ∧ (poolCardReset s).txs.queues = s.txs.queues ∧
    (poolCardReset s).txs.storeFree = s.txs.storeFree ∧ (poolCardReset s).txs.nextSeq = s.txs.nextSeq ∧
    (poolCardReset s).txs.lateTimer = s.txs.lateTimer ∧
    (poolCardReset s).txs.undeliverableTimer = s.txs.undeliverableTimer ∧
    (poolCardReset s).txs.drainedReported = s.txs.drainedReported ∧ (poolCardReset s).rxp.refused = s.rxp.refused ∧
    (poolCardReset s).rxp.readyLevel = s.rxp.readyLevel ∧ (poolCardReset s).rxp.groups = s.rxp.groups ∧
    (poolCardReset s).ptb = s.ptb ∧ (poolCardReset s).tmu = s.tmu ∧ (poolCardReset s).src = s.src ∧
    (poolCardReset s).sec = s.sec ∧ (poolCardReset s).alu = s.alu ∧ (poolCardReset s).cpt = s.cpt ∧
    (poolCardReset s).stl = s.stl ∧ (poolCardReset s).counters = s.counters ∧ (poolCardReset s).pins = s.pins ∧
    (poolCardReset s).pinsAhead = s.pinsAhead ∧
    (poolCardReset s).pending = s.pending := by
  unfold poolCardReset; dsimp only; simp

@[simp] theorem poolDelivered_frame (s : State) :
    (poolDelivered s).bau = s.bau ∧ (poolDelivered s).txs.queues = s.txs.queues ∧
    (poolDelivered s).txs.storeFree = s.txs.storeFree ∧ (poolDelivered s).txs.nextSeq = s.txs.nextSeq ∧
    (poolDelivered s).txs.lateTimer = s.txs.lateTimer ∧
    (poolDelivered s).txs.undeliverableTimer = s.txs.undeliverableTimer ∧
    (poolDelivered s).txs.drainedReported = s.txs.drainedReported ∧ (poolDelivered s).rxp.refused = s.rxp.refused ∧
    (poolDelivered s).rxp.readyLevel = s.rxp.readyLevel ∧ (poolDelivered s).rxp.groups = s.rxp.groups ∧
    (poolDelivered s).ptb = s.ptb ∧ (poolDelivered s).tmu = s.tmu ∧ (poolDelivered s).src = s.src ∧
    (poolDelivered s).sec = s.sec ∧ (poolDelivered s).alu = s.alu ∧ (poolDelivered s).cpt.bits = s.cpt.bits ∧
    (poolDelivered s).cpt.parser = s.cpt.parser ∧
    (poolDelivered s).cpt.incoming = s.cpt.incoming ∧ (poolDelivered s).cpt.replies = s.cpt.replies ∧
    (poolDelivered s).cpt.outgoing = s.cpt.outgoing ∧ (poolDelivered s).cpt.results = s.cpt.results ∧
    (poolDelivered s).cpt.eventMap = s.cpt.eventMap ∧ (poolDelivered s).cpt.hold = s.cpt.hold ∧
    (poolDelivered s).cpt.crst = s.cpt.crst ∧ (poolDelivered s).stl = s.stl ∧ (poolDelivered s).pins = s.pins ∧
    (poolDelivered s).pinsAhead = s.pinsAhead ∧
    (poolDelivered s).pending = s.pending := by
  unfold poolDelivered; dsimp only; (repeat' split) <;> simp

@[simp] theorem markTransfer_frame (s : State) :
    (markTransfer s).bau = s.bau ∧ (markTransfer s).txs = s.txs ∧ (markTransfer s).rxp.free = s.rxp.free ∧
    (markTransfer s).rxp.refused = s.rxp.refused ∧ (markTransfer s).rxp.readyOutstanding = s.rxp.readyOutstanding ∧
    (markTransfer s).rxp.readyLevel = s.rxp.readyLevel ∧ (markTransfer s).rxp.groups = s.rxp.groups ∧
    (markTransfer s).ptb = s.ptb ∧ (markTransfer s).tmu = s.tmu ∧ (markTransfer s).src = s.src ∧
    (markTransfer s).sec = s.sec ∧ (markTransfer s).alu = s.alu ∧ (markTransfer s).cpt = s.cpt ∧
    (markTransfer s).stl = s.stl ∧ (markTransfer s).counters = s.counters ∧ (markTransfer s).pins = s.pins ∧
    (markTransfer s).pinsAhead = s.pinsAhead ∧
    (markTransfer s).pending = s.pending := by
  unfold markTransfer; dsimp only; (repeat' split) <;> simp

/-! ### No operation takes an event out of the pending set (R186) -/

@[simp] theorem storeFrame_events (s : State) (f : DataFrame) {a : EventKind} (h : a ∈ s.cpt.events) :
    a ∈ (storeFrame f s).cpt.events := by
  unfold storeFrame; dsimp only; (repeat' split) <;>
    (repeat (first | with_reducible apply bump_events | simp [h] | exact h))

@[simp] theorem countGapOf_events (s : State) (f : DataFrame) {a : EventKind} (h : a ∈ s.cpt.events) :
    a ∈ (countGapOf f s).cpt.events := by
  unfold countGapOf; (repeat' split) <;>
    (repeat (first | with_reducible apply bumpBy_events | with_reducible apply countGap_events | simp [h] | exact h))

@[simp] theorem takeDuplicate_events (s : State) (f : DataFrame) {a : EventKind} (h : a ∈ s.cpt.events) :
    a ∈ (takeDuplicate f s).cpt.events := by
  unfold takeDuplicate;
    (repeat (first | with_reducible apply bump_events | with_reducible apply countDuplicate_events | simp [h] | exact h))

@[simp] theorem acceptUnicast_events (s : State) (f : DataFrame) {a : EventKind} (h : a ∈ s.cpt.events) :
    a ∈ (acceptUnicast f s).cpt.events := by
  unfold acceptUnicast;
    (repeat (first | with_reducible apply storeFrame_events | with_reducible apply countGapOf_events | simp [h] | exact h))

@[simp] theorem refuseUnicast_events (s : State) (f : DataFrame) {a : EventKind} (h : a ∈ s.cpt.events) :
    a ∈ (refuseUnicast f s).cpt.events := by
  unfold refuseUnicast; dsimp only;
    (repeat (first | with_reducible apply bump_events | with_reducible apply raiseInternal_events | simp [h] | exact h))

@[simp] theorem takeUnicast_events (s : State) (f : DataFrame) {a : EventKind} (h : a ∈ s.cpt.events) :
    a ∈ (takeUnicast f s).cpt.events := by
  unfold takeUnicast; (repeat' split) <;>
    (repeat (first | with_reducible apply takeDuplicate_events | with_reducible apply acceptUnicast_events | with_reducible apply refuseUnicast_events | simp [h] | exact h))

@[simp] theorem takeGroup_events (s : State) (f : DataFrame) {a : EventKind} (h : a ∈ s.cpt.events) :
    a ∈ (takeGroup f s).cpt.events := by
  unfold takeGroup; (repeat' split) <;>
    (repeat (first | with_reducible apply bump_events | with_reducible apply storeFrame_events | simp [h] | exact h))

@[simp] theorem poolTake_events (s : State) (f : DataFrame) {a : EventKind} (h : a ∈ s.cpt.events) :
    a ∈ (poolTake f s).cpt.events := by
  unfold poolTake; (repeat' split) <;>
    (repeat (first | with_reducible apply bump_events | with_reducible apply takeUnicast_events | with_reducible apply takeGroup_events | simp [h] | exact h))

@[simp] theorem readyTransmitted_events (s : State) {a : EventKind} (h : a ∈ s.cpt.events) :
    a ∈ (readyTransmitted s).cpt.events := by
  unfold readyTransmitted; dsimp only;
    (repeat (first | with_reducible apply clearKey_events | simp [h] | exact h))

@[simp] theorem poolSeatLoss_events (s : State) {a : EventKind} (h : a ∈ s.cpt.events) :
    a ∈ (poolSeatLoss s).cpt.events := by
  unfold poolSeatLoss; dsimp only;
    (repeat (first | with_reducible apply clearKey_events | simp [h] | exact h))

@[simp] theorem poolDelivered_events (s : State) {a : EventKind} (h : a ∈ s.cpt.events) :
    a ∈ (poolDelivered s).cpt.events := by
  unfold poolDelivered; dsimp only; (repeat' split) <;>
    (repeat (first | with_reducible apply bump_events | simp [h] | exact h))

end Sys2Proof.Machine
end

