-- ==== Sys2Proof/Laws/Servo.lean ====
section
/-! SUPPORT. What each operation of the time unit and the servo leaves as it was, and what it does. -/

namespace Sys2Proof.Machine

open Sys2Proof

/-! ### The pins of a tick (log 30) -/

@[simp] theorem takePins_bau (s : State) : (takePins s).bau = s.bau := by rfl
@[simp] theorem takePins_txs (s : State) : (takePins s).txs = s.txs := by rfl
@[simp] theorem takePins_rxp (s : State) : (takePins s).rxp = s.rxp := by rfl
@[simp] theorem takePins_ptb (s : State) : (takePins s).ptb = s.ptb := by rfl
@[simp] theorem takePins_tmu (s : State) : (takePins s).tmu = s.tmu := by rfl
@[simp] theorem takePins_src (s : State) : (takePins s).src = s.src := by rfl
@[simp] theorem takePins_sec (s : State) : (takePins s).sec = s.sec := by rfl
@[simp] theorem takePins_alu (s : State) : (takePins s).alu = s.alu := by rfl
@[simp] theorem takePins_cpt (s : State) : (takePins s).cpt = s.cpt := by rfl
@[simp] theorem takePins_stl (s : State) : (takePins s).stl = s.stl := by rfl
@[simp] theorem takePins_counters (s : State) : (takePins s).counters = s.counters := by rfl
@[simp] theorem takePins_pending (s : State) : (takePins s).pending = s.pending := by rfl
@[simp] theorem takePins_pins (s : State) : (takePins s).pins = s.pinsNext := by rfl
@[simp] theorem takePins_pinsAhead (s : State) : (takePins s).pinsAhead = s.pinsAhead.tail := by rfl

/-! ### What a tick's timers leave -/

@[simp] theorem tickTimers_rxp (s : State) : (tickTimers s).rxp = s.rxp := by rfl
@[simp] theorem tickTimers_stl (s : State) :
    (tickTimers s).stl = { s.stl with stage := s.pins.straps, synchronised := s.stl.stage } := by rfl
@[simp] theorem tickTimers_counters (s : State) : (tickTimers s).counters = s.counters := by rfl
@[simp] theorem tickTimers_pins (s : State) : (tickTimers s).pins = s.pins := by rfl
@[simp] theorem tickTimers_pinsAhead (s : State) : (tickTimers s).pinsAhead = s.pinsAhead := by rfl
@[simp] theorem tickTimers_pending (s : State) : (tickTimers s).pending = s.pending := by rfl

/-! ### Frames -/

@[simp] theorem openGate_frame (s : State) :
    (openGate s).bau = s.bau ∧ (openGate s).txs = s.txs ∧ (openGate s).rxp = s.rxp ∧ (openGate s).ptb = s.ptb ∧
    (openGate s).tmu.time = s.tmu.time ∧ (openGate s).tmu.rate = s.tmu.rate ∧
    (openGate s).tmu.residue = s.tmu.residue ∧ (openGate s).tmu.integral = s.tmu.integral ∧
    (openGate s).tmu.servo = s.tmu.servo ∧ (openGate s).tmu.everLocked = s.tmu.everLocked ∧
    (openGate s).tmu.lockCount = s.tmu.lockCount ∧ (openGate s).tmu.outlierCount = s.tmu.outlierCount ∧
    (openGate s).tmu.rateLimitCount = s.tmu.rateLimitCount ∧ (openGate s).tmu.holdoverTimer = s.tmu.holdoverTimer ∧
    (openGate s).tmu.lastError = s.tmu.lastError ∧ (openGate s).tmu.settings = s.tmu.settings ∧
    (openGate s).tmu.label = s.tmu.label ∧ (openGate s).tmu.lastRef = s.tmu.lastRef ∧
    (openGate s).tmu.sta = s.tmu.sta ∧ (openGate s).tmu.stb = s.tmu.stb ∧ (openGate s).src = s.src ∧
    (openGate s).sec = s.sec ∧ (openGate s).alu = s.alu ∧ (openGate s).cpt = s.cpt ∧ (openGate s).stl = s.stl ∧
    (openGate s).counters = s.counters ∧ (openGate s).pins = s.pins ∧ (openGate s).pinsAhead = s.pinsAhead ∧
    (openGate s).pending = s.pending := by
  unfold openGate; dsimp only; simp

@[simp] theorem shutGate_frame (s : State) :
    (shutGate s).bau = s.bau ∧ (shutGate s).txs.slots = s.txs.slots ∧ (shutGate s).txs.nextSeq = s.txs.nextSeq ∧
    (shutGate s).txs.lateTimer = s.txs.lateTimer ∧ (shutGate s).txs.undeliverableTimer = s.txs.undeliverableTimer ∧
    (shutGate s).txs.drainedReported = s.txs.drainedReported ∧ (shutGate s).rxp = s.rxp ∧ (shutGate s).ptb = s.ptb ∧
    (shutGate s).tmu.time = s.tmu.time ∧ (shutGate s).tmu.rate = s.tmu.rate ∧
    (shutGate s).tmu.residue = s.tmu.residue ∧ (shutGate s).tmu.integral = s.tmu.integral ∧
    (shutGate s).tmu.servo = s.tmu.servo ∧ (shutGate s).tmu.everLocked = s.tmu.everLocked ∧
    (shutGate s).tmu.lockCount = s.tmu.lockCount ∧ (shutGate s).tmu.outlierCount = s.tmu.outlierCount ∧
    (shutGate s).tmu.rateLimitCount = s.tmu.rateLimitCount ∧ (shutGate s).tmu.holdoverTimer = s.tmu.holdoverTimer ∧
    (shutGate s).tmu.lastError = s.tmu.lastError ∧ (shutGate s).tmu.settings = s.tmu.settings ∧
    (shutGate s).tmu.label = s.tmu.label ∧ (shutGate s).tmu.lastRef = s.tmu.lastRef ∧ (shutGate s).src = s.src ∧
    (shutGate s).sec = s.sec ∧ (shutGate s).alu = s.alu ∧ (shutGate s).cpt.bits = s.cpt.bits ∧
    (shutGate s).cpt.parser = s.cpt.parser ∧
    (shutGate s).cpt.incoming = s.cpt.incoming ∧ (shutGate s).cpt.replies = s.cpt.replies ∧
    (shutGate s).cpt.outgoing = s.cpt.outgoing ∧ (shutGate s).cpt.eventMap = s.cpt.eventMap ∧
    (shutGate s).cpt.hold = s.cpt.hold ∧ (shutGate s).cpt.crst = s.cpt.crst ∧ (shutGate s).stl = s.stl ∧
    (shutGate s).pins = s.pins ∧ (shutGate s).pinsAhead = s.pinsAhead ∧
    (shutGate s).pending = s.pending := by
  unfold shutGate; dsimp only; simp

@[simp] theorem reevaluate_frame (s : State) (before : Bool) :
    (reevaluate before s).bau = s.bau ∧ (reevaluate before s).txs.slots = s.txs.slots ∧
    (reevaluate before s).txs.nextSeq = s.txs.nextSeq ∧ (reevaluate before s).txs.lateTimer = s.txs.lateTimer ∧
    (reevaluate before s).txs.undeliverableTimer = s.txs.undeliverableTimer ∧
    (reevaluate before s).txs.drainedReported = s.txs.drainedReported ∧ (reevaluate before s).rxp = s.rxp ∧
    (reevaluate before s).ptb = s.ptb ∧ (reevaluate before s).tmu.time = s.tmu.time ∧
    (reevaluate before s).tmu.rate = s.tmu.rate ∧ (reevaluate before s).tmu.residue = s.tmu.residue ∧
    (reevaluate before s).tmu.integral = s.tmu.integral ∧ (reevaluate before s).tmu.servo = s.tmu.servo ∧
    (reevaluate before s).tmu.everLocked = s.tmu.everLocked ∧
    (reevaluate before s).tmu.lockCount = s.tmu.lockCount ∧
    (reevaluate before s).tmu.outlierCount = s.tmu.outlierCount ∧
    (reevaluate before s).tmu.rateLimitCount = s.tmu.rateLimitCount ∧
    (reevaluate before s).tmu.holdoverTimer = s.tmu.holdoverTimer ∧
    (reevaluate before s).tmu.lastError = s.tmu.lastError ∧ (reevaluate before s).tmu.settings = s.tmu.settings ∧
    (reevaluate before s).tmu.label = s.tmu.label ∧ (reevaluate before s).tmu.lastRef = s.tmu.lastRef ∧
    (reevaluate before s).src = s.src ∧ (reevaluate before s).sec = s.sec ∧ (reevaluate before s).alu = s.alu ∧
    (reevaluate before s).cpt.bits = s.cpt.bits ∧
    (reevaluate before s).cpt.parser = s.cpt.parser ∧ (reevaluate before s).cpt.incoming = s.cpt.incoming ∧
    (reevaluate before s).cpt.replies = s.cpt.replies ∧ (reevaluate before s).cpt.outgoing = s.cpt.outgoing ∧
    (reevaluate before s).cpt.eventMap = s.cpt.eventMap ∧ (reevaluate before s).cpt.hold = s.cpt.hold ∧
    (reevaluate before s).cpt.crst = s.cpt.crst ∧ (reevaluate before s).stl = s.stl ∧
    (reevaluate before s).pins = s.pins ∧ (reevaluate before s).pinsAhead = s.pinsAhead ∧
    (reevaluate before s).pending = s.pending := by
  unfold reevaluate; (repeat' split) <;> simp

@[simp] theorem setServo_frame (s : State) (v : Servo) :
    (setServo v s).bau = s.bau ∧ (setServo v s).txs.slots = s.txs.slots ∧
    (setServo v s).txs.nextSeq = s.txs.nextSeq ∧ (setServo v s).txs.lateTimer = s.txs.lateTimer ∧
    (setServo v s).txs.undeliverableTimer = s.txs.undeliverableTimer ∧
    (setServo v s).txs.drainedReported = s.txs.drainedReported ∧ (setServo v s).rxp = s.rxp ∧
    (setServo v s).ptb = s.ptb ∧ (setServo v s).tmu.time = s.tmu.time ∧ (setServo v s).tmu.rate = s.tmu.rate ∧
    (setServo v s).tmu.residue = s.tmu.residue ∧ (setServo v s).tmu.integral = s.tmu.integral ∧
    (setServo v s).tmu.everLocked = s.tmu.everLocked ∧ (setServo v s).tmu.lockCount = s.tmu.lockCount ∧
    (setServo v s).tmu.outlierCount = s.tmu.outlierCount ∧
    (setServo v s).tmu.rateLimitCount = s.tmu.rateLimitCount ∧
    (setServo v s).tmu.holdoverTimer = s.tmu.holdoverTimer ∧ (setServo v s).tmu.lastError = s.tmu.lastError ∧
    (setServo v s).tmu.settings = s.tmu.settings ∧ (setServo v s).tmu.label = s.tmu.label ∧
    (setServo v s).tmu.lastRef = s.tmu.lastRef ∧ (setServo v s).src = s.src ∧ (setServo v s).sec = s.sec ∧
    (setServo v s).alu = s.alu ∧ (setServo v s).cpt.bits = s.cpt.bits ∧
    (setServo v s).cpt.parser = s.cpt.parser ∧
    (setServo v s).cpt.incoming = s.cpt.incoming ∧ (setServo v s).cpt.replies = s.cpt.replies ∧
    (setServo v s).cpt.outgoing = s.cpt.outgoing ∧ (setServo v s).cpt.eventMap = s.cpt.eventMap ∧
    (setServo v s).cpt.hold = s.cpt.hold ∧ (setServo v s).cpt.crst = s.cpt.crst ∧ (setServo v s).stl = s.stl ∧
    (setServo v s).pins = s.pins ∧ (setServo v s).pinsAhead = s.pinsAhead ∧
    (setServo v s).pending = s.pending := by
  unfold setServo; dsimp only; (repeat' split) <;> simp

@[simp] theorem setRole_frame (s : State) (r : Role) :
    (setRole r s).bau = s.bau ∧ (setRole r s).txs.slots = s.txs.slots ∧ (setRole r s).txs.nextSeq = s.txs.nextSeq ∧
    (setRole r s).txs.lateTimer = s.txs.lateTimer ∧
    (setRole r s).txs.undeliverableTimer = s.txs.undeliverableTimer ∧
    (setRole r s).txs.drainedReported = s.txs.drainedReported ∧ (setRole r s).rxp = s.rxp ∧
    (setRole r s).ptb = s.ptb ∧ (setRole r s).tmu.time = s.tmu.time ∧ (setRole r s).tmu.rate = s.tmu.rate ∧
    (setRole r s).tmu.residue = s.tmu.residue ∧ (setRole r s).tmu.integral = s.tmu.integral ∧
    (setRole r s).tmu.servo = s.tmu.servo ∧ (setRole r s).tmu.everLocked = s.tmu.everLocked ∧
    (setRole r s).tmu.lockCount = s.tmu.lockCount ∧ (setRole r s).tmu.outlierCount = s.tmu.outlierCount ∧
    (setRole r s).tmu.rateLimitCount = s.tmu.rateLimitCount ∧
    (setRole r s).tmu.holdoverTimer = s.tmu.holdoverTimer ∧ (setRole r s).tmu.lastError = s.tmu.lastError ∧
    (setRole r s).tmu.settings = s.tmu.settings ∧ (setRole r s).tmu.label = s.tmu.label ∧
    (setRole r s).tmu.lastRef = s.tmu.lastRef ∧ (setRole r s).src.quality = s.src.quality ∧
    (setRole r s).src.priority = s.src.priority ∧ (setRole r s).src.capable = s.src.capable ∧
    (setRole r s).src.table = s.src.table ∧ (setRole r s).src.selection = s.src.selection ∧
    (setRole r s).src.announceTimer = s.src.announceTimer ∧ (setRole r s).src.syncTimeout = s.src.syncTimeout ∧
    (setRole r s).src.sourceLost = s.src.sourceLost ∧ (setRole r s).sec = s.sec ∧
    (setRole r s).alu.inputs = s.alu.inputs ∧ (setRole r s).alu.intervalTimer = s.alu.intervalTimer ∧
    (setRole r s).alu.alert = s.alu.alert ∧ (setRole r s).alu.collector = s.alu.collector ∧
    (setRole r s).cpt.bits = s.cpt.bits ∧
    (setRole r s).cpt.parser = s.cpt.parser ∧ (setRole r s).cpt.incoming = s.cpt.incoming ∧
    (setRole r s).cpt.replies = s.cpt.replies ∧ (setRole r s).cpt.outgoing = s.cpt.outgoing ∧
    (setRole r s).cpt.eventMap = s.cpt.eventMap ∧ (setRole r s).cpt.hold = s.cpt.hold ∧
    (setRole r s).cpt.crst = s.cpt.crst ∧ (setRole r s).stl = s.stl ∧ (setRole r s).pins = s.pins ∧
    (setRole r s).pinsAhead = s.pinsAhead ∧
    (setRole r s).pending = s.pending := by
  unfold setRole; dsimp only; (repeat' split) <;> simp

@[simp] theorem countClamp_frame (s : State) (b : Bool) :
    (countClamp b s).bau = s.bau ∧ (countClamp b s).txs = s.txs ∧ (countClamp b s).rxp = s.rxp ∧
    (countClamp b s).ptb = s.ptb ∧ (countClamp b s).tmu.time = s.tmu.time ∧ (countClamp b s).tmu.rate = s.tmu.rate ∧
    (countClamp b s).tmu.residue = s.tmu.residue ∧ (countClamp b s).tmu.integral = s.tmu.integral ∧
    (countClamp b s).tmu.servo = s.tmu.servo ∧ (countClamp b s).tmu.everLocked = s.tmu.everLocked ∧
    (countClamp b s).tmu.lockCount = s.tmu.lockCount ∧ (countClamp b s).tmu.outlierCount = s.tmu.outlierCount ∧
    (countClamp b s).tmu.holdoverTimer = s.tmu.holdoverTimer ∧ (countClamp b s).tmu.lastError = s.tmu.lastError ∧
    (countClamp b s).tmu.settings = s.tmu.settings ∧ (countClamp b s).tmu.label = s.tmu.label ∧
    (countClamp b s).tmu.lastRef = s.tmu.lastRef ∧ (countClamp b s).tmu.sta = s.tmu.sta ∧
    (countClamp b s).tmu.stb = s.tmu.stb ∧ (countClamp b s).tmu.gateOpen = s.tmu.gateOpen ∧
    (countClamp b s).src = s.src ∧ (countClamp b s).sec = s.sec ∧
    (countClamp b s).alu.intervalTimer = s.alu.intervalTimer ∧ (countClamp b s).alu.alert = s.alu.alert ∧
    (countClamp b s).alu.collector = s.alu.collector ∧ (countClamp b s).cpt.bits = s.cpt.bits ∧
    (countClamp b s).cpt.parser = s.cpt.parser ∧
    (countClamp b s).cpt.incoming = s.cpt.incoming ∧ (countClamp b s).cpt.replies = s.cpt.replies ∧
    (countClamp b s).cpt.outgoing = s.cpt.outgoing ∧ (countClamp b s).cpt.results = s.cpt.results ∧
    (countClamp b s).cpt.eventMap = s.cpt.eventMap ∧ (countClamp b s).cpt.hold = s.cpt.hold ∧
    (countClamp b s).cpt.crst = s.cpt.crst ∧ (countClamp b s).stl = s.stl ∧ (countClamp b s).pins = s.pins ∧
    (countClamp b s).pinsAhead = s.pinsAhead ∧
    (countClamp b s).pending = s.pending := by
  unfold countClamp; dsimp only; (repeat' split) <;> simp

@[simp] theorem servoUpdate_frame (s : State) (e f : Int) :
    (servoUpdate e f s).bau = s.bau ∧ (servoUpdate e f s).txs = s.txs ∧ (servoUpdate e f s).rxp = s.rxp ∧
    (servoUpdate e f s).ptb = s.ptb ∧ (servoUpdate e f s).tmu.time = s.tmu.time ∧
    (servoUpdate e f s).tmu.residue = s.tmu.residue ∧ (servoUpdate e f s).tmu.servo = s.tmu.servo ∧
    (servoUpdate e f s).tmu.everLocked = s.tmu.everLocked ∧ (servoUpdate e f s).tmu.lockCount = s.tmu.lockCount ∧
    (servoUpdate e f s).tmu.outlierCount = s.tmu.outlierCount ∧
    (servoUpdate e f s).tmu.holdoverTimer = s.tmu.holdoverTimer ∧
    (servoUpdate e f s).tmu.lastError = s.tmu.lastError ∧ (servoUpdate e f s).tmu.settings = s.tmu.settings ∧
    (servoUpdate e f s).tmu.label = s.tmu.label ∧ (servoUpdate e f s).tmu.lastRef = s.tmu.lastRef ∧
    (servoUpdate e f s).tmu.sta = s.tmu.sta ∧ (servoUpdate e f s).tmu.stb = s.tmu.stb ∧
    (servoUpdate e f s).tmu.gateOpen = s.tmu.gateOpen ∧ (servoUpdate e f s).src = s.src ∧
    (servoUpdate e f s).sec = s.sec ∧ (servoUpdate e f s).alu.intervalTimer = s.alu.intervalTimer ∧
    (servoUpdate e f s).alu.alert = s.alu.alert ∧ (servoUpdate e f s).alu.collector = s.alu.collector ∧
    (servoUpdate e f s).cpt.bits = s.cpt.bits ∧
    (servoUpdate e f s).cpt.parser = s.cpt.parser ∧ (servoUpdate e f s).cpt.incoming = s.cpt.incoming ∧
    (servoUpdate e f s).cpt.replies = s.cpt.replies ∧ (servoUpdate e f s).cpt.outgoing = s.cpt.outgoing ∧
    (servoUpdate e f s).cpt.results = s.cpt.results ∧ (servoUpdate e f s).cpt.eventMap = s.cpt.eventMap ∧
    (servoUpdate e f s).cpt.hold = s.cpt.hold ∧ (servoUpdate e f s).cpt.crst = s.cpt.crst ∧
    (servoUpdate e f s).stl = s.stl ∧ (servoUpdate e f s).pins = s.pins ∧
    (servoUpdate e f s).pinsAhead = s.pinsAhead ∧
    (servoUpdate e f s).pending = s.pending := by
  unfold servoUpdate; dsimp only; simp

@[simp] theorem stepTime_frame (s : State) (e : Int) :
    (stepTime e s).bau = s.bau ∧ (stepTime e s).txs = s.txs ∧ (stepTime e s).rxp = s.rxp ∧
    (stepTime e s).ptb = s.ptb ∧ (stepTime e s).tmu.rate = s.tmu.rate ∧ (stepTime e s).tmu.residue = s.tmu.residue ∧
    (stepTime e s).tmu.integral = s.tmu.integral ∧ (stepTime e s).tmu.servo = s.tmu.servo ∧
    (stepTime e s).tmu.everLocked = s.tmu.everLocked ∧ (stepTime e s).tmu.outlierCount = s.tmu.outlierCount ∧
    (stepTime e s).tmu.rateLimitCount = s.tmu.rateLimitCount ∧
    (stepTime e s).tmu.holdoverTimer = s.tmu.holdoverTimer ∧ (stepTime e s).tmu.lastError = s.tmu.lastError ∧
    (stepTime e s).tmu.settings = s.tmu.settings ∧ (stepTime e s).tmu.label = s.tmu.label ∧
    (stepTime e s).tmu.lastRef = s.tmu.lastRef ∧ (stepTime e s).tmu.sta = s.tmu.sta ∧
    (stepTime e s).tmu.stb = s.tmu.stb ∧ (stepTime e s).tmu.gateOpen = s.tmu.gateOpen ∧ (stepTime e s).src = s.src ∧
    (stepTime e s).sec = s.sec ∧ (stepTime e s).alu = s.alu ∧ (stepTime e s).cpt.bits = s.cpt.bits ∧
    (stepTime e s).cpt.parser = s.cpt.parser ∧
    (stepTime e s).cpt.incoming = s.cpt.incoming ∧ (stepTime e s).cpt.replies = s.cpt.replies ∧
    (stepTime e s).cpt.outgoing = s.cpt.outgoing ∧ (stepTime e s).cpt.results = s.cpt.results ∧
    (stepTime e s).cpt.eventMap = s.cpt.eventMap ∧ (stepTime e s).cpt.hold = s.cpt.hold ∧
    (stepTime e s).cpt.crst = s.cpt.crst ∧ (stepTime e s).stl = s.stl ∧ (stepTime e s).pins = s.pins ∧
    (stepTime e s).pinsAhead = s.pinsAhead ∧
    (stepTime e s).pending = s.pending := by
  unfold stepTime; dsimp only; simp

@[simp] theorem reachLocked_frame (s : State) :
    (reachLocked s).bau = s.bau ∧ (reachLocked s).txs.slots = s.txs.slots ∧
    (reachLocked s).txs.nextSeq = s.txs.nextSeq ∧ (reachLocked s).txs.lateTimer = s.txs.lateTimer ∧
    (reachLocked s).txs.undeliverableTimer = s.txs.undeliverableTimer ∧
    (reachLocked s).txs.drainedReported = s.txs.drainedReported ∧ (reachLocked s).rxp = s.rxp ∧
    (reachLocked s).ptb = s.ptb ∧ (reachLocked s).tmu.time = s.tmu.time ∧ (reachLocked s).tmu.rate = s.tmu.rate ∧
    (reachLocked s).tmu.residue = s.tmu.residue ∧ (reachLocked s).tmu.integral = s.tmu.integral ∧
    (reachLocked s).tmu.lockCount = s.tmu.lockCount ∧ (reachLocked s).tmu.rateLimitCount = s.tmu.rateLimitCount ∧
    (reachLocked s).tmu.holdoverTimer = s.tmu.holdoverTimer ∧ (reachLocked s).tmu.lastError = s.tmu.lastError ∧
    (reachLocked s).tmu.settings = s.tmu.settings ∧ (reachLocked s).tmu.label = s.tmu.label ∧
    (reachLocked s).tmu.lastRef = s.tmu.lastRef ∧ (reachLocked s).src = s.src ∧ (reachLocked s).sec = s.sec ∧
    (reachLocked s).alu = s.alu ∧ (reachLocked s).cpt.bits = s.cpt.bits ∧
    (reachLocked s).cpt.parser = s.cpt.parser ∧
    (reachLocked s).cpt.incoming = s.cpt.incoming ∧ (reachLocked s).cpt.replies = s.cpt.replies ∧
    (reachLocked s).cpt.outgoing = s.cpt.outgoing ∧ (reachLocked s).cpt.eventMap = s.cpt.eventMap ∧
    (reachLocked s).cpt.hold = s.cpt.hold ∧ (reachLocked s).cpt.crst = s.cpt.crst ∧ (reachLocked s).stl = s.stl ∧
    (reachLocked s).pins = s.pins ∧ (reachLocked s).pinsAhead = s.pinsAhead ∧
    (reachLocked s).pending = s.pending := by
  unfold reachLocked; dsimp only; simp

@[simp] theorem acquireSample_frame (s : State) (e f : Int) :
    (acquireSample e f s).bau = s.bau ∧ (acquireSample e f s).txs.slots = s.txs.slots ∧
    (acquireSample e f s).txs.nextSeq = s.txs.nextSeq ∧ (acquireSample e f s).txs.lateTimer = s.txs.lateTimer ∧
    (acquireSample e f s).txs.undeliverableTimer = s.txs.undeliverableTimer ∧
    (acquireSample e f s).txs.drainedReported = s.txs.drainedReported ∧ (acquireSample e f s).rxp = s.rxp ∧
    (acquireSample e f s).ptb = s.ptb ∧ (acquireSample e f s).tmu.residue = s.tmu.residue ∧
    (acquireSample e f s).tmu.holdoverTimer = s.tmu.holdoverTimer ∧
    (acquireSample e f s).tmu.lastError = s.tmu.lastError ∧ (acquireSample e f s).tmu.settings = s.tmu.settings ∧
    (acquireSample e f s).tmu.label = s.tmu.label ∧ (acquireSample e f s).tmu.lastRef = s.tmu.lastRef ∧
    (acquireSample e f s).src = s.src ∧ (acquireSample e f s).sec = s.sec ∧
    (acquireSample e f s).alu.intervalTimer = s.alu.intervalTimer ∧ (acquireSample e f s).alu.alert = s.alu.alert ∧
    (acquireSample e f s).alu.collector = s.alu.collector ∧ (acquireSample e f s).cpt.bits = s.cpt.bits ∧
    (acquireSample e f s).cpt.parser = s.cpt.parser ∧
    (acquireSample e f s).cpt.incoming = s.cpt.incoming ∧ (acquireSample e f s).cpt.replies = s.cpt.replies ∧
    (acquireSample e f s).cpt.outgoing = s.cpt.outgoing ∧ (acquireSample e f s).cpt.eventMap = s.cpt.eventMap ∧
    (acquireSample e f s).cpt.hold = s.cpt.hold ∧ (acquireSample e f s).cpt.crst = s.cpt.crst ∧
    (acquireSample e f s).stl = s.stl ∧ (acquireSample e f s).pins = s.pins ∧
    (acquireSample e f s).pinsAhead = s.pinsAhead ∧
    (acquireSample e f s).pending = s.pending := by
  unfold acquireSample; dsimp only; (repeat' split) <;> simp

@[simp] theorem enterAcquire_frame (s : State) :
    (enterAcquire s).bau = s.bau ∧ (enterAcquire s).txs.slots = s.txs.slots ∧
    (enterAcquire s).txs.nextSeq = s.txs.nextSeq ∧ (enterAcquire s).txs.lateTimer = s.txs.lateTimer ∧
    (enterAcquire s).txs.undeliverableTimer = s.txs.undeliverableTimer ∧
    (enterAcquire s).txs.drainedReported = s.txs.drainedReported ∧ (enterAcquire s).rxp = s.rxp ∧
    (enterAcquire s).ptb = s.ptb ∧ (enterAcquire s).tmu.time = s.tmu.time ∧ (enterAcquire s).tmu.rate = s.tmu.rate ∧
    (enterAcquire s).tmu.residue = s.tmu.residue ∧ (enterAcquire s).tmu.integral = s.tmu.integral ∧
    (enterAcquire s).tmu.everLocked = s.tmu.everLocked ∧
    (enterAcquire s).tmu.rateLimitCount = s.tmu.rateLimitCount ∧
    (enterAcquire s).tmu.holdoverTimer = s.tmu.holdoverTimer ∧ (enterAcquire s).tmu.lastError = s.tmu.lastError ∧
    (enterAcquire s).tmu.settings = s.tmu.settings ∧ (enterAcquire s).tmu.label = s.tmu.label ∧
    (enterAcquire s).tmu.lastRef = s.tmu.lastRef ∧ (enterAcquire s).src = s.src ∧ (enterAcquire s).sec = s.sec ∧
    (enterAcquire s).alu = s.alu ∧ (enterAcquire s).cpt.bits = s.cpt.bits ∧
    (enterAcquire s).cpt.parser = s.cpt.parser ∧
    (enterAcquire s).cpt.incoming = s.cpt.incoming ∧ (enterAcquire s).cpt.replies = s.cpt.replies ∧
    (enterAcquire s).cpt.outgoing = s.cpt.outgoing ∧ (enterAcquire s).cpt.eventMap = s.cpt.eventMap ∧
    (enterAcquire s).cpt.hold = s.cpt.hold ∧ (enterAcquire s).cpt.crst = s.cpt.crst ∧ (enterAcquire s).stl = s.stl ∧
    (enterAcquire s).pins = s.pins ∧ (enterAcquire s).pinsAhead = s.pinsAhead ∧
    (enterAcquire s).pending = s.pending := by
  unfold enterAcquire; dsimp only; simp

@[simp] theorem enterHoldover_frame (s : State) :
    (enterHoldover s).bau = s.bau ∧ (enterHoldover s).txs.slots = s.txs.slots ∧
    (enterHoldover s).txs.nextSeq = s.txs.nextSeq ∧ (enterHoldover s).txs.lateTimer = s.txs.lateTimer ∧
    (enterHoldover s).txs.undeliverableTimer = s.txs.undeliverableTimer ∧
    (enterHoldover s).txs.drainedReported = s.txs.drainedReported ∧ (enterHoldover s).rxp = s.rxp ∧
    (enterHoldover s).ptb = s.ptb ∧ (enterHoldover s).tmu.time = s.tmu.time ∧
    (enterHoldover s).tmu.residue = s.tmu.residue ∧ (enterHoldover s).tmu.integral = s.tmu.integral ∧
    (enterHoldover s).tmu.everLocked = s.tmu.everLocked ∧ (enterHoldover s).tmu.lockCount = s.tmu.lockCount ∧
    (enterHoldover s).tmu.rateLimitCount = s.tmu.rateLimitCount ∧
    (enterHoldover s).tmu.lastError = s.tmu.lastError ∧ (enterHoldover s).tmu.settings = s.tmu.settings ∧
    (enterHoldover s).tmu.label = s.tmu.label ∧ (enterHoldover s).tmu.lastRef = s.tmu.lastRef ∧
    (enterHoldover s).src = s.src ∧ (enterHoldover s).sec = s.sec ∧
    (enterHoldover s).alu.intervalTimer = s.alu.intervalTimer ∧ (enterHoldover s).alu.alert = s.alu.alert ∧
    (enterHoldover s).alu.collector = s.alu.collector ∧ (enterHoldover s).cpt.bits = s.cpt.bits ∧
    (enterHoldover s).cpt.parser = s.cpt.parser ∧
    (enterHoldover s).cpt.incoming = s.cpt.incoming ∧ (enterHoldover s).cpt.replies = s.cpt.replies ∧
    (enterHoldover s).cpt.outgoing = s.cpt.outgoing ∧ (enterHoldover s).cpt.eventMap = s.cpt.eventMap ∧
    (enterHoldover s).cpt.hold = s.cpt.hold ∧ (enterHoldover s).cpt.crst = s.cpt.crst ∧
    (enterHoldover s).stl = s.stl ∧ (enterHoldover s).pins = s.pins ∧ (enterHoldover s).pinsAhead = s.pinsAhead ∧
    (enterHoldover s).pending = s.pending := by
  unfold enterHoldover; dsimp only; simp

@[simp] theorem leaveHoldover_frame (s : State) :
    (leaveHoldover s).bau = s.bau ∧ (leaveHoldover s).txs = s.txs ∧ (leaveHoldover s).rxp = s.rxp ∧
    (leaveHoldover s).ptb = s.ptb ∧ (leaveHoldover s).tmu.time = s.tmu.time ∧
    (leaveHoldover s).tmu.rate = s.tmu.rate ∧ (leaveHoldover s).tmu.residue = s.tmu.residue ∧
    (leaveHoldover s).tmu.integral = s.tmu.integral ∧ (leaveHoldover s).tmu.servo = s.tmu.servo ∧
    (leaveHoldover s).tmu.everLocked = s.tmu.everLocked ∧ (leaveHoldover s).tmu.lockCount = s.tmu.lockCount ∧
    (leaveHoldover s).tmu.outlierCount = s.tmu.outlierCount ∧
    (leaveHoldover s).tmu.rateLimitCount = s.tmu.rateLimitCount ∧
    (leaveHoldover s).tmu.lastError = s.tmu.lastError ∧ (leaveHoldover s).tmu.settings = s.tmu.settings ∧
    (leaveHoldover s).tmu.label = s.tmu.label ∧ (leaveHoldover s).tmu.lastRef = s.tmu.lastRef ∧
    (leaveHoldover s).tmu.sta = s.tmu.sta ∧ (leaveHoldover s).tmu.stb = s.tmu.stb ∧
    (leaveHoldover s).tmu.gateOpen = s.tmu.gateOpen ∧ (leaveHoldover s).src = s.src ∧
    (leaveHoldover s).sec = s.sec ∧ (leaveHoldover s).alu.inputs = s.alu.inputs ∧
    (leaveHoldover s).alu.intervalTimer = s.alu.intervalTimer ∧ (leaveHoldover s).alu.alert = s.alu.alert ∧
    (leaveHoldover s).alu.collector = s.alu.collector ∧ (leaveHoldover s).cpt.bits = s.cpt.bits ∧
    (leaveHoldover s).cpt.parser = s.cpt.parser ∧
    (leaveHoldover s).cpt.incoming = s.cpt.incoming ∧ (leaveHoldover s).cpt.replies = s.cpt.replies ∧
    (leaveHoldover s).cpt.outgoing = s.cpt.outgoing ∧ (leaveHoldover s).cpt.results = s.cpt.results ∧
    (leaveHoldover s).cpt.eventMap = s.cpt.eventMap ∧ (leaveHoldover s).cpt.hold = s.cpt.hold ∧
    (leaveHoldover s).cpt.crst = s.cpt.crst ∧ (leaveHoldover s).stl = s.stl ∧
    (leaveHoldover s).counters = s.counters ∧ (leaveHoldover s).pins = s.pins ∧
    (leaveHoldover s).pinsAhead = s.pinsAhead ∧
    (leaveHoldover s).pending = s.pending := by
  unfold leaveHoldover; dsimp only; simp

@[simp] theorem loseSource_frame (s : State) :
    (loseSource s).bau = s.bau ∧ (loseSource s).txs.slots = s.txs.slots ∧
    (loseSource s).txs.nextSeq = s.txs.nextSeq ∧ (loseSource s).txs.lateTimer = s.txs.lateTimer ∧
    (loseSource s).txs.undeliverableTimer = s.txs.undeliverableTimer ∧
    (loseSource s).txs.drainedReported = s.txs.drainedReported ∧ (loseSource s).rxp = s.rxp ∧
    (loseSource s).ptb = s.ptb ∧ (loseSource s).tmu.time = s.tmu.time ∧ (loseSource s).tmu.residue = s.tmu.residue ∧
    (loseSource s).tmu.integral = s.tmu.integral ∧ (loseSource s).tmu.everLocked = s.tmu.everLocked ∧
    (loseSource s).tmu.lockCount = s.tmu.lockCount ∧ (loseSource s).tmu.rateLimitCount = s.tmu.rateLimitCount ∧
    (loseSource s).tmu.lastError = s.tmu.lastError ∧ (loseSource s).tmu.settings = s.tmu.settings ∧
    (loseSource s).tmu.label = s.tmu.label ∧ (loseSource s).tmu.lastRef = s.tmu.lastRef ∧
    (loseSource s).src = s.src ∧ (loseSource s).sec = s.sec ∧
    (loseSource s).alu.intervalTimer = s.alu.intervalTimer ∧ (loseSource s).alu.alert = s.alu.alert ∧
    (loseSource s).alu.collector = s.alu.collector ∧ (loseSource s).cpt.bits = s.cpt.bits ∧
    (loseSource s).cpt.parser = s.cpt.parser ∧
    (loseSource s).cpt.incoming = s.cpt.incoming ∧ (loseSource s).cpt.replies = s.cpt.replies ∧
    (loseSource s).cpt.outgoing = s.cpt.outgoing ∧ (loseSource s).cpt.eventMap = s.cpt.eventMap ∧
    (loseSource s).cpt.hold = s.cpt.hold ∧ (loseSource s).cpt.crst = s.cpt.crst ∧ (loseSource s).stl = s.stl ∧
    (loseSource s).pins = s.pins ∧ (loseSource s).pinsAhead = s.pinsAhead ∧
    (loseSource s).pending = s.pending := by
  unfold loseSource; (repeat' split) <;> simp

@[simp] theorem outlierSample_frame (s : State) (e f : Int) :
    (outlierSample e f s).bau = s.bau ∧ (outlierSample e f s).txs.slots = s.txs.slots ∧
    (outlierSample e f s).txs.nextSeq = s.txs.nextSeq ∧ (outlierSample e f s).txs.lateTimer = s.txs.lateTimer ∧
    (outlierSample e f s).txs.undeliverableTimer = s.txs.undeliverableTimer ∧
    (outlierSample e f s).txs.drainedReported = s.txs.drainedReported ∧ (outlierSample e f s).rxp = s.rxp ∧
    (outlierSample e f s).ptb = s.ptb ∧ (outlierSample e f s).tmu.residue = s.tmu.residue ∧
    (outlierSample e f s).tmu.holdoverTimer = s.tmu.holdoverTimer ∧
    (outlierSample e f s).tmu.lastError = s.tmu.lastError ∧ (outlierSample e f s).tmu.settings = s.tmu.settings ∧
    (outlierSample e f s).tmu.label = s.tmu.label ∧ (outlierSample e f s).tmu.lastRef = s.tmu.lastRef ∧
    (outlierSample e f s).src = s.src ∧ (outlierSample e f s).sec = s.sec ∧
    (outlierSample e f s).alu.intervalTimer = s.alu.intervalTimer ∧ (outlierSample e f s).alu.alert = s.alu.alert ∧
    (outlierSample e f s).alu.collector = s.alu.collector ∧ (outlierSample e f s).cpt.bits = s.cpt.bits ∧
    (outlierSample e f s).cpt.parser = s.cpt.parser ∧
    (outlierSample e f s).cpt.incoming = s.cpt.incoming ∧ (outlierSample e f s).cpt.replies = s.cpt.replies ∧
    (outlierSample e f s).cpt.outgoing = s.cpt.outgoing ∧ (outlierSample e f s).cpt.eventMap = s.cpt.eventMap ∧
    (outlierSample e f s).cpt.hold = s.cpt.hold ∧ (outlierSample e f s).cpt.crst = s.cpt.crst ∧
    (outlierSample e f s).stl = s.stl ∧ (outlierSample e f s).pins = s.pins ∧
    (outlierSample e f s).pinsAhead = s.pinsAhead ∧
    (outlierSample e f s).pending = s.pending := by
  unfold outlierSample; dsimp only; (repeat' split) <;> simp

@[simp] theorem judgeSample_frame (s : State) (e f : Int) :
    (judgeSample e f s).bau = s.bau ∧ (judgeSample e f s).txs.slots = s.txs.slots ∧
    (judgeSample e f s).txs.nextSeq = s.txs.nextSeq ∧ (judgeSample e f s).txs.lateTimer = s.txs.lateTimer ∧
    (judgeSample e f s).txs.undeliverableTimer = s.txs.undeliverableTimer ∧
    (judgeSample e f s).txs.drainedReported = s.txs.drainedReported ∧ (judgeSample e f s).rxp = s.rxp ∧
    (judgeSample e f s).ptb = s.ptb ∧ (judgeSample e f s).tmu.residue = s.tmu.residue ∧
    (judgeSample e f s).tmu.lastError = s.tmu.lastError ∧ (judgeSample e f s).tmu.settings = s.tmu.settings ∧
    (judgeSample e f s).tmu.label = s.tmu.label ∧ (judgeSample e f s).tmu.lastRef = s.tmu.lastRef ∧
    (judgeSample e f s).src = s.src ∧ (judgeSample e f s).sec = s.sec ∧
    (judgeSample e f s).alu.intervalTimer = s.alu.intervalTimer ∧ (judgeSample e f s).alu.alert = s.alu.alert ∧
    (judgeSample e f s).alu.collector = s.alu.collector ∧ (judgeSample e f s).cpt.bits = s.cpt.bits ∧
    (judgeSample e f s).cpt.parser = s.cpt.parser ∧
    (judgeSample e f s).cpt.incoming = s.cpt.incoming ∧ (judgeSample e f s).cpt.replies = s.cpt.replies ∧
    (judgeSample e f s).cpt.outgoing = s.cpt.outgoing ∧ (judgeSample e f s).cpt.eventMap = s.cpt.eventMap ∧
    (judgeSample e f s).cpt.hold = s.cpt.hold ∧ (judgeSample e f s).cpt.crst = s.cpt.crst ∧
    (judgeSample e f s).stl = s.stl ∧ (judgeSample e f s).pins = s.pins ∧
    (judgeSample e f s).pinsAhead = s.pinsAhead ∧
    (judgeSample e f s).pending = s.pending := by
  unfold judgeSample; dsimp only; (repeat' split) <;> simp

@[simp] theorem takeSample_frame (s : State) (e : Int) (kind : SampleKind) :
    (takeSample e kind s).bau = s.bau ∧ (takeSample e kind s).txs.slots = s.txs.slots ∧
    (takeSample e kind s).txs.nextSeq = s.txs.nextSeq ∧ (takeSample e kind s).txs.lateTimer = s.txs.lateTimer ∧
    (takeSample e kind s).txs.undeliverableTimer = s.txs.undeliverableTimer ∧
    (takeSample e kind s).txs.drainedReported = s.txs.drainedReported ∧ (takeSample e kind s).rxp = s.rxp ∧
    (takeSample e kind s).ptb = s.ptb ∧ (takeSample e kind s).tmu.residue = s.tmu.residue ∧
    (takeSample e kind s).tmu.settings = s.tmu.settings ∧ (takeSample e kind s).tmu.label = s.tmu.label ∧
    (takeSample e kind s).tmu.lastRef = s.tmu.lastRef ∧ (takeSample e kind s).src = s.src ∧
    (takeSample e kind s).sec = s.sec ∧ (takeSample e kind s).alu.intervalTimer = s.alu.intervalTimer ∧
    (takeSample e kind s).alu.alert = s.alu.alert ∧ (takeSample e kind s).alu.collector = s.alu.collector ∧
    (takeSample e kind s).cpt.bits = s.cpt.bits ∧
    (takeSample e kind s).cpt.parser = s.cpt.parser ∧ (takeSample e kind s).cpt.incoming = s.cpt.incoming ∧
    (takeSample e kind s).cpt.replies = s.cpt.replies ∧ (takeSample e kind s).cpt.outgoing = s.cpt.outgoing ∧
    (takeSample e kind s).cpt.eventMap = s.cpt.eventMap ∧ (takeSample e kind s).cpt.hold = s.cpt.hold ∧
    (takeSample e kind s).cpt.crst = s.cpt.crst ∧ (takeSample e kind s).stl = s.stl ∧
    (takeSample e kind s).pins = s.pins ∧ (takeSample e kind s).pinsAhead = s.pinsAhead ∧
    (takeSample e kind s).pending = s.pending := by
  unfold takeSample; dsimp only; (repeat' split) <;> simp

@[simp] theorem advanceCounter_frame (s : State) :
    (advanceCounter s).bau = s.bau ∧ (advanceCounter s).txs = s.txs ∧ (advanceCounter s).rxp = s.rxp ∧
    (advanceCounter s).ptb = s.ptb ∧ (advanceCounter s).tmu.rate = s.tmu.rate ∧
    (advanceCounter s).tmu.integral = s.tmu.integral ∧ (advanceCounter s).tmu.servo = s.tmu.servo ∧
    (advanceCounter s).tmu.everLocked = s.tmu.everLocked ∧ (advanceCounter s).tmu.lockCount = s.tmu.lockCount ∧
    (advanceCounter s).tmu.outlierCount = s.tmu.outlierCount ∧
    (advanceCounter s).tmu.rateLimitCount = s.tmu.rateLimitCount ∧
    (advanceCounter s).tmu.holdoverTimer = s.tmu.holdoverTimer ∧
    (advanceCounter s).tmu.lastError = s.tmu.lastError ∧ (advanceCounter s).tmu.settings = s.tmu.settings ∧
    (advanceCounter s).tmu.label = s.tmu.label ∧ (advanceCounter s).tmu.lastRef = s.tmu.lastRef ∧
    (advanceCounter s).tmu.sta = s.tmu.sta ∧ (advanceCounter s).tmu.stb = s.tmu.stb ∧
    (advanceCounter s).tmu.gateOpen = s.tmu.gateOpen ∧ (advanceCounter s).src = s.src ∧
    (advanceCounter s).sec = s.sec ∧ (advanceCounter s).alu = s.alu ∧ (advanceCounter s).cpt = s.cpt ∧
    (advanceCounter s).stl = s.stl ∧ (advanceCounter s).counters = s.counters ∧
    (advanceCounter s).pins = s.pins ∧ (advanceCounter s).pinsAhead = s.pinsAhead ∧
    (advanceCounter s).pending = s.pending := by
  unfold advanceCounter; dsimp only; simp

@[simp] theorem startPulse_frame (s : State) (g : Strobe) :
    (startPulse g s).bau = s.bau ∧ (startPulse g s).txs.storeFree = s.txs.storeFree ∧
    (startPulse g s).txs.slots = s.txs.slots ∧ (startPulse g s).txs.nextSeq = s.txs.nextSeq ∧
    (startPulse g s).txs.lateTimer = s.txs.lateTimer ∧
    (startPulse g s).txs.undeliverableTimer = s.txs.undeliverableTimer ∧
    (startPulse g s).txs.drainedReported = s.txs.drainedReported ∧ (startPulse g s).rxp = s.rxp ∧
    (startPulse g s).ptb = s.ptb ∧ (startPulse g s).tmu.time = s.tmu.time ∧ (startPulse g s).tmu.rate = s.tmu.rate ∧
    (startPulse g s).tmu.residue = s.tmu.residue ∧ (startPulse g s).tmu.integral = s.tmu.integral ∧
    (startPulse g s).tmu.servo = s.tmu.servo ∧ (startPulse g s).tmu.everLocked = s.tmu.everLocked ∧
    (startPulse g s).tmu.lockCount = s.tmu.lockCount ∧ (startPulse g s).tmu.outlierCount = s.tmu.outlierCount ∧
    (startPulse g s).tmu.rateLimitCount = s.tmu.rateLimitCount ∧
    (startPulse g s).tmu.holdoverTimer = s.tmu.holdoverTimer ∧ (startPulse g s).tmu.lastError = s.tmu.lastError ∧
    (startPulse g s).tmu.settings = s.tmu.settings ∧ (startPulse g s).tmu.label = s.tmu.label ∧
    (startPulse g s).tmu.lastRef = s.tmu.lastRef ∧ (startPulse g s).tmu.gateOpen = s.tmu.gateOpen ∧
    (startPulse g s).src = s.src ∧ (startPulse g s).sec = s.sec ∧ (startPulse g s).alu = s.alu ∧
    (startPulse g s).cpt = s.cpt ∧ (startPulse g s).stl = s.stl ∧ (startPulse g s).counters = s.counters ∧
    (startPulse g s).pins = s.pins ∧ (startPulse g s).pinsAhead = s.pinsAhead ∧
    (startPulse g s).pending = s.pending := by
  cases g <;> simp [startPulse, Tmu.setStrobe]

@[simp] theorem strobeTick_frame (s : State) (g : Strobe) (b : FullTime) (d : Int) :
    (strobeTick g b d s).bau = s.bau ∧ (strobeTick g b d s).txs.storeFree = s.txs.storeFree ∧
    (strobeTick g b d s).txs.slots = s.txs.slots ∧ (strobeTick g b d s).txs.nextSeq = s.txs.nextSeq ∧
    (strobeTick g b d s).txs.lateTimer = s.txs.lateTimer ∧
    (strobeTick g b d s).txs.undeliverableTimer = s.txs.undeliverableTimer ∧
    (strobeTick g b d s).txs.drainedReported = s.txs.drainedReported ∧ (strobeTick g b d s).rxp = s.rxp ∧
    (strobeTick g b d s).ptb = s.ptb ∧ (strobeTick g b d s).tmu.time = s.tmu.time ∧
    (strobeTick g b d s).tmu.rate = s.tmu.rate ∧ (strobeTick g b d s).tmu.residue = s.tmu.residue ∧
    (strobeTick g b d s).tmu.integral = s.tmu.integral ∧ (strobeTick g b d s).tmu.servo = s.tmu.servo ∧
    (strobeTick g b d s).tmu.everLocked = s.tmu.everLocked ∧ (strobeTick g b d s).tmu.lockCount = s.tmu.lockCount ∧
    (strobeTick g b d s).tmu.outlierCount = s.tmu.outlierCount ∧
    (strobeTick g b d s).tmu.rateLimitCount = s.tmu.rateLimitCount ∧
    (strobeTick g b d s).tmu.holdoverTimer = s.tmu.holdoverTimer ∧
    (strobeTick g b d s).tmu.lastError = s.tmu.lastError ∧ (strobeTick g b d s).tmu.settings = s.tmu.settings ∧
    (strobeTick g b d s).tmu.label = s.tmu.label ∧ (strobeTick g b d s).tmu.lastRef = s.tmu.lastRef ∧
    (strobeTick g b d s).tmu.gateOpen = s.tmu.gateOpen ∧ (strobeTick g b d s).src = s.src ∧
    (strobeTick g b d s).sec = s.sec ∧ (strobeTick g b d s).alu = s.alu ∧ (strobeTick g b d s).cpt = s.cpt ∧
    (strobeTick g b d s).stl = s.stl ∧ (strobeTick g b d s).counters = s.counters ∧
    (strobeTick g b d s).pins = s.pins ∧ (strobeTick g b d s).pinsAhead = s.pinsAhead ∧
    (strobeTick g b d s).pending = s.pending := by
  unfold strobeTick; dsimp only; (repeat' split) <;> simp

@[simp] theorem syncTick_frame (s : State) (b : FullTime) (d : Int) :
    (syncTick b d s).bau = s.bau ∧ (syncTick b d s).txs.queues = s.txs.queues ∧
    (syncTick b d s).txs.storeFree = s.txs.storeFree ∧ (syncTick b d s).txs.nextSeq = s.txs.nextSeq ∧
    (syncTick b d s).txs.lateTimer = s.txs.lateTimer ∧
    (syncTick b d s).txs.undeliverableTimer = s.txs.undeliverableTimer ∧
    (syncTick b d s).txs.drainedReported = s.txs.drainedReported ∧ (syncTick b d s).rxp = s.rxp ∧
    (syncTick b d s).ptb = s.ptb ∧ (syncTick b d s).tmu = s.tmu ∧ (syncTick b d s).src = s.src ∧
    (syncTick b d s).sec = s.sec ∧ (syncTick b d s).alu = s.alu ∧ (syncTick b d s).cpt = s.cpt ∧
    (syncTick b d s).stl = s.stl ∧ (syncTick b d s).counters = s.counters ∧ (syncTick b d s).pins = s.pins ∧
    (syncTick b d s).pinsAhead = s.pinsAhead ∧
    (syncTick b d s).pending = s.pending := by
  unfold syncTick; (repeat' split) <;> simp

@[simp] theorem useLabel_frame (s : State) :
    (useLabel s).bau = s.bau ∧ (useLabel s).txs = s.txs ∧ (useLabel s).rxp = s.rxp ∧ (useLabel s).ptb = s.ptb ∧
    (useLabel s).tmu.time = s.tmu.time ∧ (useLabel s).tmu.rate = s.tmu.rate ∧
    (useLabel s).tmu.residue = s.tmu.residue ∧ (useLabel s).tmu.integral = s.tmu.integral ∧
    (useLabel s).tmu.servo = s.tmu.servo ∧ (useLabel s).tmu.everLocked = s.tmu.everLocked ∧
    (useLabel s).tmu.lockCount = s.tmu.lockCount ∧ (useLabel s).tmu.outlierCount = s.tmu.outlierCount ∧
    (useLabel s).tmu.rateLimitCount = s.tmu.rateLimitCount ∧ (useLabel s).tmu.holdoverTimer = s.tmu.holdoverTimer ∧
    (useLabel s).tmu.lastError = s.tmu.lastError ∧ (useLabel s).tmu.settings = s.tmu.settings ∧
    (useLabel s).tmu.lastRef = s.tmu.lastRef ∧ (useLabel s).tmu.sta = s.tmu.sta ∧ (useLabel s).tmu.stb = s.tmu.stb ∧
    (useLabel s).tmu.gateOpen = s.tmu.gateOpen ∧ (useLabel s).src = s.src ∧ (useLabel s).sec = s.sec ∧
    (useLabel s).alu = s.alu ∧ (useLabel s).cpt.bits = s.cpt.bits ∧
    (useLabel s).cpt.parser = s.cpt.parser ∧ (useLabel s).cpt.incoming = s.cpt.incoming ∧
    (useLabel s).cpt.replies = s.cpt.replies ∧ (useLabel s).cpt.outgoing = s.cpt.outgoing ∧
    (useLabel s).cpt.results = s.cpt.results ∧ (useLabel s).cpt.eventMap = s.cpt.eventMap ∧
    (useLabel s).cpt.hold = s.cpt.hold ∧ (useLabel s).cpt.crst = s.cpt.crst ∧ (useLabel s).stl = s.stl ∧
    (useLabel s).counters = s.counters ∧ (useLabel s).pins = s.pins ∧ (useLabel s).pinsAhead = s.pinsAhead ∧
    (useLabel s).pending = s.pending := by
  unfold useLabel; dsimp only; (repeat' split) <;> simp

@[simp] theorem takeReference_frame (s : State) (x : FullTime) :
    (takeReference x s).bau = s.bau ∧ (takeReference x s).txs.slots = s.txs.slots ∧
    (takeReference x s).txs.nextSeq = s.txs.nextSeq ∧ (takeReference x s).txs.lateTimer = s.txs.lateTimer ∧
    (takeReference x s).txs.undeliverableTimer = s.txs.undeliverableTimer ∧
    (takeReference x s).txs.drainedReported = s.txs.drainedReported ∧ (takeReference x s).rxp = s.rxp ∧
    (takeReference x s).ptb = s.ptb ∧ (takeReference x s).tmu.residue = s.tmu.residue ∧
    (takeReference x s).tmu.settings = s.tmu.settings ∧ (takeReference x s).tmu.lastRef = s.tmu.lastRef ∧
    (takeReference x s).src.quality = s.src.quality ∧ (takeReference x s).src.priority = s.src.priority ∧
    (takeReference x s).src.capable = s.src.capable ∧ (takeReference x s).src.table = s.src.table ∧
    (takeReference x s).src.selection = s.src.selection ∧ (takeReference x s).src.role = s.src.role ∧
    (takeReference x s).src.announceTimer = s.src.announceTimer ∧
    (takeReference x s).src.syncTimeout = s.src.syncTimeout ∧
    (takeReference x s).src.sourceLost = s.src.sourceLost ∧ (takeReference x s).sec = s.sec ∧
    (takeReference x s).alu.intervalTimer = s.alu.intervalTimer ∧ (takeReference x s).alu.alert = s.alu.alert ∧
    (takeReference x s).alu.collector = s.alu.collector ∧ (takeReference x s).cpt.bits = s.cpt.bits ∧
    (takeReference x s).cpt.parser = s.cpt.parser ∧
    (takeReference x s).cpt.incoming = s.cpt.incoming ∧ (takeReference x s).cpt.replies = s.cpt.replies ∧
    (takeReference x s).cpt.outgoing = s.cpt.outgoing ∧ (takeReference x s).cpt.eventMap = s.cpt.eventMap ∧
    (takeReference x s).cpt.hold = s.cpt.hold ∧ (takeReference x s).cpt.crst = s.cpt.crst ∧
    (takeReference x s).stl = s.stl ∧ (takeReference x s).pins = s.pins ∧
    (takeReference x s).pinsAhead = s.pinsAhead ∧
    (takeReference x s).pending = s.pending := by
  unfold takeReference; dsimp only; simp

@[simp] theorem refEdge_frame (s : State) (k : EdgeDelay) :
    (refEdge k s).bau = s.bau ∧ (refEdge k s).txs.slots = s.txs.slots ∧ (refEdge k s).txs.nextSeq = s.txs.nextSeq ∧
    (refEdge k s).txs.lateTimer = s.txs.lateTimer ∧
    (refEdge k s).txs.undeliverableTimer = s.txs.undeliverableTimer ∧
    (refEdge k s).txs.drainedReported = s.txs.drainedReported ∧ (refEdge k s).rxp = s.rxp ∧
    (refEdge k s).ptb = s.ptb ∧ (refEdge k s).tmu.residue = s.tmu.residue ∧
    (refEdge k s).tmu.settings = s.tmu.settings ∧ (refEdge k s).src.quality = s.src.quality ∧
    (refEdge k s).src.priority = s.src.priority ∧ (refEdge k s).src.capable = s.src.capable ∧
    (refEdge k s).src.table = s.src.table ∧ (refEdge k s).src.selection = s.src.selection ∧
    (refEdge k s).src.role = s.src.role ∧ (refEdge k s).src.announceTimer = s.src.announceTimer ∧
    (refEdge k s).src.syncTimeout = s.src.syncTimeout ∧ (refEdge k s).src.sourceLost = s.src.sourceLost ∧
    (refEdge k s).sec = s.sec ∧ (refEdge k s).alu.intervalTimer = s.alu.intervalTimer ∧
    (refEdge k s).alu.alert = s.alu.alert ∧ (refEdge k s).alu.collector = s.alu.collector ∧
    (refEdge k s).cpt.bits = s.cpt.bits ∧
    (refEdge k s).cpt.parser = s.cpt.parser ∧ (refEdge k s).cpt.incoming = s.cpt.incoming ∧
    (refEdge k s).cpt.replies = s.cpt.replies ∧ (refEdge k s).cpt.outgoing = s.cpt.outgoing ∧
    (refEdge k s).cpt.eventMap = s.cpt.eventMap ∧ (refEdge k s).cpt.hold = s.cpt.hold ∧
    (refEdge k s).cpt.crst = s.cpt.crst ∧ (refEdge k s).stl = s.stl ∧ (refEdge k s).pins = s.pins ∧
    (refEdge k s).pinsAhead = s.pinsAhead ∧
    (refEdge k s).pending = s.pending := by
  unfold refEdge; dsimp only; (repeat' split) <;> simp

/-! ### No operation takes an event out of the pending set (R186) -/

@[simp] theorem shutGate_events (s : State) {a : EventKind} (h : a ∈ s.cpt.events) :
    a ∈ (shutGate s).cpt.events := by
  unfold shutGate; dsimp only;
    (repeat (first | with_reducible apply purgeTimeLost_events | simp [h] | exact h))

@[simp] theorem reevaluate_events (s : State) (before : Bool) {a : EventKind} (h : a ∈ s.cpt.events) :
    a ∈ (reevaluate before s).cpt.events := by
  unfold reevaluate; (repeat' split) <;>
    (repeat (first | with_reducible apply shutGate_events | simp [h] | exact h))

@[simp] theorem setServo_events (s : State) (v : Servo) {a : EventKind} (h : a ∈ s.cpt.events) :
    a ∈ (setServo v s).cpt.events := by
  unfold setServo; dsimp only; (repeat' split) <;>
    (repeat (first | with_reducible apply signal_events | with_reducible apply reevaluate_events | simp [h] | exact h))

@[simp] theorem setRole_events (s : State) (r : Role) {a : EventKind} (h : a ∈ s.cpt.events) :
    a ∈ (setRole r s).cpt.events := by
  unfold setRole; dsimp only; (repeat' split) <;>
    (repeat (first | with_reducible apply signal_events | with_reducible apply clearKey_events | with_reducible apply reevaluate_events | simp [h] | exact h))

@[simp] theorem countClamp_events (s : State) (b : Bool) {a : EventKind} (h : a ∈ s.cpt.events) :
    a ∈ (countClamp b s).cpt.events := by
  unfold countClamp; dsimp only; (repeat' split) <;>
    (repeat (first | with_reducible apply raiseInternal_events | with_reducible apply clearKey_events | simp [h] | exact h))

@[simp] theorem servoUpdate_events (s : State) (e f : Int) {a : EventKind} (h : a ∈ s.cpt.events) :
    a ∈ (servoUpdate e f s).cpt.events := by
  unfold servoUpdate; dsimp only;
    (repeat (first | with_reducible apply countClamp_events | simp [h] | exact h))

@[simp] theorem stepTime_events (s : State) (e : Int) {a : EventKind} (h : a ∈ s.cpt.events) :
    a ∈ (stepTime e s).cpt.events := by
  unfold stepTime; dsimp only;
    (repeat (first | with_reducible apply bump_events | simp [h] | exact h))

@[simp] theorem reachLocked_events (s : State) {a : EventKind} (h : a ∈ s.cpt.events) :
    a ∈ (reachLocked s).cpt.events := by
  unfold reachLocked; dsimp only;
    (repeat (first | with_reducible apply setServo_events | simp [h] | exact h))

@[simp] theorem acquireSample_events (s : State) (e f : Int) {a : EventKind} (h : a ∈ s.cpt.events) :
    a ∈ (acquireSample e f s).cpt.events := by
  unfold acquireSample; dsimp only; (repeat' split) <;>
    (repeat (first | with_reducible apply servoUpdate_events | with_reducible apply stepTime_events | with_reducible apply reachLocked_events | simp [h] | exact h))

@[simp] theorem enterAcquire_events (s : State) {a : EventKind} (h : a ∈ s.cpt.events) :
    a ∈ (enterAcquire s).cpt.events := by
  unfold enterAcquire; dsimp only;
    (repeat (first | with_reducible apply setServo_events | simp [h] | exact h))

@[simp] theorem enterHoldover_events (s : State) {a : EventKind} (h : a ∈ s.cpt.events) :
    a ∈ (enterHoldover s).cpt.events := by
  unfold enterHoldover; dsimp only;
    (repeat (first | with_reducible apply raiseInternal_events | with_reducible apply setServo_events | simp [h] | exact h))

@[simp] theorem leaveHoldover_events (s : State) {a : EventKind} (h : a ∈ s.cpt.events) :
    a ∈ (leaveHoldover s).cpt.events := by
  unfold leaveHoldover; dsimp only;
    (repeat (first | with_reducible apply clearKey_events | simp [h] | exact h))

@[simp] theorem loseSource_events (s : State) {a : EventKind} (h : a ∈ s.cpt.events) :
    a ∈ (loseSource s).cpt.events := by
  unfold loseSource; (repeat' split) <;>
    (repeat (first | with_reducible apply setServo_events | with_reducible apply enterHoldover_events | simp [h] | exact h))

@[simp] theorem outlierSample_events (s : State) (e f : Int) {a : EventKind} (h : a ∈ s.cpt.events) :
    a ∈ (outlierSample e f s).cpt.events := by
  unfold outlierSample; dsimp only; (repeat' split) <;>
    (repeat (first | with_reducible apply bump_events | with_reducible apply acquireSample_events | with_reducible apply enterAcquire_events | simp [h] | exact h))

@[simp] theorem judgeSample_events (s : State) (e f : Int) {a : EventKind} (h : a ∈ s.cpt.events) :
    a ∈ (judgeSample e f s).cpt.events := by
  unfold judgeSample; dsimp only; (repeat' split) <;>
    (repeat (first | with_reducible apply setServo_events | with_reducible apply servoUpdate_events | with_reducible apply acquireSample_events | with_reducible apply enterAcquire_events | with_reducible apply leaveHoldover_events | with_reducible apply outlierSample_events | simp [h] | exact h))

@[simp] theorem takeSample_events (s : State) (e : Int) (kind : SampleKind) {a : EventKind} (h : a ∈ s.cpt.events) :
    a ∈ (takeSample e kind s).cpt.events := by
  unfold takeSample; dsimp only; (repeat' split) <;>
    (repeat (first | with_reducible apply bump_events | with_reducible apply judgeSample_events | simp [h] | exact h))

@[simp] theorem useLabel_events (s : State) {a : EventKind} (h : a ∈ s.cpt.events) :
    a ∈ (useLabel s).cpt.events := by
  unfold useLabel; dsimp only; (repeat' split) <;>
    (repeat (first | with_reducible apply signal_events | simp [h] | exact h))

@[simp] theorem takeReference_events (s : State) (x : FullTime) {a : EventKind} (h : a ∈ s.cpt.events) :
    a ∈ (takeReference x s).cpt.events := by
  unfold takeReference; dsimp only;
    (repeat (first | with_reducible apply clearKey_events | with_reducible apply takeSample_events | with_reducible apply useLabel_events | simp [h] | exact h))

@[simp] theorem refEdge_events (s : State) (k : EdgeDelay) {a : EventKind} (h : a ∈ s.cpt.events) :
    a ∈ (refEdge k s).cpt.events := by
  unfold refEdge; dsimp only; (repeat' split) <;>
    (repeat (first | with_reducible apply takeReference_events | simp [h] | exact h))

end Sys2Proof.Machine
end

