-- ==== Sys2Proof/Laws/Sources.lean ====
section
/-! SUPPORT. What each operation of the source selector leaves as it was, and what it does. -/

namespace Sys2Proof.Machine

open Sys2Proof

/-! ### Frames -/

@[simp] theorem judgeSourceLost_frame (s : State) :
    (judgeSourceLost s).bau = s.bau ∧ (judgeSourceLost s).txs = s.txs ∧ (judgeSourceLost s).rxp = s.rxp ∧
    (judgeSourceLost s).ptb = s.ptb ∧ (judgeSourceLost s).tmu = s.tmu ∧
    (judgeSourceLost s).src.quality = s.src.quality ∧ (judgeSourceLost s).src.priority = s.src.priority ∧
    (judgeSourceLost s).src.capable = s.src.capable ∧ (judgeSourceLost s).src.table = s.src.table ∧
    (judgeSourceLost s).src.selection = s.src.selection ∧ (judgeSourceLost s).src.role = s.src.role ∧
    (judgeSourceLost s).src.announceTimer = s.src.announceTimer ∧
    (judgeSourceLost s).src.syncTimeout = s.src.syncTimeout ∧
    (judgeSourceLost s).src.refTimeout = s.src.refTimeout ∧ (judgeSourceLost s).src.refSeen = s.src.refSeen ∧
    (judgeSourceLost s).sec = s.sec ∧ (judgeSourceLost s).alu.intervalTimer = s.alu.intervalTimer ∧
    (judgeSourceLost s).alu.alert = s.alu.alert ∧ (judgeSourceLost s).alu.collector = s.alu.collector ∧
    (judgeSourceLost s).cpt.bits = s.cpt.bits ∧
    (judgeSourceLost s).cpt.parser = s.cpt.parser ∧ (judgeSourceLost s).cpt.incoming = s.cpt.incoming ∧
    (judgeSourceLost s).cpt.replies = s.cpt.replies ∧ (judgeSourceLost s).cpt.outgoing = s.cpt.outgoing ∧
    (judgeSourceLost s).cpt.results = s.cpt.results ∧ (judgeSourceLost s).cpt.eventMap = s.cpt.eventMap ∧
    (judgeSourceLost s).cpt.hold = s.cpt.hold ∧ (judgeSourceLost s).cpt.crst = s.cpt.crst ∧
    (judgeSourceLost s).stl = s.stl ∧ (judgeSourceLost s).pins = s.pins ∧
    (judgeSourceLost s).pinsAhead = s.pinsAhead ∧
    (judgeSourceLost s).pending = s.pending := by
  unfold judgeSourceLost; dsimp only; (repeat' split) <;> simp

@[simp] theorem changeSelection_frame (s : State) (sel : Option Slot) :
    (changeSelection sel s).bau = s.bau ∧ (changeSelection sel s).txs.slots = s.txs.slots ∧
    (changeSelection sel s).txs.nextSeq = s.txs.nextSeq ∧ (changeSelection sel s).txs.lateTimer = s.txs.lateTimer ∧
    (changeSelection sel s).txs.undeliverableTimer = s.txs.undeliverableTimer ∧
    (changeSelection sel s).txs.drainedReported = s.txs.drainedReported ∧ (changeSelection sel s).rxp = s.rxp ∧
    (changeSelection sel s).ptb = s.ptb ∧ (changeSelection sel s).tmu.time = s.tmu.time ∧
    (changeSelection sel s).tmu.residue = s.tmu.residue ∧ (changeSelection sel s).tmu.integral = s.tmu.integral ∧
    (changeSelection sel s).tmu.everLocked = s.tmu.everLocked ∧
    (changeSelection sel s).tmu.lockCount = s.tmu.lockCount ∧
    (changeSelection sel s).tmu.rateLimitCount = s.tmu.rateLimitCount ∧
    (changeSelection sel s).tmu.lastError = s.tmu.lastError ∧
    (changeSelection sel s).tmu.settings = s.tmu.settings ∧ (changeSelection sel s).tmu.label = s.tmu.label ∧
    (changeSelection sel s).tmu.lastRef = s.tmu.lastRef ∧ (changeSelection sel s).src.quality = s.src.quality ∧
    (changeSelection sel s).src.priority = s.src.priority ∧ (changeSelection sel s).src.capable = s.src.capable ∧
    (changeSelection sel s).src.table = s.src.table ∧
    (changeSelection sel s).src.announceTimer = s.src.announceTimer ∧
    (changeSelection sel s).src.sourceLost = s.src.sourceLost ∧ (changeSelection sel s).sec = s.sec ∧
    (changeSelection sel s).alu.intervalTimer = s.alu.intervalTimer ∧
    (changeSelection sel s).alu.alert = s.alu.alert ∧ (changeSelection sel s).alu.collector = s.alu.collector ∧
    (changeSelection sel s).cpt.bits = s.cpt.bits ∧
    (changeSelection sel s).cpt.parser = s.cpt.parser ∧ (changeSelection sel s).cpt.incoming = s.cpt.incoming ∧
    (changeSelection sel s).cpt.replies = s.cpt.replies ∧ (changeSelection sel s).cpt.outgoing = s.cpt.outgoing ∧
    (changeSelection sel s).cpt.eventMap = s.cpt.eventMap ∧ (changeSelection sel s).cpt.hold = s.cpt.hold ∧
    (changeSelection sel s).cpt.crst = s.cpt.crst ∧ (changeSelection sel s).stl = s.stl ∧
    (changeSelection sel s).pins = s.pins ∧ (changeSelection sel s).pinsAhead = s.pinsAhead ∧
    (changeSelection sel s).pending = s.pending := by
  unfold changeSelection; dsimp only; (repeat' split) <;> simp

@[simp] theorem selectSource_frame (s : State) :
    (selectSource s).bau = s.bau ∧ (selectSource s).txs.slots = s.txs.slots ∧
    (selectSource s).txs.nextSeq = s.txs.nextSeq ∧ (selectSource s).txs.lateTimer = s.txs.lateTimer ∧
    (selectSource s).txs.undeliverableTimer = s.txs.undeliverableTimer ∧
    (selectSource s).txs.drainedReported = s.txs.drainedReported ∧ (selectSource s).rxp = s.rxp ∧
    (selectSource s).ptb = s.ptb ∧ (selectSource s).tmu.time = s.tmu.time ∧
    (selectSource s).tmu.residue = s.tmu.residue ∧ (selectSource s).tmu.integral = s.tmu.integral ∧
    (selectSource s).tmu.everLocked = s.tmu.everLocked ∧ (selectSource s).tmu.lockCount = s.tmu.lockCount ∧
    (selectSource s).tmu.rateLimitCount = s.tmu.rateLimitCount ∧ (selectSource s).tmu.lastError = s.tmu.lastError ∧
    (selectSource s).tmu.settings = s.tmu.settings ∧ (selectSource s).tmu.label = s.tmu.label ∧
    (selectSource s).tmu.lastRef = s.tmu.lastRef ∧ (selectSource s).src.quality = s.src.quality ∧
    (selectSource s).src.priority = s.src.priority ∧ (selectSource s).src.capable = s.src.capable ∧
    (selectSource s).src.table = s.src.table ∧ (selectSource s).src.announceTimer = s.src.announceTimer ∧
    (selectSource s).src.sourceLost = s.src.sourceLost ∧ (selectSource s).sec = s.sec ∧
    (selectSource s).alu.intervalTimer = s.alu.intervalTimer ∧ (selectSource s).alu.alert = s.alu.alert ∧
    (selectSource s).alu.collector = s.alu.collector ∧ (selectSource s).cpt.bits = s.cpt.bits ∧
    (selectSource s).cpt.parser = s.cpt.parser ∧
    (selectSource s).cpt.incoming = s.cpt.incoming ∧ (selectSource s).cpt.replies = s.cpt.replies ∧
    (selectSource s).cpt.outgoing = s.cpt.outgoing ∧ (selectSource s).cpt.eventMap = s.cpt.eventMap ∧
    (selectSource s).cpt.hold = s.cpt.hold ∧ (selectSource s).cpt.crst = s.cpt.crst ∧ (selectSource s).stl = s.stl ∧
    (selectSource s).pins = s.pins ∧ (selectSource s).pinsAhead = s.pinsAhead ∧
    (selectSource s).pending = s.pending := by
  unfold selectSource; dsimp only; (repeat' split) <;> simp

@[simp] theorem runSelection_frame (s : State) :
    (runSelection s).bau = s.bau ∧ (runSelection s).txs.slots = s.txs.slots ∧
    (runSelection s).txs.nextSeq = s.txs.nextSeq ∧ (runSelection s).txs.lateTimer = s.txs.lateTimer ∧
    (runSelection s).txs.undeliverableTimer = s.txs.undeliverableTimer ∧
    (runSelection s).txs.drainedReported = s.txs.drainedReported ∧ (runSelection s).rxp = s.rxp ∧
    (runSelection s).ptb = s.ptb ∧ (runSelection s).tmu.time = s.tmu.time ∧
    (runSelection s).tmu.residue = s.tmu.residue ∧ (runSelection s).tmu.integral = s.tmu.integral ∧
    (runSelection s).tmu.everLocked = s.tmu.everLocked ∧ (runSelection s).tmu.lockCount = s.tmu.lockCount ∧
    (runSelection s).tmu.rateLimitCount = s.tmu.rateLimitCount ∧ (runSelection s).tmu.lastError = s.tmu.lastError ∧
    (runSelection s).tmu.settings = s.tmu.settings ∧ (runSelection s).tmu.label = s.tmu.label ∧
    (runSelection s).tmu.lastRef = s.tmu.lastRef ∧ (runSelection s).src.quality = s.src.quality ∧
    (runSelection s).src.priority = s.src.priority ∧ (runSelection s).src.capable = s.src.capable ∧
    (runSelection s).src.table = s.src.table ∧ (runSelection s).src.announceTimer = s.src.announceTimer ∧
    (runSelection s).sec = s.sec ∧ (runSelection s).alu.intervalTimer = s.alu.intervalTimer ∧
    (runSelection s).alu.alert = s.alu.alert ∧ (runSelection s).alu.collector = s.alu.collector ∧
    (runSelection s).cpt.bits = s.cpt.bits ∧
    (runSelection s).cpt.parser = s.cpt.parser ∧ (runSelection s).cpt.incoming = s.cpt.incoming ∧
    (runSelection s).cpt.replies = s.cpt.replies ∧ (runSelection s).cpt.outgoing = s.cpt.outgoing ∧
    (runSelection s).cpt.eventMap = s.cpt.eventMap ∧ (runSelection s).cpt.hold = s.cpt.hold ∧
    (runSelection s).cpt.crst = s.cpt.crst ∧ (runSelection s).stl = s.stl ∧ (runSelection s).pins = s.pins ∧
    (runSelection s).pinsAhead = s.pinsAhead ∧
    (runSelection s).pending = s.pending := by
  unfold runSelection; simp

@[simp] theorem dropSource_frame (s : State) (i : Slot) :
    (dropSource i s).bau = s.bau ∧ (dropSource i s).txs.slots = s.txs.slots ∧
    (dropSource i s).txs.nextSeq = s.txs.nextSeq ∧ (dropSource i s).txs.lateTimer = s.txs.lateTimer ∧
    (dropSource i s).txs.undeliverableTimer = s.txs.undeliverableTimer ∧
    (dropSource i s).txs.drainedReported = s.txs.drainedReported ∧ (dropSource i s).rxp = s.rxp ∧
    (dropSource i s).ptb = s.ptb ∧ (dropSource i s).tmu.time = s.tmu.time ∧
    (dropSource i s).tmu.residue = s.tmu.residue ∧ (dropSource i s).tmu.integral = s.tmu.integral ∧
    (dropSource i s).tmu.everLocked = s.tmu.everLocked ∧ (dropSource i s).tmu.lockCount = s.tmu.lockCount ∧
    (dropSource i s).tmu.rateLimitCount = s.tmu.rateLimitCount ∧ (dropSource i s).tmu.lastError = s.tmu.lastError ∧
    (dropSource i s).tmu.settings = s.tmu.settings ∧ (dropSource i s).tmu.label = s.tmu.label ∧
    (dropSource i s).tmu.lastRef = s.tmu.lastRef ∧ (dropSource i s).src.quality = s.src.quality ∧
    (dropSource i s).src.priority = s.src.priority ∧ (dropSource i s).src.capable = s.src.capable ∧
    (dropSource i s).src.announceTimer = s.src.announceTimer ∧ (dropSource i s).sec = s.sec ∧
    (dropSource i s).alu.intervalTimer = s.alu.intervalTimer ∧ (dropSource i s).alu.alert = s.alu.alert ∧
    (dropSource i s).alu.collector = s.alu.collector ∧ (dropSource i s).cpt.bits = s.cpt.bits ∧
    (dropSource i s).cpt.parser = s.cpt.parser ∧
    (dropSource i s).cpt.incoming = s.cpt.incoming ∧ (dropSource i s).cpt.replies = s.cpt.replies ∧
    (dropSource i s).cpt.outgoing = s.cpt.outgoing ∧ (dropSource i s).cpt.eventMap = s.cpt.eventMap ∧
    (dropSource i s).cpt.hold = s.cpt.hold ∧ (dropSource i s).cpt.crst = s.cpt.crst ∧ (dropSource i s).stl = s.stl ∧
    (dropSource i s).pins = s.pins ∧ (dropSource i s).pinsAhead = s.pinsAhead ∧
    (dropSource i s).pending = s.pending := by
  unfold dropSource; (repeat' split) <;> simp

@[simp] theorem updateCandidacy_frame (s : State) :
    (updateCandidacy s).bau = s.bau ∧ (updateCandidacy s).txs.slots = s.txs.slots ∧
    (updateCandidacy s).txs.nextSeq = s.txs.nextSeq ∧ (updateCandidacy s).txs.lateTimer = s.txs.lateTimer ∧
    (updateCandidacy s).txs.undeliverableTimer = s.txs.undeliverableTimer ∧
    (updateCandidacy s).txs.drainedReported = s.txs.drainedReported ∧ (updateCandidacy s).rxp = s.rxp ∧
    (updateCandidacy s).ptb = s.ptb ∧ (updateCandidacy s).tmu.time = s.tmu.time ∧
    (updateCandidacy s).tmu.residue = s.tmu.residue ∧ (updateCandidacy s).tmu.integral = s.tmu.integral ∧
    (updateCandidacy s).tmu.everLocked = s.tmu.everLocked ∧ (updateCandidacy s).tmu.lockCount = s.tmu.lockCount ∧
    (updateCandidacy s).tmu.rateLimitCount = s.tmu.rateLimitCount ∧
    (updateCandidacy s).tmu.lastError = s.tmu.lastError ∧ (updateCandidacy s).tmu.settings = s.tmu.settings ∧
    (updateCandidacy s).tmu.label = s.tmu.label ∧ (updateCandidacy s).tmu.lastRef = s.tmu.lastRef ∧
    (updateCandidacy s).src.quality = s.src.quality ∧ (updateCandidacy s).src.priority = s.src.priority ∧
    (updateCandidacy s).src.capable = s.src.capable ∧ (updateCandidacy s).src.announceTimer = s.src.announceTimer ∧
    (updateCandidacy s).sec = s.sec ∧ (updateCandidacy s).alu.intervalTimer = s.alu.intervalTimer ∧
    (updateCandidacy s).alu.alert = s.alu.alert ∧ (updateCandidacy s).alu.collector = s.alu.collector ∧
    (updateCandidacy s).cpt.bits = s.cpt.bits ∧
    (updateCandidacy s).cpt.parser = s.cpt.parser ∧ (updateCandidacy s).cpt.incoming = s.cpt.incoming ∧
    (updateCandidacy s).cpt.replies = s.cpt.replies ∧ (updateCandidacy s).cpt.outgoing = s.cpt.outgoing ∧
    (updateCandidacy s).cpt.eventMap = s.cpt.eventMap ∧ (updateCandidacy s).cpt.hold = s.cpt.hold ∧
    (updateCandidacy s).cpt.crst = s.cpt.crst ∧ (updateCandidacy s).stl = s.stl ∧
    (updateCandidacy s).pins = s.pins ∧ (updateCandidacy s).pinsAhead = s.pinsAhead ∧
    (updateCandidacy s).pending = s.pending := by
  unfold updateCandidacy; (repeat' split) <;> simp

@[simp] theorem requestAnnounce_frame (s : State) :
    (requestAnnounce s).bau = s.bau ∧ (requestAnnounce s).txs.queues = s.txs.queues ∧
    (requestAnnounce s).txs.storeFree = s.txs.storeFree ∧ (requestAnnounce s).txs.nextSeq = s.txs.nextSeq ∧
    (requestAnnounce s).txs.lateTimer = s.txs.lateTimer ∧
    (requestAnnounce s).txs.undeliverableTimer = s.txs.undeliverableTimer ∧
    (requestAnnounce s).txs.drainedReported = s.txs.drainedReported ∧ (requestAnnounce s).rxp = s.rxp ∧
    (requestAnnounce s).ptb = s.ptb ∧ (requestAnnounce s).tmu = s.tmu ∧
    (requestAnnounce s).src.quality = s.src.quality ∧ (requestAnnounce s).src.priority = s.src.priority ∧
    (requestAnnounce s).src.capable = s.src.capable ∧ (requestAnnounce s).src.table = s.src.table ∧
    (requestAnnounce s).src.selection = s.src.selection ∧ (requestAnnounce s).src.role = s.src.role ∧
    (requestAnnounce s).src.syncTimeout = s.src.syncTimeout ∧
    (requestAnnounce s).src.refTimeout = s.src.refTimeout ∧ (requestAnnounce s).src.refSeen = s.src.refSeen ∧
    (requestAnnounce s).src.sourceLost = s.src.sourceLost ∧ (requestAnnounce s).sec = s.sec ∧
    (requestAnnounce s).alu = s.alu ∧ (requestAnnounce s).cpt = s.cpt ∧ (requestAnnounce s).stl = s.stl ∧
    (requestAnnounce s).counters = s.counters ∧ (requestAnnounce s).pins = s.pins ∧
    (requestAnnounce s).pinsAhead = s.pinsAhead ∧
    (requestAnnounce s).pending = s.pending := by
  unfold requestAnnounce; dsimp only; simp

@[simp] theorem setQuality_frame (s : State) (b : Byte) :
    (setQuality b s).bau = s.bau ∧ (setQuality b s).txs.nextSeq = s.txs.nextSeq ∧
    (setQuality b s).txs.lateTimer = s.txs.lateTimer ∧
    (setQuality b s).txs.undeliverableTimer = s.txs.undeliverableTimer ∧
    (setQuality b s).txs.drainedReported = s.txs.drainedReported ∧ (setQuality b s).rxp = s.rxp ∧
    (setQuality b s).ptb = s.ptb ∧ (setQuality b s).tmu.time = s.tmu.time ∧
    (setQuality b s).tmu.residue = s.tmu.residue ∧ (setQuality b s).tmu.integral = s.tmu.integral ∧
    (setQuality b s).tmu.everLocked = s.tmu.everLocked ∧ (setQuality b s).tmu.lockCount = s.tmu.lockCount ∧
    (setQuality b s).tmu.rateLimitCount = s.tmu.rateLimitCount ∧ (setQuality b s).tmu.lastError = s.tmu.lastError ∧
    (setQuality b s).tmu.settings = s.tmu.settings ∧ (setQuality b s).tmu.label = s.tmu.label ∧
    (setQuality b s).tmu.lastRef = s.tmu.lastRef ∧ (setQuality b s).src.priority = s.src.priority ∧
    (setQuality b s).src.capable = s.src.capable ∧ (setQuality b s).sec = s.sec ∧
    (setQuality b s).alu.intervalTimer = s.alu.intervalTimer ∧ (setQuality b s).alu.alert = s.alu.alert ∧
    (setQuality b s).alu.collector = s.alu.collector ∧ (setQuality b s).cpt.bits = s.cpt.bits ∧
    (setQuality b s).cpt.parser = s.cpt.parser ∧
    (setQuality b s).cpt.incoming = s.cpt.incoming ∧ (setQuality b s).cpt.replies = s.cpt.replies ∧
    (setQuality b s).cpt.outgoing = s.cpt.outgoing ∧ (setQuality b s).cpt.eventMap = s.cpt.eventMap ∧
    (setQuality b s).cpt.hold = s.cpt.hold ∧ (setQuality b s).cpt.crst = s.cpt.crst ∧ (setQuality b s).stl = s.stl ∧
    (setQuality b s).pins = s.pins ∧ (setQuality b s).pinsAhead = s.pinsAhead ∧
    (setQuality b s).pending = s.pending := by
  unfold setQuality; dsimp only; (repeat' split) <;> simp

@[simp] theorem clearSources_frame (s : State) :
    (clearSources s).bau = s.bau ∧ (clearSources s).txs.slots = s.txs.slots ∧
    (clearSources s).txs.nextSeq = s.txs.nextSeq ∧ (clearSources s).txs.lateTimer = s.txs.lateTimer ∧
    (clearSources s).txs.undeliverableTimer = s.txs.undeliverableTimer ∧
    (clearSources s).txs.drainedReported = s.txs.drainedReported ∧ (clearSources s).rxp = s.rxp ∧
    (clearSources s).ptb = s.ptb ∧ (clearSources s).tmu.time = s.tmu.time ∧
    (clearSources s).tmu.residue = s.tmu.residue ∧ (clearSources s).tmu.integral = s.tmu.integral ∧
    (clearSources s).tmu.everLocked = s.tmu.everLocked ∧ (clearSources s).tmu.lockCount = s.tmu.lockCount ∧
    (clearSources s).tmu.rateLimitCount = s.tmu.rateLimitCount ∧ (clearSources s).tmu.lastError = s.tmu.lastError ∧
    (clearSources s).tmu.settings = s.tmu.settings ∧ (clearSources s).tmu.label = s.tmu.label ∧
    (clearSources s).tmu.lastRef = s.tmu.lastRef ∧ (clearSources s).src.quality = s.src.quality ∧
    (clearSources s).src.priority = s.src.priority ∧ (clearSources s).src.capable = s.src.capable ∧
    (clearSources s).sec = s.sec ∧ (clearSources s).alu.intervalTimer = s.alu.intervalTimer ∧
    (clearSources s).alu.alert = s.alu.alert ∧ (clearSources s).alu.collector = s.alu.collector ∧
    (clearSources s).cpt.bits = s.cpt.bits ∧
    (clearSources s).cpt.parser = s.cpt.parser ∧ (clearSources s).cpt.incoming = s.cpt.incoming ∧
    (clearSources s).cpt.replies = s.cpt.replies ∧ (clearSources s).cpt.outgoing = s.cpt.outgoing ∧
    (clearSources s).cpt.eventMap = s.cpt.eventMap ∧ (clearSources s).cpt.hold = s.cpt.hold ∧
    (clearSources s).cpt.crst = s.cpt.crst ∧ (clearSources s).stl = s.stl ∧ (clearSources s).pins = s.pins ∧
    (clearSources s).pinsAhead = s.pinsAhead ∧
    (clearSources s).pending = s.pending := by
  unfold clearSources; dsimp only; simp

@[simp] theorem sourcesJoined_frame (s : State) :
    (sourcesJoined s).bau = s.bau ∧ (sourcesJoined s).txs.nextSeq = s.txs.nextSeq ∧
    (sourcesJoined s).txs.lateTimer = s.txs.lateTimer ∧
    (sourcesJoined s).txs.undeliverableTimer = s.txs.undeliverableTimer ∧
    (sourcesJoined s).txs.drainedReported = s.txs.drainedReported ∧ (sourcesJoined s).rxp = s.rxp ∧
    (sourcesJoined s).ptb = s.ptb ∧ (sourcesJoined s).tmu.time = s.tmu.time ∧
    (sourcesJoined s).tmu.residue = s.tmu.residue ∧ (sourcesJoined s).tmu.integral = s.tmu.integral ∧
    (sourcesJoined s).tmu.everLocked = s.tmu.everLocked ∧ (sourcesJoined s).tmu.lockCount = s.tmu.lockCount ∧
    (sourcesJoined s).tmu.rateLimitCount = s.tmu.rateLimitCount ∧
    (sourcesJoined s).tmu.lastError = s.tmu.lastError ∧ (sourcesJoined s).tmu.settings = s.tmu.settings ∧
    (sourcesJoined s).tmu.label = s.tmu.label ∧ (sourcesJoined s).tmu.lastRef = s.tmu.lastRef ∧
    (sourcesJoined s).src.quality = s.src.quality ∧ (sourcesJoined s).src.priority = s.src.priority ∧
    (sourcesJoined s).src.capable = s.src.capable ∧ (sourcesJoined s).sec = s.sec ∧
    (sourcesJoined s).alu.intervalTimer = s.alu.intervalTimer ∧ (sourcesJoined s).alu.alert = s.alu.alert ∧
    (sourcesJoined s).alu.collector = s.alu.collector ∧ (sourcesJoined s).cpt.bits = s.cpt.bits ∧
    (sourcesJoined s).cpt.parser = s.cpt.parser ∧
    (sourcesJoined s).cpt.incoming = s.cpt.incoming ∧ (sourcesJoined s).cpt.replies = s.cpt.replies ∧
    (sourcesJoined s).cpt.outgoing = s.cpt.outgoing ∧ (sourcesJoined s).cpt.eventMap = s.cpt.eventMap ∧
    (sourcesJoined s).cpt.hold = s.cpt.hold ∧ (sourcesJoined s).cpt.crst = s.cpt.crst ∧
    (sourcesJoined s).stl = s.stl ∧ (sourcesJoined s).pins = s.pins ∧ (sourcesJoined s).pinsAhead = s.pinsAhead ∧
    (sourcesJoined s).pending = s.pending := by
  unfold sourcesJoined; dsimp only; (repeat' split) <;> simp

@[simp] theorem sourcesLeft_frame (s : State) :
    (sourcesLeft s).bau = s.bau ∧ (sourcesLeft s).txs.slots = s.txs.slots ∧
    (sourcesLeft s).txs.nextSeq = s.txs.nextSeq ∧ (sourcesLeft s).txs.lateTimer = s.txs.lateTimer ∧
    (sourcesLeft s).txs.undeliverableTimer = s.txs.undeliverableTimer ∧
    (sourcesLeft s).txs.drainedReported = s.txs.drainedReported ∧ (sourcesLeft s).rxp = s.rxp ∧
    (sourcesLeft s).ptb = s.ptb ∧ (sourcesLeft s).tmu.time = s.tmu.time ∧
    (sourcesLeft s).tmu.residue = s.tmu.residue ∧ (sourcesLeft s).tmu.integral = s.tmu.integral ∧
    (sourcesLeft s).tmu.everLocked = s.tmu.everLocked ∧ (sourcesLeft s).tmu.lockCount = s.tmu.lockCount ∧
    (sourcesLeft s).tmu.rateLimitCount = s.tmu.rateLimitCount ∧ (sourcesLeft s).tmu.lastError = s.tmu.lastError ∧
    (sourcesLeft s).tmu.settings = s.tmu.settings ∧ (sourcesLeft s).tmu.label = s.tmu.label ∧
    (sourcesLeft s).tmu.lastRef = s.tmu.lastRef ∧ (sourcesLeft s).src.quality = s.src.quality ∧
    (sourcesLeft s).src.priority = s.src.priority ∧ (sourcesLeft s).src.capable = s.src.capable ∧
    (sourcesLeft s).sec = s.sec ∧ (sourcesLeft s).alu.intervalTimer = s.alu.intervalTimer ∧
    (sourcesLeft s).alu.alert = s.alu.alert ∧ (sourcesLeft s).alu.collector = s.alu.collector ∧
    (sourcesLeft s).cpt.bits = s.cpt.bits ∧
    (sourcesLeft s).cpt.parser = s.cpt.parser ∧ (sourcesLeft s).cpt.incoming = s.cpt.incoming ∧
    (sourcesLeft s).cpt.replies = s.cpt.replies ∧ (sourcesLeft s).cpt.outgoing = s.cpt.outgoing ∧
    (sourcesLeft s).cpt.eventMap = s.cpt.eventMap ∧ (sourcesLeft s).cpt.hold = s.cpt.hold ∧
    (sourcesLeft s).cpt.crst = s.cpt.crst ∧ (sourcesLeft s).stl = s.stl ∧ (sourcesLeft s).pins = s.pins ∧
    (sourcesLeft s).pinsAhead = s.pinsAhead ∧
    (sourcesLeft s).pending = s.pending := by
  unfold sourcesLeft; dsimp only; simp

@[simp] theorem takePresentAnnounce_frame (s : State) (i : Slot) (q : Fin 4) (p : Byte) :
    (takePresentAnnounce i q p s).bau = s.bau ∧ (takePresentAnnounce i q p s).txs.slots = s.txs.slots ∧
    (takePresentAnnounce i q p s).txs.nextSeq = s.txs.nextSeq ∧
    (takePresentAnnounce i q p s).txs.lateTimer = s.txs.lateTimer ∧
    (takePresentAnnounce i q p s).txs.undeliverableTimer = s.txs.undeliverableTimer ∧
    (takePresentAnnounce i q p s).txs.drainedReported = s.txs.drainedReported ∧
    (takePresentAnnounce i q p s).rxp = s.rxp ∧ (takePresentAnnounce i q p s).ptb = s.ptb ∧
    (takePresentAnnounce i q p s).tmu.time = s.tmu.time ∧
    (takePresentAnnounce i q p s).tmu.residue = s.tmu.residue ∧
    (takePresentAnnounce i q p s).tmu.integral = s.tmu.integral ∧
    (takePresentAnnounce i q p s).tmu.everLocked = s.tmu.everLocked ∧
    (takePresentAnnounce i q p s).tmu.lockCount = s.tmu.lockCount ∧
    (takePresentAnnounce i q p s).tmu.rateLimitCount = s.tmu.rateLimitCount ∧
    (takePresentAnnounce i q p s).tmu.lastError = s.tmu.lastError ∧
    (takePresentAnnounce i q p s).tmu.settings = s.tmu.settings ∧
    (takePresentAnnounce i q p s).tmu.label = s.tmu.label ∧
    (takePresentAnnounce i q p s).tmu.lastRef = s.tmu.lastRef ∧
    (takePresentAnnounce i q p s).src.quality = s.src.quality ∧
    (takePresentAnnounce i q p s).src.priority = s.src.priority ∧
    (takePresentAnnounce i q p s).src.capable = s.src.capable ∧
    (takePresentAnnounce i q p s).src.announceTimer = s.src.announceTimer ∧
    (takePresentAnnounce i q p s).sec = s.sec ∧
    (takePresentAnnounce i q p s).alu.intervalTimer = s.alu.intervalTimer ∧
    (takePresentAnnounce i q p s).alu.alert = s.alu.alert ∧
    (takePresentAnnounce i q p s).alu.collector = s.alu.collector ∧
    (takePresentAnnounce i q p s).cpt.bits = s.cpt.bits ∧
    (takePresentAnnounce i q p s).cpt.parser = s.cpt.parser ∧
    (takePresentAnnounce i q p s).cpt.incoming = s.cpt.incoming ∧
    (takePresentAnnounce i q p s).cpt.replies = s.cpt.replies ∧
    (takePresentAnnounce i q p s).cpt.outgoing = s.cpt.outgoing ∧
    (takePresentAnnounce i q p s).cpt.eventMap = s.cpt.eventMap ∧
    (takePresentAnnounce i q p s).cpt.hold = s.cpt.hold ∧ (takePresentAnnounce i q p s).cpt.crst = s.cpt.crst ∧
    (takePresentAnnounce i q p s).stl = s.stl ∧ (takePresentAnnounce i q p s).pins = s.pins ∧
    (takePresentAnnounce i q p s).pinsAhead = s.pinsAhead ∧
    (takePresentAnnounce i q p s).pending = s.pending := by
  unfold takePresentAnnounce; dsimp only; (repeat' split) <;> simp

@[simp] theorem takeAnnounce_frame (s : State) (i : Slot) (q : Fin 4) (p : Byte) :
    (takeAnnounce i q p s).bau = s.bau ∧ (takeAnnounce i q p s).txs.slots = s.txs.slots ∧
    (takeAnnounce i q p s).txs.nextSeq = s.txs.nextSeq ∧ (takeAnnounce i q p s).txs.lateTimer = s.txs.lateTimer ∧
    (takeAnnounce i q p s).txs.undeliverableTimer = s.txs.undeliverableTimer ∧
    (takeAnnounce i q p s).txs.drainedReported = s.txs.drainedReported ∧ (takeAnnounce i q p s).rxp = s.rxp ∧
    (takeAnnounce i q p s).ptb = s.ptb ∧ (takeAnnounce i q p s).tmu.time = s.tmu.time ∧
    (takeAnnounce i q p s).tmu.residue = s.tmu.residue ∧ (takeAnnounce i q p s).tmu.integral = s.tmu.integral ∧
    (takeAnnounce i q p s).tmu.everLocked = s.tmu.everLocked ∧
    (takeAnnounce i q p s).tmu.lockCount = s.tmu.lockCount ∧
    (takeAnnounce i q p s).tmu.rateLimitCount = s.tmu.rateLimitCount ∧
    (takeAnnounce i q p s).tmu.lastError = s.tmu.lastError ∧ (takeAnnounce i q p s).tmu.settings = s.tmu.settings ∧
    (takeAnnounce i q p s).tmu.label = s.tmu.label ∧ (takeAnnounce i q p s).tmu.lastRef = s.tmu.lastRef ∧
    (takeAnnounce i q p s).src.quality = s.src.quality ∧ (takeAnnounce i q p s).src.priority = s.src.priority ∧
    (takeAnnounce i q p s).src.capable = s.src.capable ∧
    (takeAnnounce i q p s).src.announceTimer = s.src.announceTimer ∧ (takeAnnounce i q p s).sec = s.sec ∧
    (takeAnnounce i q p s).alu.intervalTimer = s.alu.intervalTimer ∧
    (takeAnnounce i q p s).alu.alert = s.alu.alert ∧ (takeAnnounce i q p s).alu.collector = s.alu.collector ∧
    (takeAnnounce i q p s).cpt.bits = s.cpt.bits ∧
    (takeAnnounce i q p s).cpt.parser = s.cpt.parser ∧ (takeAnnounce i q p s).cpt.incoming = s.cpt.incoming ∧
    (takeAnnounce i q p s).cpt.replies = s.cpt.replies ∧ (takeAnnounce i q p s).cpt.outgoing = s.cpt.outgoing ∧
    (takeAnnounce i q p s).cpt.eventMap = s.cpt.eventMap ∧ (takeAnnounce i q p s).cpt.hold = s.cpt.hold ∧
    (takeAnnounce i q p s).cpt.crst = s.cpt.crst ∧ (takeAnnounce i q p s).stl = s.stl ∧
    (takeAnnounce i q p s).pins = s.pins ∧ (takeAnnounce i q p s).pinsAhead = s.pinsAhead ∧
    (takeAnnounce i q p s).pending = s.pending := by
  unfold takeAnnounce; (repeat' split) <;> simp

@[simp] theorem takeSync_frame (s : State) (i : Slot) (tr : Nat) (st : FullTime) :
    (takeSync i tr st s).bau = s.bau ∧ (takeSync i tr st s).txs.slots = s.txs.slots ∧
    (takeSync i tr st s).txs.nextSeq = s.txs.nextSeq ∧ (takeSync i tr st s).txs.lateTimer = s.txs.lateTimer ∧
    (takeSync i tr st s).txs.undeliverableTimer = s.txs.undeliverableTimer ∧
    (takeSync i tr st s).txs.drainedReported = s.txs.drainedReported ∧ (takeSync i tr st s).rxp = s.rxp ∧
    (takeSync i tr st s).ptb = s.ptb ∧ (takeSync i tr st s).tmu.residue = s.tmu.residue ∧
    (takeSync i tr st s).tmu.settings = s.tmu.settings ∧ (takeSync i tr st s).tmu.label = s.tmu.label ∧
    (takeSync i tr st s).tmu.lastRef = s.tmu.lastRef ∧ (takeSync i tr st s).src.quality = s.src.quality ∧
    (takeSync i tr st s).src.priority = s.src.priority ∧ (takeSync i tr st s).src.capable = s.src.capable ∧
    (takeSync i tr st s).src.table = s.src.table ∧ (takeSync i tr st s).src.selection = s.src.selection ∧
    (takeSync i tr st s).src.role = s.src.role ∧ (takeSync i tr st s).src.announceTimer = s.src.announceTimer ∧
    (takeSync i tr st s).src.refTimeout = s.src.refTimeout ∧ (takeSync i tr st s).src.refSeen = s.src.refSeen ∧
    (takeSync i tr st s).src.sourceLost = s.src.sourceLost ∧ (takeSync i tr st s).sec = s.sec ∧
    (takeSync i tr st s).alu.intervalTimer = s.alu.intervalTimer ∧ (takeSync i tr st s).alu.alert = s.alu.alert ∧
    (takeSync i tr st s).alu.collector = s.alu.collector ∧ (takeSync i tr st s).cpt.bits = s.cpt.bits ∧
    (takeSync i tr st s).cpt.parser = s.cpt.parser ∧
    (takeSync i tr st s).cpt.incoming = s.cpt.incoming ∧ (takeSync i tr st s).cpt.replies = s.cpt.replies ∧
    (takeSync i tr st s).cpt.outgoing = s.cpt.outgoing ∧ (takeSync i tr st s).cpt.eventMap = s.cpt.eventMap ∧
    (takeSync i tr st s).cpt.hold = s.cpt.hold ∧ (takeSync i tr st s).cpt.crst = s.cpt.crst ∧
    (takeSync i tr st s).stl = s.stl ∧ (takeSync i tr st s).pins = s.pins ∧
    (takeSync i tr st s).pinsAhead = s.pinsAhead ∧
    (takeSync i tr st s).pending = s.pending := by
  unfold takeSync; dsimp only; (repeat' split) <;> simp

/-! ### No operation takes an event out of the pending set (R186) -/

@[simp] theorem judgeSourceLost_events (s : State) {a : EventKind} (h : a ∈ s.cpt.events) :
    a ∈ (judgeSourceLost s).cpt.events := by
  unfold judgeSourceLost; dsimp only; (repeat' split) <;>
    (repeat (first | with_reducible apply raiseInternal_events | with_reducible apply clearKey_events | simp [h] | exact h))

@[simp] theorem changeSelection_events (s : State) (sel : Option Slot) {a : EventKind} (h : a ∈ s.cpt.events) :
    a ∈ (changeSelection sel s).cpt.events := by
  unfold changeSelection; dsimp only; (repeat' split) <;>
    (repeat (first | with_reducible apply signal_events | with_reducible apply setRole_events | with_reducible apply loseSource_events | simp [h] | exact h))

@[simp] theorem selectSource_events (s : State) {a : EventKind} (h : a ∈ s.cpt.events) :
    a ∈ (selectSource s).cpt.events := by
  unfold selectSource; dsimp only; (repeat' split) <;>
    (repeat (first | with_reducible apply changeSelection_events | simp [h] | exact h))

@[simp] theorem runSelection_events (s : State) {a : EventKind} (h : a ∈ s.cpt.events) :
    a ∈ (runSelection s).cpt.events := by
  unfold runSelection;
    (repeat (first | with_reducible apply judgeSourceLost_events | with_reducible apply selectSource_events | simp [h] | exact h))

@[simp] theorem dropSource_events (s : State) (i : Slot) {a : EventKind} (h : a ∈ s.cpt.events) :
    a ∈ (dropSource i s).cpt.events := by
  unfold dropSource; (repeat' split) <;>
    (repeat (first | with_reducible apply runSelection_events | simp [h] | exact h))

@[simp] theorem updateCandidacy_events (s : State) {a : EventKind} (h : a ∈ s.cpt.events) :
    a ∈ (updateCandidacy s).cpt.events := by
  unfold updateCandidacy; (repeat' split) <;>
    (repeat (first | with_reducible apply runSelection_events | with_reducible apply dropSource_events | simp [h] | exact h))

@[simp] theorem setQuality_events (s : State) (b : Byte) {a : EventKind} (h : a ∈ s.cpt.events) :
    a ∈ (setQuality b s).cpt.events := by
  unfold setQuality; dsimp only; (repeat' split) <;>
    (repeat (first | with_reducible apply updateCandidacy_events | simp [h] | exact h))

@[simp] theorem clearSources_events (s : State) {a : EventKind} (h : a ∈ s.cpt.events) :
    a ∈ (clearSources s).cpt.events := by
  unfold clearSources; dsimp only;
    (repeat (first | with_reducible apply runSelection_events | simp [h] | exact h))

@[simp] theorem sourcesJoined_events (s : State) {a : EventKind} (h : a ∈ s.cpt.events) :
    a ∈ (sourcesJoined s).cpt.events := by
  unfold sourcesJoined; dsimp only; (repeat' split) <;>
    (repeat (first | with_reducible apply judgeSourceLost_events | with_reducible apply updateCandidacy_events | simp [h] | exact h))

@[simp] theorem sourcesLeft_events (s : State) {a : EventKind} (h : a ∈ s.cpt.events) :
    a ∈ (sourcesLeft s).cpt.events := by
  unfold sourcesLeft; dsimp only;
    (repeat (first | with_reducible apply judgeSourceLost_events | with_reducible apply updateCandidacy_events | simp [h] | exact h))

@[simp] theorem takePresentAnnounce_events (s : State) (i : Slot) (q : Fin 4) (p : Byte) {a : EventKind} (h : a ∈ s.cpt.events) :
    a ∈ (takePresentAnnounce i q p s).cpt.events := by
  unfold takePresentAnnounce; dsimp only; (repeat' split) <;>
    (repeat (first | with_reducible apply runSelection_events | with_reducible apply dropSource_events | simp [h] | exact h))

@[simp] theorem takeAnnounce_events (s : State) (i : Slot) (q : Fin 4) (p : Byte) {a : EventKind} (h : a ∈ s.cpt.events) :
    a ∈ (takeAnnounce i q p s).cpt.events := by
  unfold takeAnnounce; (repeat' split) <;>
    (repeat (first | with_reducible apply takePresentAnnounce_events | simp [h] | exact h))

@[simp] theorem takeSync_events (s : State) (i : Slot) (tr : Nat) (st : FullTime) {a : EventKind} (h : a ∈ s.cpt.events) :
    a ∈ (takeSync i tr st s).cpt.events := by
  unfold takeSync; dsimp only; (repeat' split) <;>
    (repeat (first | with_reducible apply bump_events | with_reducible apply takeSample_events | simp [h] | exact h))

/-! ### Effects -/

/-- After a run of selection, the selection is the best entry of the table (R106). -/
theorem runSelection_lawSelection (s : State) : LawSelection (runSelection s) := by
  have h : LawSelection (selectSource s) := by
    unfold selectSource
    dsimp only
    split
    · rename_i h; exact h.symm
    · unfold changeSelection LawSelection
      dsimp only
      split <;> simp
  unfold runSelection LawSelection at *
  simpa using h

/-- A run of selection leaves the table (R106). -/
theorem runSelection_lawSources (s : State) (h : (s.src.table.map SourceEntry.slot).Pairwise (· < ·)) :
    LawSources (runSelection s) := ⟨by simpa using h, runSelection_lawSelection s⟩

/-- An entry found for a slot is of that slot. -/
theorem findSource_slot {i : Slot} {l : List SourceEntry} {e : SourceEntry} (h : findSource i l = some e) :
    e.slot = i := by simpa using List.find?_some h

/-- The entry of a slot in a list built slot by slot. -/
theorem findSource_filterMap (g : Slot → Option SourceEntry) (hg : ∀ i e, g i = some e → e.slot = i) (j : Slot)
    (l : List Slot) : findSource j (l.filterMap g) = if j ∈ l then g j else none := by
  induction l with
  | nil => simp [findSource]
  | cons a l ih =>
    unfold findSource at ih ⊢
    by_cases ha : j = a
    · subst ha
      cases hj : g j with
      | none => simp [hj, ih]
      | some e => simp [hj, hg j e hj]
    · cases hb : g a with
      | none => simp [hb, ih, ha]
      | some e =>
        have : ¬ e.slot = j := by rw [hg a e hb]; exact fun h => ha h.symm
        simp [hb, ih, ha, this]

/-- The table after an entry is put in (R104). -/
theorem findSource_putSource (e : SourceEntry) (l : List SourceEntry) (j : Slot) :
    findSource j (putSource e l) = if j = e.slot then some e else findSource j l := by
  have hm : j ∈ allSlots := by revert j; decide
  unfold putSource
  rw [findSource_filterMap _ ?_ j]
  · simp [hm]
  · intro i x hx
    split at hx
    · rename_i h; cases hx; exact h.symm
    · exact findSource_slot hx

/-- The table after the entry of a slot is taken out (R105). -/
theorem findSource_removeSource (i j : Slot) (l : List SourceEntry) :
    findSource j (removeSource i l) = if j = i then none else findSource j l := by
  unfold findSource removeSource
  rw [List.find?_filter]
  by_cases h : j = i
  · subst h
    simp only [if_true]
    rw [List.find?_eq_none]
    intro x _ hx
    simp at hx
  · rw [if_neg h]
    congr 1
    funext x
    by_cases hx : x.slot = j
    · simp [hx, h]
    · simp [hx]

/-- A list built slot by slot stands in the order of slots. -/
theorem pairwise_filterMap (g : Slot → Option SourceEntry) (hg : ∀ i e, g i = some e → e.slot = i) {l : List Slot}
    (hl : l.Pairwise (· < ·)) : ((l.filterMap g).map SourceEntry.slot).Pairwise (· < ·) := by
  rw [List.pairwise_map]
  refine List.Pairwise.filterMap (R := (· < ·)) g ?_ hl
  intro a a' h b hb b' hb'
  rw [hg a b hb, hg a' b' hb']; exact h

theorem putSource_sorted (e : SourceEntry) (l : List SourceEntry) :
    ((putSource e l).map SourceEntry.slot).Pairwise (· < ·) := by
  refine pairwise_filterMap _ ?_ (by decide)
  intro i x hx
  split at hx
  · rename_i h; cases hx; exact h.symm
  · exact findSource_slot hx

theorem removeSource_sorted (i : Slot) {l : List SourceEntry} (h : (l.map SourceEntry.slot).Pairwise (· < ·)) :
    ((removeSource i l).map SourceEntry.slot).Pairwise (· < ·) := by
  rw [List.pairwise_map] at h ⊢
  exact h.filter _

/-- The table after a slot's entry is dropped (R105). -/
theorem dropSource_findSource (i j : Slot) (s : State) :
    findSource j (dropSource i s).src.table = if j = i then none else findSource j s.src.table := by
  unfold dropSource
  split
  · simp [findSource_removeSource]
  · rename_i h
    by_cases hj : j = i
    · subst hj; simpa using h
    · simp [hj]

theorem dropSource_lawSources (i : Slot) {s : State} (h : LawSources s) : LawSources (dropSource i s) := by
  unfold dropSource
  split
  · exact runSelection_lawSources _ (removeSource_sorted i h.1)
  · exact h

theorem updateCandidacy_lawSources {s : State} (h : LawSources s) : LawSources (updateCandidacy s) := by
  unfold updateCandidacy
  split
  · exact h
  · split
    · split
      · exact h
      · exact runSelection_lawSources _ (putSource_sorted _ _)
    · exact dropSource_lawSources _ h

/-- The selection law looks at table and selection alone. -/
theorem lawSources_congr {s t : State} (ht : t.src.table = s.src.table) (hs : t.src.selection = s.src.selection)
    (h : LawSources s) : LawSources t := by
  unfold LawSources LawSelection at *
  rw [ht, hs]; exact h

end Sys2Proof.Machine
end

