-- ==== Sys2Proof/Laws/Peers.lean ====
section
/-! SUPPORT. What each operation of the peer table leaves as it was, and what it does. -/

namespace Sys2Proof.Machine

open Sys2Proof

/-! ### Frames -/

@[simp] theorem dropDeparted_frame (s : State) (i : Slot) :
    (dropDeparted i s).bau = s.bau ∧ (dropDeparted i s).txs = s.txs ∧ (dropDeparted i s).rxp = s.rxp ∧
    (dropDeparted i s).tmu = s.tmu ∧ (dropDeparted i s).src = s.src ∧ (dropDeparted i s).sec = s.sec ∧
    (dropDeparted i s).alu = s.alu ∧ (dropDeparted i s).cpt = s.cpt ∧ (dropDeparted i s).stl = s.stl ∧
    (dropDeparted i s).counters = s.counters ∧ (dropDeparted i s).pins = s.pins ∧
    (dropDeparted i s).pinsAhead = s.pinsAhead ∧
    (dropDeparted i s).pending = s.pending := by
  unfold dropDeparted; dsimp only; (repeat' split) <;> simp

@[simp] theorem purgeDeparted_frame (s : State) (i : Slot) :
    (purgeDeparted i s).bau = s.bau ∧ (purgeDeparted i s).txs.slots = s.txs.slots ∧
    (purgeDeparted i s).txs.nextSeq = s.txs.nextSeq ∧ (purgeDeparted i s).txs.lateTimer = s.txs.lateTimer ∧
    (purgeDeparted i s).txs.undeliverableTimer = s.txs.undeliverableTimer ∧
    (purgeDeparted i s).txs.drainedReported = s.txs.drainedReported ∧ (purgeDeparted i s).rxp = s.rxp ∧
    (purgeDeparted i s).ptb = s.ptb ∧ (purgeDeparted i s).tmu = s.tmu ∧ (purgeDeparted i s).src = s.src ∧
    (purgeDeparted i s).sec = s.sec ∧ (purgeDeparted i s).alu = s.alu ∧
    (purgeDeparted i s).cpt.bits = s.cpt.bits ∧
    (purgeDeparted i s).cpt.parser = s.cpt.parser ∧ (purgeDeparted i s).cpt.incoming = s.cpt.incoming ∧
    (purgeDeparted i s).cpt.replies = s.cpt.replies ∧ (purgeDeparted i s).cpt.outgoing = s.cpt.outgoing ∧
    (purgeDeparted i s).cpt.eventMap = s.cpt.eventMap ∧ (purgeDeparted i s).cpt.hold = s.cpt.hold ∧
    (purgeDeparted i s).cpt.crst = s.cpt.crst ∧ (purgeDeparted i s).stl = s.stl ∧
    (purgeDeparted i s).pins = s.pins ∧ (purgeDeparted i s).pinsAhead = s.pinsAhead ∧
    (purgeDeparted i s).pending = s.pending := by
  unfold purgeDeparted; (repeat' split) <;> simp

@[simp] theorem handOff_frame (s : State) (i : Slot) (old : PeerState) (b : Bool) :
    (handOff i old b s).bau = s.bau ∧ (handOff i old b s).txs.slots = s.txs.slots ∧
    (handOff i old b s).txs.nextSeq = s.txs.nextSeq ∧ (handOff i old b s).txs.lateTimer = s.txs.lateTimer ∧
    (handOff i old b s).txs.undeliverableTimer = s.txs.undeliverableTimer ∧
    (handOff i old b s).txs.drainedReported = s.txs.drainedReported ∧ (handOff i old b s).rxp = s.rxp ∧
    (handOff i old b s).tmu.time = s.tmu.time ∧ (handOff i old b s).tmu.residue = s.tmu.residue ∧
    (handOff i old b s).tmu.integral = s.tmu.integral ∧ (handOff i old b s).tmu.everLocked = s.tmu.everLocked ∧
    (handOff i old b s).tmu.lockCount = s.tmu.lockCount ∧
    (handOff i old b s).tmu.rateLimitCount = s.tmu.rateLimitCount ∧
    (handOff i old b s).tmu.lastError = s.tmu.lastError ∧ (handOff i old b s).tmu.settings = s.tmu.settings ∧
    (handOff i old b s).tmu.label = s.tmu.label ∧ (handOff i old b s).tmu.lastRef = s.tmu.lastRef ∧
    (handOff i old b s).src.quality = s.src.quality ∧ (handOff i old b s).src.priority = s.src.priority ∧
    (handOff i old b s).src.capable = s.src.capable ∧ (handOff i old b s).src.announceTimer = s.src.announceTimer ∧
    (handOff i old b s).sec = s.sec ∧ (handOff i old b s).alu.intervalTimer = s.alu.intervalTimer ∧
    (handOff i old b s).alu.alert = s.alu.alert ∧ (handOff i old b s).alu.collector = s.alu.collector ∧
    (handOff i old b s).cpt.bits = s.cpt.bits ∧
    (handOff i old b s).cpt.parser = s.cpt.parser ∧ (handOff i old b s).cpt.incoming = s.cpt.incoming ∧
    (handOff i old b s).cpt.replies = s.cpt.replies ∧ (handOff i old b s).cpt.outgoing = s.cpt.outgoing ∧
    (handOff i old b s).cpt.eventMap = s.cpt.eventMap ∧ (handOff i old b s).cpt.hold = s.cpt.hold ∧
    (handOff i old b s).cpt.crst = s.cpt.crst ∧ (handOff i old b s).stl = s.stl ∧
    (handOff i old b s).pins = s.pins ∧ (handOff i old b s).pinsAhead = s.pinsAhead ∧
    (handOff i old b s).pending = s.pending := by
  unfold handOff; dsimp only; (repeat' split) <;> simp

@[simp] theorem restartPeer_frame (s : State) (i : Slot) (k : FrameKind) :
    (restartPeer i k s).bau = s.bau ∧ (restartPeer i k s).txs.storeFree = s.txs.storeFree ∧
    (restartPeer i k s).txs.slots = s.txs.slots ∧ (restartPeer i k s).txs.lateTimer = s.txs.lateTimer ∧
    (restartPeer i k s).txs.undeliverableTimer = s.txs.undeliverableTimer ∧
    (restartPeer i k s).txs.drainedReported = s.txs.drainedReported ∧ (restartPeer i k s).rxp = s.rxp ∧
    (restartPeer i k s).tmu = s.tmu ∧ (restartPeer i k s).src = s.src ∧ (restartPeer i k s).sec = s.sec ∧
    (restartPeer i k s).alu = s.alu ∧ (restartPeer i k s).cpt.bits = s.cpt.bits ∧
    (restartPeer i k s).cpt.parser = s.cpt.parser ∧
    (restartPeer i k s).cpt.incoming = s.cpt.incoming ∧ (restartPeer i k s).cpt.replies = s.cpt.replies ∧
    (restartPeer i k s).cpt.outgoing = s.cpt.outgoing ∧ (restartPeer i k s).cpt.results = s.cpt.results ∧
    (restartPeer i k s).cpt.eventMap = s.cpt.eventMap ∧ (restartPeer i k s).cpt.hold = s.cpt.hold ∧
    (restartPeer i k s).cpt.crst = s.cpt.crst ∧ (restartPeer i k s).stl = s.stl ∧
    (restartPeer i k s).pins = s.pins ∧ (restartPeer i k s).pinsAhead = s.pinsAhead ∧
    (restartPeer i k s).pending = s.pending := by
  unfold restartPeer; dsimp only; (repeat' split) <;> simp

@[simp] theorem updateEntry_frame (s : State) (i : Slot) (k : FrameKind) (body : List Byte) :
    (updateEntry i k body s).bau = s.bau ∧ (updateEntry i k body s).txs.storeFree = s.txs.storeFree ∧
    (updateEntry i k body s).txs.slots = s.txs.slots ∧ (updateEntry i k body s).txs.lateTimer = s.txs.lateTimer ∧
    (updateEntry i k body s).txs.undeliverableTimer = s.txs.undeliverableTimer ∧
    (updateEntry i k body s).txs.drainedReported = s.txs.drainedReported ∧ (updateEntry i k body s).rxp = s.rxp ∧
    (updateEntry i k body s).tmu = s.tmu ∧ (updateEntry i k body s).src = s.src ∧
    (updateEntry i k body s).sec = s.sec ∧ (updateEntry i k body s).alu = s.alu ∧
    (updateEntry i k body s).cpt.bits = s.cpt.bits ∧
    (updateEntry i k body s).cpt.parser = s.cpt.parser ∧ (updateEntry i k body s).cpt.incoming = s.cpt.incoming ∧
    (updateEntry i k body s).cpt.replies = s.cpt.replies ∧ (updateEntry i k body s).cpt.outgoing = s.cpt.outgoing ∧
    (updateEntry i k body s).cpt.results = s.cpt.results ∧ (updateEntry i k body s).cpt.eventMap = s.cpt.eventMap ∧
    (updateEntry i k body s).cpt.hold = s.cpt.hold ∧ (updateEntry i k body s).cpt.crst = s.cpt.crst ∧
    (updateEntry i k body s).stl = s.stl ∧ (updateEntry i k body s).pins = s.pins ∧
    (updateEntry i k body s).pinsAhead = s.pinsAhead ∧
    (updateEntry i k body s).pending = s.pending := by
  unfold updateEntry; dsimp only; (repeat' split) <;> simp

@[simp] theorem storeSummary_frame (s : State) (i : Slot) (body : List Byte) :
    (storeSummary i body s).bau = s.bau ∧ (storeSummary i body s).txs = s.txs ∧
    (storeSummary i body s).rxp = s.rxp ∧ (storeSummary i body s).tmu = s.tmu ∧
    (storeSummary i body s).src = s.src ∧ (storeSummary i body s).sec = s.sec ∧
    (storeSummary i body s).alu.inputs = s.alu.inputs ∧ (storeSummary i body s).alu.table = s.alu.table ∧
    (storeSummary i body s).alu.suppressed = s.alu.suppressed ∧
    (storeSummary i body s).alu.overflow = s.alu.overflow ∧
    (storeSummary i body s).alu.intervalTimer = s.alu.intervalTimer ∧
    (storeSummary i body s).alu.alertDrive = s.alu.alertDrive ∧ (storeSummary i body s).alu.alert = s.alu.alert ∧
    (storeSummary i body s).alu.collector = s.alu.collector ∧ (storeSummary i body s).cpt = s.cpt ∧
    (storeSummary i body s).stl = s.stl ∧ (storeSummary i body s).counters = s.counters ∧
    (storeSummary i body s).pins = s.pins ∧ (storeSummary i body s).pinsAhead = s.pinsAhead ∧
    (storeSummary i body s).pending = s.pending := by
  unfold storeSummary; dsimp only; simp

@[simp] theorem hearReady_frame (s : State) (i : Slot) :
    (hearReady i s).bau = s.bau ∧ (hearReady i s).txs = s.txs ∧ (hearReady i s).rxp = s.rxp ∧
    (hearReady i s).tmu = s.tmu ∧ (hearReady i s).src = s.src ∧ (hearReady i s).sec = s.sec ∧
    (hearReady i s).alu = s.alu ∧ (hearReady i s).cpt = s.cpt ∧ (hearReady i s).stl = s.stl ∧
    (hearReady i s).counters = s.counters ∧ (hearReady i s).pins = s.pins ∧ (hearReady i s).pinsAhead = s.pinsAhead ∧
    (hearReady i s).pending = s.pending := by
  unfold hearReady; (repeat' split) <;> simp

@[simp] theorem loseSilent_frame (s : State) (i : Slot) :
    (loseSilent i s).bau = s.bau ∧ (loseSilent i s).txs.slots = s.txs.slots ∧
    (loseSilent i s).txs.nextSeq = s.txs.nextSeq ∧ (loseSilent i s).txs.lateTimer = s.txs.lateTimer ∧
    (loseSilent i s).txs.undeliverableTimer = s.txs.undeliverableTimer ∧
    (loseSilent i s).txs.drainedReported = s.txs.drainedReported ∧ (loseSilent i s).rxp = s.rxp ∧
    (loseSilent i s).tmu.time = s.tmu.time ∧ (loseSilent i s).tmu.residue = s.tmu.residue ∧
    (loseSilent i s).tmu.integral = s.tmu.integral ∧ (loseSilent i s).tmu.everLocked = s.tmu.everLocked ∧
    (loseSilent i s).tmu.lockCount = s.tmu.lockCount ∧ (loseSilent i s).tmu.rateLimitCount = s.tmu.rateLimitCount ∧
    (loseSilent i s).tmu.lastError = s.tmu.lastError ∧ (loseSilent i s).tmu.settings = s.tmu.settings ∧
    (loseSilent i s).tmu.label = s.tmu.label ∧ (loseSilent i s).tmu.lastRef = s.tmu.lastRef ∧
    (loseSilent i s).src.quality = s.src.quality ∧ (loseSilent i s).src.priority = s.src.priority ∧
    (loseSilent i s).src.capable = s.src.capable ∧ (loseSilent i s).src.announceTimer = s.src.announceTimer ∧
    (loseSilent i s).sec = s.sec ∧ (loseSilent i s).alu.intervalTimer = s.alu.intervalTimer ∧
    (loseSilent i s).alu.alert = s.alu.alert ∧ (loseSilent i s).alu.collector = s.alu.collector ∧
    (loseSilent i s).cpt.bits = s.cpt.bits ∧
    (loseSilent i s).cpt.parser = s.cpt.parser ∧ (loseSilent i s).cpt.incoming = s.cpt.incoming ∧
    (loseSilent i s).cpt.replies = s.cpt.replies ∧ (loseSilent i s).cpt.outgoing = s.cpt.outgoing ∧
    (loseSilent i s).cpt.eventMap = s.cpt.eventMap ∧ (loseSilent i s).cpt.hold = s.cpt.hold ∧
    (loseSilent i s).cpt.crst = s.cpt.crst ∧ (loseSilent i s).stl = s.stl ∧ (loseSilent i s).pins = s.pins ∧
    (loseSilent i s).pinsAhead = s.pinsAhead ∧
    (loseSilent i s).pending = s.pending := by
  unfold loseSilent; dsimp only; simp

@[simp] theorem forgetPeer_frame (s : State) (i : Slot) :
    (forgetPeer i s).bau = s.bau ∧ (forgetPeer i s).txs.slots = s.txs.slots ∧
    (forgetPeer i s).txs.nextSeq = s.txs.nextSeq ∧ (forgetPeer i s).txs.lateTimer = s.txs.lateTimer ∧
    (forgetPeer i s).txs.undeliverableTimer = s.txs.undeliverableTimer ∧
    (forgetPeer i s).txs.drainedReported = s.txs.drainedReported ∧ (forgetPeer i s).rxp = s.rxp ∧
    (forgetPeer i s).tmu.time = s.tmu.time ∧ (forgetPeer i s).tmu.residue = s.tmu.residue ∧
    (forgetPeer i s).tmu.integral = s.tmu.integral ∧ (forgetPeer i s).tmu.everLocked = s.tmu.everLocked ∧
    (forgetPeer i s).tmu.lockCount = s.tmu.lockCount ∧ (forgetPeer i s).tmu.rateLimitCount = s.tmu.rateLimitCount ∧
    (forgetPeer i s).tmu.lastError = s.tmu.lastError ∧ (forgetPeer i s).tmu.settings = s.tmu.settings ∧
    (forgetPeer i s).tmu.label = s.tmu.label ∧ (forgetPeer i s).tmu.lastRef = s.tmu.lastRef ∧
    (forgetPeer i s).src.quality = s.src.quality ∧ (forgetPeer i s).src.priority = s.src.priority ∧
    (forgetPeer i s).src.capable = s.src.capable ∧ (forgetPeer i s).src.announceTimer = s.src.announceTimer ∧
    (forgetPeer i s).sec = s.sec ∧ (forgetPeer i s).alu.intervalTimer = s.alu.intervalTimer ∧
    (forgetPeer i s).alu.alert = s.alu.alert ∧ (forgetPeer i s).alu.collector = s.alu.collector ∧
    (forgetPeer i s).cpt.bits = s.cpt.bits ∧
    (forgetPeer i s).cpt.parser = s.cpt.parser ∧ (forgetPeer i s).cpt.incoming = s.cpt.incoming ∧
    (forgetPeer i s).cpt.replies = s.cpt.replies ∧ (forgetPeer i s).cpt.outgoing = s.cpt.outgoing ∧
    (forgetPeer i s).cpt.eventMap = s.cpt.eventMap ∧ (forgetPeer i s).cpt.hold = s.cpt.hold ∧
    (forgetPeer i s).cpt.crst = s.cpt.crst ∧ (forgetPeer i s).stl = s.stl ∧ (forgetPeer i s).pins = s.pins ∧
    (forgetPeer i s).pinsAhead = s.pinsAhead ∧
    (forgetPeer i s).pending = s.pending := by
  unfold forgetPeer; dsimp only; simp

@[simp] theorem clearTable_frame (s : State) :
    (clearTable s).bau = s.bau ∧ (clearTable s).txs = s.txs ∧ (clearTable s).rxp = s.rxp ∧
    (clearTable s).tmu = s.tmu ∧ (clearTable s).src = s.src ∧ (clearTable s).sec = s.sec ∧
    (clearTable s).alu.inputs = s.alu.inputs ∧ (clearTable s).alu.table = s.alu.table ∧
    (clearTable s).alu.suppressed = s.alu.suppressed ∧ (clearTable s).alu.overflow = s.alu.overflow ∧
    (clearTable s).alu.intervalTimer = s.alu.intervalTimer ∧ (clearTable s).alu.alertDrive = s.alu.alertDrive ∧
    (clearTable s).alu.alert = s.alu.alert ∧ (clearTable s).alu.collector = s.alu.collector ∧
    (clearTable s).cpt.bits = s.cpt.bits ∧
    (clearTable s).cpt.parser = s.cpt.parser ∧ (clearTable s).cpt.incoming = s.cpt.incoming ∧
    (clearTable s).cpt.replies = s.cpt.replies ∧ (clearTable s).cpt.outgoing = s.cpt.outgoing ∧
    (clearTable s).cpt.results = s.cpt.results ∧ (clearTable s).cpt.eventMap = s.cpt.eventMap ∧
    (clearTable s).cpt.hold = s.cpt.hold ∧ (clearTable s).cpt.crst = s.cpt.crst ∧ (clearTable s).stl = s.stl ∧
    (clearTable s).counters = s.counters ∧ (clearTable s).pins = s.pins ∧ (clearTable s).pinsAhead = s.pinsAhead ∧
    (clearTable s).pending = s.pending := by
  unfold clearTable; dsimp only; split <;> simp

@[simp] theorem forgetSequences_frame (s : State) :
    (forgetSequences s).bau = s.bau ∧ (forgetSequences s).txs = s.txs ∧ (forgetSequences s).rxp = s.rxp ∧
    (forgetSequences s).tmu = s.tmu ∧ (forgetSequences s).src = s.src ∧ (forgetSequences s).sec = s.sec ∧
    (forgetSequences s).alu = s.alu ∧ (forgetSequences s).cpt = s.cpt ∧ (forgetSequences s).stl = s.stl ∧
    (forgetSequences s).counters = s.counters ∧ (forgetSequences s).pins = s.pins ∧
    (forgetSequences s).pinsAhead = s.pinsAhead ∧
    (forgetSequences s).pending = s.pending := by
  unfold forgetSequences; dsimp only; simp

/-! ### No operation takes an event out of the pending set (R186) -/

@[simp] theorem purgeDeparted_events (s : State) (i : Slot) {a : EventKind} (h : a ∈ s.cpt.events) :
    a ∈ (purgeDeparted i s).cpt.events := by
  unfold purgeDeparted; (repeat' split) <;>
    (repeat (first | with_reducible apply purgePeerLeft_events | simp [h] | exact h))

@[simp] theorem handOff_events (s : State) (i : Slot) (old : PeerState) (b : Bool) {a : EventKind} (h : a ∈ s.cpt.events) :
    a ∈ (handOff i old b s).cpt.events := by
  unfold handOff; dsimp only; (repeat' split) <;>
    (repeat (first | with_reducible apply signal_events | with_reducible apply dropSource_events | with_reducible apply purgeDeparted_events | simp [h] | exact h))

@[simp] theorem restartPeer_events (s : State) (i : Slot) (k : FrameKind) {a : EventKind} (h : a ∈ s.cpt.events) :
    a ∈ (restartPeer i k s).cpt.events := by
  unfold restartPeer; dsimp only; (repeat' split) <;>
    (repeat (first | with_reducible apply bump_events | simp [h] | exact h))

@[simp] theorem updateEntry_events (s : State) (i : Slot) (k : FrameKind) (body : List Byte) {a : EventKind} (h : a ∈ s.cpt.events) :
    a ∈ (updateEntry i k body s).cpt.events := by
  unfold updateEntry; dsimp only; (repeat' split) <;>
    (repeat (first | with_reducible apply countFrame_events | with_reducible apply restartPeer_events | simp [h] | exact h))

@[simp] theorem loseSilent_events (s : State) (i : Slot) {a : EventKind} (h : a ∈ s.cpt.events) :
    a ∈ (loseSilent i s).cpt.events := by
  unfold loseSilent; dsimp only;
    (repeat (first | with_reducible apply bump_events | with_reducible apply handOff_events | simp [h] | exact h))

@[simp] theorem forgetPeer_events (s : State) (i : Slot) {a : EventKind} (h : a ∈ s.cpt.events) :
    a ∈ (forgetPeer i s).cpt.events := by
  unfold forgetPeer; dsimp only;
    (repeat (first | with_reducible apply handOff_events | simp [h] | exact h))

@[simp] theorem clearTable_events (s : State) {a : EventKind} (h : a ∈ s.cpt.events) :
    a ∈ (clearTable s).cpt.events := by
  unfold clearTable; dsimp only; (repeat' split) <;>
    (repeat (first | with_reducible apply signal_events | simp [h] | exact h))

/-! ### Effects -/

/-- The hand-offs of an entry that was not PRESENT touch neither the source selector nor the servo, and no alarm (R67). -/
theorem handOff_of_ne_present (i : Slot) (old : PeerState) (r : Bool) (s : State) (h : old ≠ .present) :
    (handOff i old r s).src = s.src ∧ (handOff i old r s).tmu = s.tmu
      ∧ (handOff i old r s).alu.table = s.alu.table ∧ (handOff i old r s).alu.suppressed = s.alu.suppressed
      ∧ (handOff i old r s).alu.overflow = s.alu.overflow ∧
    (handOff i old r s).alu.alertDrive = s.alu.alertDrive := by
  unfold handOff
  simp only [h, if_false]
  split
  · split <;> simp
  · split <;> simp

/-- The entry after its hand-offs: GONE and LOST lose the stored summary and the blocked flag (R67). -/
theorem handOff_peer (i j : Slot) (old : PeerState) (r : Bool) (s : State) :
    (handOff i old r s).peer j =
      if j = i ∧ (s.peer i).state ≠ old ∧ ((s.peer i).state = .gone ∨ (s.peer i).state = .lost) then
        { (s.peer i).unblocked with summary := none }
      else s.peer j := by
  have hd : (dropDeparted i s).peer j = if j = i ∧ ((s.peer i).state = .gone ∨ (s.peer i).state = .lost) then
        { (s.peer i).unblocked with summary := none } else s.peer j := by
    unfold dropDeparted
    split <;> rename_i hx <;> by_cases h : j = i <;> simp [h, State.peer] <;> simp_all [State.peer]
  by_cases h : (s.peer i).state = old
  · simp only [handOff, h, if_true, ne_eq, not_true_eq_false, false_and, and_false, if_false]
    split <;> simp [State.peer]
  · simp only [handOff, h, if_false, ne_eq, not_false_eq_true, true_and]
    rw [← hd]
    split <;> split <;> simp [State.peer]

/-- Where the state of an entry does not change and there is no restart, nothing is handed on (R67). -/
theorem handOff_same (i : Slot) (s : State) : handOff i (s.peer i).state false s = s := by simp [handOff]

/-- A change of an entry's state, or a restart, places PEER CHANGE (R67). -/
theorem handOff_peerChange (i : Slot) (old : PeerState) (r : Bool) (s : State) (h : (s.peer i).state ≠ old ∨ r = true) :
    EventKind.peerChange ∈ (handOff i old r s).cpt.events := by
  unfold handOff
  by_cases hn : (s.peer i).state = old
  · have : r = true := by rcases h with h | h; · exact absurd hn h
                          · exact h
    simp [hn, this]
  · simp [hn]

/-- The entries after FRAMES of one of them is counted (R65). -/
theorem countFrame_peer (i j : Slot) (s : State) :
    (countFrame i s).peer j = if j = i then { s.peer i with frames := satAdd (s.peer i).frames 1 } else s.peer j := by
  simp only [countFrame, signalIfSaturated]
  split <;> simp [State.peer]

/-- The entries after a restart of one of them (R68, R69). -/
theorem restartPeer_peer (i j : Slot) (k : FrameKind) (s : State) :
    (restartPeer i k s).peer j = if j = i then (s.peer i).forgotten else s.peer j := by
  simp only [restartPeer]
  split <;> simp [State.peer]

/-- The entries after the entry update of a frame (R65, R68 to R71). -/
theorem updateEntry_peer (i j : Slot) (k : FrameKind) (body : List Byte) (s : State) :
    (updateEntry i k body s).peer j =
      if j = i then
        { ((if restarts k (s.peer i).state then
              PeerEntry.forgotten { s.peer i with age := some 0, frames := satAdd (s.peer i).frames 1 }
            else { s.peer i with age := some 0, frames := satAdd (s.peer i).frames 1 }).recorded s.cabinet k body) with
          state := stateAfter k (s.peer i).state }
      else s.peer j := by
  have hcab : ∀ t : State, t.stl = s.stl → t.cabinet = s.cabinet := fun t h => by simp [State.cabinet, h]
  unfold updateEntry
  dsimp only
  by_cases h : j = i
  · subst h
    simp only [State.peer_setPeer, if_true]
    split
    · rw [restartPeer_peer, hcab _ (by simp)]; simp [countFrame_peer]
    · rw [hcab _ (by simp)]; simp [countFrame_peer]
  · simp only [State.peer_setPeer_ne _ _ h, h, if_false]
    split <;> simp [restartPeer_peer, countFrame_peer, State.peer_setPeer_ne, h]

/-- Without a restart the entry update touches the entry, and COUNTER SATURATED at most (R65). -/
theorem updateEntry_no_restart (i : Slot) (k : FrameKind) (body : List Byte) (s : State)
    (h : restarts k (s.peer i).state = false) :
    (updateEntry i k body s).txs = s.txs ∧ (updateEntry i k body s).counters = s.counters := by
  simp [updateEntry, h]

/-- A frame of a kind that has no transition of its own, from a PRESENT or DRAINING peer: the entry's age and FRAMES, then
what the kind does with the body (R65, R68). -/
theorem stateAfter_stays {k : FrameKind} {old : PeerState} (hk : k ≠ .join ∧ k ≠ .withdraw ∧ k ≠ .gone)
    (h : old = .present ∨ old = .draining) : stateAfter k old = old ∧ restarts k old = false := by
  rcases h with rfl | rfl <;> cases k <;> simp_all [stateAfter, restarts]

end Sys2Proof.Machine
end

