-- ==== Sys2Proof/Laws/Seating.lean ====
section
/-! SUPPORT. What each operation of the seating controller leaves as it was, and what it does. -/

namespace Sys2Proof.Machine

open Sys2Proof

/-! ### Frames -/

@[simp] theorem enterBase_frame (s : State) (n : Seating) :
    (enterBase n s).bau = s.bau ∧ (enterBase n s).txs = s.txs ∧ (enterBase n s).rxp = s.rxp ∧
    (enterBase n s).ptb = s.ptb ∧ (enterBase n s).tmu = s.tmu ∧ (enterBase n s).src = s.src ∧
    (enterBase n s).sec.withdrawCause = s.sec.withdrawCause ∧ (enterBase n s).sec.forceCause = s.sec.forceCause ∧
    (enterBase n s).sec.conflictCause = s.sec.conflictCause ∧
    (enterBase n s).sec.recordLoaded = s.sec.recordLoaded ∧ (enterBase n s).sec.slotHeard = s.sec.slotHeard ∧
    (enterBase n s).sec.ejectorOpened = s.sec.ejectorOpened ∧ (enterBase n s).sec.seat = s.sec.seat ∧
    (enterBase n s).sec.eject = s.sec.eject ∧ (enterBase n s).sec.pgood = s.sec.pgood ∧
    (enterBase n s).sec.pwren = s.sec.pwren ∧ (enterBase n s).alu = s.alu ∧
    (enterBase n s).cpt.bits = s.cpt.bits ∧
    (enterBase n s).cpt.parser = s.cpt.parser ∧ (enterBase n s).cpt.incoming = s.cpt.incoming ∧
    (enterBase n s).cpt.replies = s.cpt.replies ∧ (enterBase n s).cpt.outgoing = s.cpt.outgoing ∧
    (enterBase n s).cpt.results = s.cpt.results ∧ (enterBase n s).cpt.eventMap = s.cpt.eventMap ∧
    (enterBase n s).cpt.hold = s.cpt.hold ∧ (enterBase n s).cpt.crst = s.cpt.crst ∧
    (enterBase n s).counters = s.counters ∧ (enterBase n s).pins = s.pins ∧ (enterBase n s).pinsAhead = s.pinsAhead ∧
    (enterBase n s).pending = s.pending := by
  unfold enterBase; dsimp only; (repeat' split) <;> simp

@[simp] theorem enterQueues_frame (s : State) (n : Seating) :
    (enterQueues n s).bau = s.bau ∧ (enterQueues n s).txs.slots = s.txs.slots ∧
    (enterQueues n s).txs.nextSeq = s.txs.nextSeq ∧ (enterQueues n s).txs.lateTimer = s.txs.lateTimer ∧
    (enterQueues n s).txs.undeliverableTimer = s.txs.undeliverableTimer ∧
    (enterQueues n s).txs.drainedReported = s.txs.drainedReported ∧ (enterQueues n s).rxp = s.rxp ∧
    (enterQueues n s).ptb = s.ptb ∧ (enterQueues n s).tmu = s.tmu ∧ (enterQueues n s).src = s.src ∧
    (enterQueues n s).sec = s.sec ∧ (enterQueues n s).alu = s.alu ∧ (enterQueues n s).cpt.bits = s.cpt.bits ∧
    (enterQueues n s).cpt.parser = s.cpt.parser ∧
    (enterQueues n s).cpt.incoming = s.cpt.incoming ∧ (enterQueues n s).cpt.replies = s.cpt.replies ∧
    (enterQueues n s).cpt.outgoing = s.cpt.outgoing ∧ (enterQueues n s).cpt.eventMap = s.cpt.eventMap ∧
    (enterQueues n s).cpt.hold = s.cpt.hold ∧ (enterQueues n s).cpt.crst = s.cpt.crst ∧
    (enterQueues n s).stl = s.stl ∧ (enterQueues n s).pins = s.pins ∧ (enterQueues n s).pinsAhead = s.pinsAhead ∧
    (enterQueues n s).pending = s.pending := by
  unfold enterQueues; (repeat' split) <;> simp

@[simp] theorem enterSlots_frame (s : State) (n : Seating) :
    (enterSlots n s).bau = s.bau ∧ (enterSlots n s).txs.queues = s.txs.queues ∧
    (enterSlots n s).txs.storeFree = s.txs.storeFree ∧ (enterSlots n s).txs.lateTimer = s.txs.lateTimer ∧
    (enterSlots n s).txs.undeliverableTimer = s.txs.undeliverableTimer ∧
    (enterSlots n s).txs.drainedReported = s.txs.drainedReported ∧ (enterSlots n s).rxp = s.rxp ∧
    (enterSlots n s).ptb = s.ptb ∧ (enterSlots n s).tmu = s.tmu ∧ (enterSlots n s).src = s.src ∧
    (enterSlots n s).sec = s.sec ∧ (enterSlots n s).alu = s.alu ∧ (enterSlots n s).cpt = s.cpt ∧
    (enterSlots n s).stl = s.stl ∧ (enterSlots n s).counters = s.counters ∧ (enterSlots n s).pins = s.pins ∧
    (enterSlots n s).pinsAhead = s.pinsAhead ∧
    (enterSlots n s).pending = s.pending := by
  unfold enterSlots; dsimp only; (repeat' split) <;> simp

@[simp] theorem cutFrame_frame (s : State) (t : Transmission) :
    (cutFrame t s).bau.view = s.bau.view ∧ (cutFrame t s).bau.position = s.bau.position ∧
    (cutFrame t s).bau.positionNew = s.bau.positionNew ∧ (cutFrame t s).bau.pointer = s.bau.pointer ∧
    (cutFrame t s).bau.collisions = s.bau.collisions ∧ (cutFrame t s).bau.tickCount = s.bau.tickCount ∧
    (cutFrame t s).bau.reply = s.bau.reply ∧ (cutFrame t s).txs.nextSeq = s.txs.nextSeq ∧
    (cutFrame t s).txs.drainedReported = s.txs.drainedReported ∧ (cutFrame t s).rxp = s.rxp ∧
    (cutFrame t s).tmu = s.tmu ∧ (cutFrame t s).src = s.src ∧ (cutFrame t s).sec = s.sec ∧
    (cutFrame t s).alu.intervalTimer = s.alu.intervalTimer ∧ (cutFrame t s).alu.alert = s.alu.alert ∧
    (cutFrame t s).alu.collector = s.alu.collector ∧ (cutFrame t s).cpt.bits = s.cpt.bits ∧
    (cutFrame t s).cpt.parser = s.cpt.parser ∧
    (cutFrame t s).cpt.incoming = s.cpt.incoming ∧ (cutFrame t s).cpt.replies = s.cpt.replies ∧
    (cutFrame t s).cpt.outgoing = s.cpt.outgoing ∧ (cutFrame t s).cpt.eventMap = s.cpt.eventMap ∧
    (cutFrame t s).cpt.hold = s.cpt.hold ∧ (cutFrame t s).cpt.crst = s.cpt.crst ∧ (cutFrame t s).stl = s.stl ∧
    (cutFrame t s).pins = s.pins ∧ (cutFrame t s).pinsAhead = s.pinsAhead ∧
    (cutFrame t s).pending = s.pending := by
  unfold cutFrame; dsimp only; simp

@[simp] theorem enterCut_frame (s : State) (n : Seating) :
    (enterCut n s).bau.view = s.bau.view ∧ (enterCut n s).bau.position = s.bau.position ∧
    (enterCut n s).bau.positionNew = s.bau.positionNew ∧ (enterCut n s).bau.pointer = s.bau.pointer ∧
    (enterCut n s).bau.collisions = s.bau.collisions ∧ (enterCut n s).bau.tickCount = s.bau.tickCount ∧
    (enterCut n s).bau.reply = s.bau.reply ∧ (enterCut n s).txs.nextSeq = s.txs.nextSeq ∧
    (enterCut n s).txs.drainedReported = s.txs.drainedReported ∧ (enterCut n s).rxp = s.rxp ∧
    (enterCut n s).tmu = s.tmu ∧ (enterCut n s).src = s.src ∧ (enterCut n s).sec = s.sec ∧
    (enterCut n s).alu.intervalTimer = s.alu.intervalTimer ∧ (enterCut n s).alu.alert = s.alu.alert ∧
    (enterCut n s).alu.collector = s.alu.collector ∧ (enterCut n s).cpt.bits = s.cpt.bits ∧
    (enterCut n s).cpt.parser = s.cpt.parser ∧
    (enterCut n s).cpt.incoming = s.cpt.incoming ∧ (enterCut n s).cpt.replies = s.cpt.replies ∧
    (enterCut n s).cpt.outgoing = s.cpt.outgoing ∧ (enterCut n s).cpt.eventMap = s.cpt.eventMap ∧
    (enterCut n s).cpt.hold = s.cpt.hold ∧ (enterCut n s).cpt.crst = s.cpt.crst ∧ (enterCut n s).stl = s.stl ∧
    (enterCut n s).pins = s.pins ∧ (enterCut n s).pinsAhead = s.pinsAhead ∧
    (enterCut n s).pending = s.pending := by
  unfold enterCut; (repeat' split) <;> simp

@[simp] theorem dropAwaited_frame (s : State) :
    (dropAwaited s).bau.view = s.bau.view ∧ (dropAwaited s).bau.position = s.bau.position ∧
    (dropAwaited s).bau.positionNew = s.bau.positionNew ∧ (dropAwaited s).bau.pointer = s.bau.pointer ∧
    (dropAwaited s).bau.collisions = s.bau.collisions ∧ (dropAwaited s).bau.tickCount = s.bau.tickCount ∧
    (dropAwaited s).bau.rx = s.bau.rx ∧ (dropAwaited s).bau.reply = s.bau.reply ∧
    (dropAwaited s).txs.nextSeq = s.txs.nextSeq ∧ (dropAwaited s).txs.drainedReported = s.txs.drainedReported ∧
    (dropAwaited s).rxp = s.rxp ∧ (dropAwaited s).tmu = s.tmu ∧ (dropAwaited s).src = s.src ∧
    (dropAwaited s).sec = s.sec ∧ (dropAwaited s).alu.intervalTimer = s.alu.intervalTimer ∧
    (dropAwaited s).alu.alert = s.alu.alert ∧ (dropAwaited s).alu.collector = s.alu.collector ∧
    (dropAwaited s).cpt.bits = s.cpt.bits ∧
    (dropAwaited s).cpt.parser = s.cpt.parser ∧ (dropAwaited s).cpt.incoming = s.cpt.incoming ∧
    (dropAwaited s).cpt.replies = s.cpt.replies ∧ (dropAwaited s).cpt.outgoing = s.cpt.outgoing ∧
    (dropAwaited s).cpt.eventMap = s.cpt.eventMap ∧ (dropAwaited s).cpt.hold = s.cpt.hold ∧
    (dropAwaited s).cpt.crst = s.cpt.crst ∧ (dropAwaited s).stl = s.stl ∧ (dropAwaited s).pins = s.pins ∧
    (dropAwaited s).pinsAhead = s.pinsAhead ∧
    (dropAwaited s).pending = s.pending := by
  unfold dropAwaited; dsimp only; (repeat' split) <;> simp

@[simp] theorem enterBus_frame (s : State) (n : Seating) :
    (enterBus n s).bau.tickCount = s.bau.tickCount ∧ (enterBus n s).txs.nextSeq = s.txs.nextSeq ∧
    (enterBus n s).txs.drainedReported = s.txs.drainedReported ∧ (enterBus n s).rxp = s.rxp ∧
    (enterBus n s).tmu = s.tmu ∧ (enterBus n s).src = s.src ∧ (enterBus n s).sec = s.sec ∧
    (enterBus n s).alu.intervalTimer = s.alu.intervalTimer ∧ (enterBus n s).alu.alert = s.alu.alert ∧
    (enterBus n s).alu.collector = s.alu.collector ∧ (enterBus n s).cpt.bits = s.cpt.bits ∧
    (enterBus n s).cpt.parser = s.cpt.parser ∧
    (enterBus n s).cpt.incoming = s.cpt.incoming ∧ (enterBus n s).cpt.replies = s.cpt.replies ∧
    (enterBus n s).cpt.outgoing = s.cpt.outgoing ∧ (enterBus n s).cpt.eventMap = s.cpt.eventMap ∧
    (enterBus n s).cpt.hold = s.cpt.hold ∧ (enterBus n s).cpt.crst = s.cpt.crst ∧ (enterBus n s).stl = s.stl ∧
    (enterBus n s).pins = s.pins ∧ (enterBus n s).pinsAhead = s.pinsAhead ∧
    (enterBus n s).pending = s.pending := by
  unfold enterBus; dsimp only; (repeat' split) <;> simp

@[simp] theorem enterPool_frame (s : State) (n : Seating) :
    (enterPool n s).bau = s.bau ∧ (enterPool n s).txs.queues = s.txs.queues ∧
    (enterPool n s).txs.storeFree = s.txs.storeFree ∧ (enterPool n s).txs.nextSeq = s.txs.nextSeq ∧
    (enterPool n s).txs.lateTimer = s.txs.lateTimer ∧
    (enterPool n s).txs.undeliverableTimer = s.txs.undeliverableTimer ∧
    (enterPool n s).txs.drainedReported = s.txs.drainedReported ∧
    (enterPool n s).rxp.readyLevel = s.rxp.readyLevel ∧ (enterPool n s).rxp.groups = s.rxp.groups ∧
    (enterPool n s).ptb = s.ptb ∧ (enterPool n s).tmu = s.tmu ∧ (enterPool n s).src = s.src ∧
    (enterPool n s).sec = s.sec ∧ (enterPool n s).alu.inputs = s.alu.inputs ∧
    (enterPool n s).alu.intervalTimer = s.alu.intervalTimer ∧ (enterPool n s).alu.alert = s.alu.alert ∧
    (enterPool n s).alu.collector = s.alu.collector ∧ (enterPool n s).cpt.bits = s.cpt.bits ∧
    (enterPool n s).cpt.parser = s.cpt.parser ∧
    (enterPool n s).cpt.incoming = s.cpt.incoming ∧ (enterPool n s).cpt.replies = s.cpt.replies ∧
    (enterPool n s).cpt.outgoing = s.cpt.outgoing ∧ (enterPool n s).cpt.results = s.cpt.results ∧
    (enterPool n s).cpt.eventMap = s.cpt.eventMap ∧ (enterPool n s).cpt.hold = s.cpt.hold ∧
    (enterPool n s).cpt.crst = s.cpt.crst ∧ (enterPool n s).stl = s.stl ∧ (enterPool n s).counters = s.counters ∧
    (enterPool n s).pins = s.pins ∧ (enterPool n s).pinsAhead = s.pinsAhead ∧
    (enterPool n s).pending = s.pending := by
  unfold enterPool; (repeat' split) <;> simp

@[simp] theorem enterPeers_frame (s : State) (n : Seating) :
    (enterPeers n s).bau = s.bau ∧ (enterPeers n s).txs = s.txs ∧ (enterPeers n s).rxp = s.rxp ∧
    (enterPeers n s).tmu = s.tmu ∧ (enterPeers n s).src = s.src ∧ (enterPeers n s).sec = s.sec ∧
    (enterPeers n s).alu.inputs = s.alu.inputs ∧ (enterPeers n s).alu.table = s.alu.table ∧
    (enterPeers n s).alu.suppressed = s.alu.suppressed ∧ (enterPeers n s).alu.overflow = s.alu.overflow ∧
    (enterPeers n s).alu.intervalTimer = s.alu.intervalTimer ∧ (enterPeers n s).alu.alertDrive = s.alu.alertDrive ∧
    (enterPeers n s).alu.alert = s.alu.alert ∧ (enterPeers n s).alu.collector = s.alu.collector ∧
    (enterPeers n s).cpt.bits = s.cpt.bits ∧
    (enterPeers n s).cpt.parser = s.cpt.parser ∧ (enterPeers n s).cpt.incoming = s.cpt.incoming ∧
    (enterPeers n s).cpt.replies = s.cpt.replies ∧ (enterPeers n s).cpt.outgoing = s.cpt.outgoing ∧
    (enterPeers n s).cpt.results = s.cpt.results ∧ (enterPeers n s).cpt.eventMap = s.cpt.eventMap ∧
    (enterPeers n s).cpt.hold = s.cpt.hold ∧ (enterPeers n s).cpt.crst = s.cpt.crst ∧ (enterPeers n s).stl = s.stl ∧
    (enterPeers n s).counters = s.counters ∧ (enterPeers n s).pins = s.pins ∧
    (enterPeers n s).pinsAhead = s.pinsAhead ∧
    (enterPeers n s).pending = s.pending := by
  unfold enterPeers; (repeat' split) <;> simp

@[simp] theorem enterSources_frame (s : State) (o n : Seating) :
    (enterSources o n s).bau = s.bau ∧ (enterSources o n s).txs.nextSeq = s.txs.nextSeq ∧
    (enterSources o n s).txs.lateTimer = s.txs.lateTimer ∧
    (enterSources o n s).txs.undeliverableTimer = s.txs.undeliverableTimer ∧
    (enterSources o n s).txs.drainedReported = s.txs.drainedReported ∧ (enterSources o n s).rxp = s.rxp ∧
    (enterSources o n s).ptb = s.ptb ∧ (enterSources o n s).tmu.time = s.tmu.time ∧
    (enterSources o n s).tmu.residue = s.tmu.residue ∧ (enterSources o n s).tmu.integral = s.tmu.integral ∧
    (enterSources o n s).tmu.everLocked = s.tmu.everLocked ∧ (enterSources o n s).tmu.lockCount = s.tmu.lockCount ∧
    (enterSources o n s).tmu.rateLimitCount = s.tmu.rateLimitCount ∧
    (enterSources o n s).tmu.lastError = s.tmu.lastError ∧ (enterSources o n s).tmu.settings = s.tmu.settings ∧
    (enterSources o n s).tmu.label = s.tmu.label ∧ (enterSources o n s).tmu.lastRef = s.tmu.lastRef ∧
    (enterSources o n s).src.quality = s.src.quality ∧ (enterSources o n s).src.priority = s.src.priority ∧
    (enterSources o n s).src.capable = s.src.capable ∧ (enterSources o n s).sec = s.sec ∧
    (enterSources o n s).alu.intervalTimer = s.alu.intervalTimer ∧ (enterSources o n s).alu.alert = s.alu.alert ∧
    (enterSources o n s).alu.collector = s.alu.collector ∧ (enterSources o n s).cpt.bits = s.cpt.bits ∧
    (enterSources o n s).cpt.parser = s.cpt.parser ∧
    (enterSources o n s).cpt.incoming = s.cpt.incoming ∧ (enterSources o n s).cpt.replies = s.cpt.replies ∧
    (enterSources o n s).cpt.outgoing = s.cpt.outgoing ∧ (enterSources o n s).cpt.eventMap = s.cpt.eventMap ∧
    (enterSources o n s).cpt.hold = s.cpt.hold ∧ (enterSources o n s).cpt.crst = s.cpt.crst ∧
    (enterSources o n s).stl = s.stl ∧ (enterSources o n s).pins = s.pins ∧
    (enterSources o n s).pinsAhead = s.pinsAhead ∧
    (enterSources o n s).pending = s.pending := by
  unfold enterSources; (repeat' split) <;> simp

@[simp] theorem requestSummary_frame (s : State) :
    (requestSummary s).bau = s.bau ∧ (requestSummary s).txs.queues = s.txs.queues ∧
    (requestSummary s).txs.storeFree = s.txs.storeFree ∧ (requestSummary s).txs.nextSeq = s.txs.nextSeq ∧
    (requestSummary s).txs.lateTimer = s.txs.lateTimer ∧
    (requestSummary s).txs.undeliverableTimer = s.txs.undeliverableTimer ∧
    (requestSummary s).txs.drainedReported = s.txs.drainedReported ∧ (requestSummary s).rxp = s.rxp ∧
    (requestSummary s).ptb = s.ptb ∧ (requestSummary s).tmu = s.tmu ∧ (requestSummary s).src = s.src ∧
    (requestSummary s).sec = s.sec ∧ (requestSummary s).alu.inputs = s.alu.inputs ∧
    (requestSummary s).alu.table = s.alu.table ∧ (requestSummary s).alu.suppressed = s.alu.suppressed ∧
    (requestSummary s).alu.overflow = s.alu.overflow ∧ (requestSummary s).alu.summary = s.alu.summary ∧
    (requestSummary s).alu.holdOffTimer = s.alu.holdOffTimer ∧
    (requestSummary s).alu.alertDrive = s.alu.alertDrive ∧ (requestSummary s).alu.alert = s.alu.alert ∧
    (requestSummary s).alu.collector = s.alu.collector ∧ (requestSummary s).alu.crit = s.alu.crit ∧
    (requestSummary s).alu.maj = s.alu.maj ∧ (requestSummary s).cpt = s.cpt ∧ (requestSummary s).stl = s.stl ∧
    (requestSummary s).counters = s.counters ∧ (requestSummary s).pins = s.pins ∧
    (requestSummary s).pinsAhead = s.pinsAhead ∧
    (requestSummary s).pending = s.pending := by
  unfold requestSummary; dsimp only; simp

@[simp] theorem enterSummaries_frame (s : State) (n : Seating) :
    (enterSummaries n s).bau = s.bau ∧ (enterSummaries n s).txs.queues = s.txs.queues ∧
    (enterSummaries n s).txs.storeFree = s.txs.storeFree ∧ (enterSummaries n s).txs.nextSeq = s.txs.nextSeq ∧
    (enterSummaries n s).txs.lateTimer = s.txs.lateTimer ∧
    (enterSummaries n s).txs.undeliverableTimer = s.txs.undeliverableTimer ∧
    (enterSummaries n s).txs.drainedReported = s.txs.drainedReported ∧ (enterSummaries n s).rxp = s.rxp ∧
    (enterSummaries n s).ptb = s.ptb ∧ (enterSummaries n s).tmu = s.tmu ∧ (enterSummaries n s).src = s.src ∧
    (enterSummaries n s).sec = s.sec ∧ (enterSummaries n s).alu.inputs = s.alu.inputs ∧
    (enterSummaries n s).alu.table = s.alu.table ∧ (enterSummaries n s).alu.suppressed = s.alu.suppressed ∧
    (enterSummaries n s).alu.overflow = s.alu.overflow ∧ (enterSummaries n s).alu.summary = s.alu.summary ∧
    (enterSummaries n s).alu.alertDrive = s.alu.alertDrive ∧ (enterSummaries n s).alu.alert = s.alu.alert ∧
    (enterSummaries n s).alu.collector = s.alu.collector ∧ (enterSummaries n s).alu.crit = s.alu.crit ∧
    (enterSummaries n s).alu.maj = s.alu.maj ∧ (enterSummaries n s).cpt = s.cpt ∧ (enterSummaries n s).stl = s.stl ∧
    (enterSummaries n s).counters = s.counters ∧ (enterSummaries n s).pins = s.pins ∧
    (enterSummaries n s).pinsAhead = s.pinsAhead ∧
    (enterSummaries n s).pending = s.pending := by
  unfold enterSummaries; dsimp only; (repeat' split) <;> simp

@[simp] theorem leaveAlarms_frame (s : State) (o : Seating) :
    (leaveAlarms o s).bau = s.bau ∧ (leaveAlarms o s).txs = s.txs ∧ (leaveAlarms o s).rxp = s.rxp ∧
    (leaveAlarms o s).ptb = s.ptb ∧ (leaveAlarms o s).tmu = s.tmu ∧ (leaveAlarms o s).src = s.src ∧
    (leaveAlarms o s).sec = s.sec ∧ (leaveAlarms o s).alu.inputs = s.alu.inputs ∧
    (leaveAlarms o s).alu.intervalTimer = s.alu.intervalTimer ∧ (leaveAlarms o s).alu.alert = s.alu.alert ∧
    (leaveAlarms o s).alu.collector = s.alu.collector ∧ (leaveAlarms o s).cpt.bits = s.cpt.bits ∧
    (leaveAlarms o s).cpt.parser = s.cpt.parser ∧
    (leaveAlarms o s).cpt.incoming = s.cpt.incoming ∧ (leaveAlarms o s).cpt.replies = s.cpt.replies ∧
    (leaveAlarms o s).cpt.outgoing = s.cpt.outgoing ∧ (leaveAlarms o s).cpt.results = s.cpt.results ∧
    (leaveAlarms o s).cpt.eventMap = s.cpt.eventMap ∧ (leaveAlarms o s).cpt.hold = s.cpt.hold ∧
    (leaveAlarms o s).cpt.crst = s.cpt.crst ∧ (leaveAlarms o s).stl = s.stl ∧
    (leaveAlarms o s).counters = s.counters ∧ (leaveAlarms o s).pins = s.pins ∧
    (leaveAlarms o s).pinsAhead = s.pinsAhead ∧
    (leaveAlarms o s).pending = s.pending := by
  unfold leaveAlarms; (repeat' split) <;> simp

@[simp] theorem enterState_frame (s : State) (n : Seating) :
    (enterState n s).bau.tickCount = s.bau.tickCount ∧
    (enterState n s).txs.drainedReported = s.txs.drainedReported ∧
    (enterState n s).rxp.readyLevel = s.rxp.readyLevel ∧ (enterState n s).rxp.groups = s.rxp.groups ∧
    (enterState n s).tmu.time = s.tmu.time ∧ (enterState n s).tmu.residue = s.tmu.residue ∧
    (enterState n s).tmu.integral = s.tmu.integral ∧ (enterState n s).tmu.everLocked = s.tmu.everLocked ∧
    (enterState n s).tmu.lockCount = s.tmu.lockCount ∧ (enterState n s).tmu.rateLimitCount = s.tmu.rateLimitCount ∧
    (enterState n s).tmu.lastError = s.tmu.lastError ∧ (enterState n s).tmu.settings = s.tmu.settings ∧
    (enterState n s).tmu.label = s.tmu.label ∧ (enterState n s).tmu.lastRef = s.tmu.lastRef ∧
    (enterState n s).src.quality = s.src.quality ∧ (enterState n s).src.priority = s.src.priority ∧
    (enterState n s).src.capable = s.src.capable ∧ (enterState n s).sec.withdrawCause = s.sec.withdrawCause ∧
    (enterState n s).sec.forceCause = s.sec.forceCause ∧ (enterState n s).sec.conflictCause = s.sec.conflictCause ∧
    (enterState n s).sec.recordLoaded = s.sec.recordLoaded ∧ (enterState n s).sec.slotHeard = s.sec.slotHeard ∧
    (enterState n s).sec.ejectorOpened = s.sec.ejectorOpened ∧ (enterState n s).sec.seat = s.sec.seat ∧
    (enterState n s).sec.eject = s.sec.eject ∧ (enterState n s).sec.pgood = s.sec.pgood ∧
    (enterState n s).sec.pwren = s.sec.pwren ∧ (enterState n s).alu.alert = s.alu.alert ∧
    (enterState n s).alu.collector = s.alu.collector ∧ (enterState n s).cpt.bits = s.cpt.bits ∧
    (enterState n s).cpt.parser = s.cpt.parser ∧
    (enterState n s).cpt.incoming = s.cpt.incoming ∧ (enterState n s).cpt.replies = s.cpt.replies ∧
    (enterState n s).cpt.outgoing = s.cpt.outgoing ∧ (enterState n s).cpt.eventMap = s.cpt.eventMap ∧
    (enterState n s).cpt.hold = s.cpt.hold ∧ (enterState n s).cpt.crst = s.cpt.crst ∧
    (enterState n s).pins = s.pins ∧ (enterState n s).pinsAhead = s.pinsAhead ∧
    (enterState n s).pending = s.pending := by
  unfold enterState; dsimp only; simp

@[simp] theorem clearCauses_frame (s : State) :
    (clearCauses s).bau = s.bau ∧ (clearCauses s).txs = s.txs ∧ (clearCauses s).rxp = s.rxp ∧
    (clearCauses s).ptb = s.ptb ∧ (clearCauses s).tmu = s.tmu ∧ (clearCauses s).src = s.src ∧
    (clearCauses s).sec.state = s.sec.state ∧ (clearCauses s).sec.recordLoaded = s.sec.recordLoaded ∧
    (clearCauses s).sec.slotHeard = s.sec.slotHeard ∧ (clearCauses s).sec.ejectorOpened = s.sec.ejectorOpened ∧
    (clearCauses s).sec.powerGoodTimer = s.sec.powerGoodTimer ∧
    (clearCauses s).sec.listenTimer = s.sec.listenTimer ∧ (clearCauses s).sec.drainTimer = s.sec.drainTimer ∧
    (clearCauses s).sec.goneTimer = s.sec.goneTimer ∧ (clearCauses s).sec.noticeTimer = s.sec.noticeTimer ∧
    (clearCauses s).sec.seat = s.sec.seat ∧ (clearCauses s).sec.eject = s.sec.eject ∧
    (clearCauses s).sec.pgood = s.sec.pgood ∧ (clearCauses s).sec.pwren = s.sec.pwren ∧
    (clearCauses s).sec.drven = s.sec.drven ∧ (clearCauses s).sec.rmvok = s.sec.rmvok ∧
    (clearCauses s).alu = s.alu ∧ (clearCauses s).cpt = s.cpt ∧ (clearCauses s).stl = s.stl ∧
    (clearCauses s).counters = s.counters ∧ (clearCauses s).pins = s.pins ∧ (clearCauses s).pinsAhead = s.pinsAhead ∧
    (clearCauses s).pending = s.pending := by
  unfold clearCauses; simp

@[simp] theorem setPower_frame (s : State) (on : Bool) :
    (setPower on s).bau = s.bau ∧ (setPower on s).txs = s.txs ∧ (setPower on s).rxp = s.rxp ∧
    (setPower on s).ptb = s.ptb ∧ (setPower on s).tmu = s.tmu ∧ (setPower on s).src = s.src ∧
    (setPower on s).sec.state = s.sec.state ∧ (setPower on s).sec.withdrawCause = s.sec.withdrawCause ∧
    (setPower on s).sec.forceCause = s.sec.forceCause ∧ (setPower on s).sec.conflictCause = s.sec.conflictCause ∧
    (setPower on s).sec.recordLoaded = s.sec.recordLoaded ∧ (setPower on s).sec.slotHeard = s.sec.slotHeard ∧
    (setPower on s).sec.ejectorOpened = s.sec.ejectorOpened ∧
    (setPower on s).sec.powerGoodTimer = s.sec.powerGoodTimer ∧
    (setPower on s).sec.listenTimer = s.sec.listenTimer ∧ (setPower on s).sec.drainTimer = s.sec.drainTimer ∧
    (setPower on s).sec.goneTimer = s.sec.goneTimer ∧ (setPower on s).sec.noticeTimer = s.sec.noticeTimer ∧
    (setPower on s).sec.seat = s.sec.seat ∧ (setPower on s).sec.eject = s.sec.eject ∧
    (setPower on s).sec.pgood = s.sec.pgood ∧ (setPower on s).sec.drven = s.sec.drven ∧
    (setPower on s).sec.rmvok = s.sec.rmvok ∧ (setPower on s).alu = s.alu ∧ (setPower on s).cpt = s.cpt ∧
    (setPower on s).stl = s.stl ∧ (setPower on s).counters = s.counters ∧ (setPower on s).pins = s.pins ∧
    (setPower on s).pinsAhead = s.pinsAhead ∧
    (setPower on s).pending = s.pending := by
  unfold setPower; simp

@[simp] theorem losePower_frame (s : State) :
    (losePower s).bau = s.bau ∧ (losePower s).txs = s.txs ∧ (losePower s).rxp = s.rxp ∧ (losePower s).ptb = s.ptb ∧
    (losePower s).tmu = s.tmu ∧ (losePower s).src = s.src ∧ (losePower s).sec.state = s.sec.state ∧
    (losePower s).sec.withdrawCause = s.sec.withdrawCause ∧ (losePower s).sec.forceCause = s.sec.forceCause ∧
    (losePower s).sec.conflictCause = s.sec.conflictCause ∧ (losePower s).sec.recordLoaded = s.sec.recordLoaded ∧
    (losePower s).sec.slotHeard = s.sec.slotHeard ∧ (losePower s).sec.ejectorOpened = s.sec.ejectorOpened ∧
    (losePower s).sec.powerGoodTimer = s.sec.powerGoodTimer ∧ (losePower s).sec.listenTimer = s.sec.listenTimer ∧
    (losePower s).sec.drainTimer = s.sec.drainTimer ∧ (losePower s).sec.goneTimer = s.sec.goneTimer ∧
    (losePower s).sec.noticeTimer = s.sec.noticeTimer ∧ (losePower s).sec.seat = s.sec.seat ∧
    (losePower s).sec.eject = s.sec.eject ∧ (losePower s).sec.pgood = s.sec.pgood ∧
    (losePower s).sec.drven = s.sec.drven ∧ (losePower s).sec.rmvok = s.sec.rmvok ∧
    (losePower s).alu.intervalTimer = s.alu.intervalTimer ∧ (losePower s).alu.alert = s.alu.alert ∧
    (losePower s).alu.collector = s.alu.collector ∧ (losePower s).cpt.bits = s.cpt.bits ∧
    (losePower s).cpt.parser = s.cpt.parser ∧
    (losePower s).cpt.incoming = s.cpt.incoming ∧ (losePower s).cpt.replies = s.cpt.replies ∧
    (losePower s).cpt.outgoing = s.cpt.outgoing ∧ (losePower s).cpt.results = s.cpt.results ∧
    (losePower s).cpt.eventMap = s.cpt.eventMap ∧ (losePower s).cpt.hold = s.cpt.hold ∧
    (losePower s).cpt.crst = s.cpt.crst ∧ (losePower s).stl = s.stl ∧ (losePower s).pins = s.pins ∧
    (losePower s).pinsAhead = s.pinsAhead ∧
    (losePower s).pending = s.pending := by
  unfold losePower; simp

@[simp] theorem enterListening_frame (s : State) :
    (enterListening s).bau.tickCount = s.bau.tickCount ∧
    (enterListening s).txs.drainedReported = s.txs.drainedReported ∧
    (enterListening s).rxp.readyLevel = s.rxp.readyLevel ∧ (enterListening s).rxp.groups = s.rxp.groups ∧
    (enterListening s).tmu.time = s.tmu.time ∧ (enterListening s).tmu.residue = s.tmu.residue ∧
    (enterListening s).tmu.integral = s.tmu.integral ∧ (enterListening s).tmu.everLocked = s.tmu.everLocked ∧
    (enterListening s).tmu.lockCount = s.tmu.lockCount ∧
    (enterListening s).tmu.rateLimitCount = s.tmu.rateLimitCount ∧
    (enterListening s).tmu.lastError = s.tmu.lastError ∧ (enterListening s).tmu.settings = s.tmu.settings ∧
    (enterListening s).tmu.label = s.tmu.label ∧ (enterListening s).tmu.lastRef = s.tmu.lastRef ∧
    (enterListening s).src.quality = s.src.quality ∧ (enterListening s).src.priority = s.src.priority ∧
    (enterListening s).src.capable = s.src.capable ∧ (enterListening s).sec.recordLoaded = s.sec.recordLoaded ∧
    (enterListening s).sec.ejectorOpened = s.sec.ejectorOpened ∧ (enterListening s).sec.seat = s.sec.seat ∧
    (enterListening s).sec.eject = s.sec.eject ∧ (enterListening s).sec.pgood = s.sec.pgood ∧
    (enterListening s).sec.pwren = s.sec.pwren ∧ (enterListening s).alu.alert = s.alu.alert ∧
    (enterListening s).alu.collector = s.alu.collector ∧ (enterListening s).cpt.bits = s.cpt.bits ∧
    (enterListening s).cpt.parser = s.cpt.parser ∧
    (enterListening s).cpt.incoming = s.cpt.incoming ∧ (enterListening s).cpt.replies = s.cpt.replies ∧
    (enterListening s).cpt.outgoing = s.cpt.outgoing ∧ (enterListening s).cpt.eventMap = s.cpt.eventMap ∧
    (enterListening s).cpt.hold = s.cpt.hold ∧ (enterListening s).cpt.crst = s.cpt.crst ∧
    (enterListening s).pins = s.pins ∧ (enterListening s).pinsAhead = s.pinsAhead ∧
    (enterListening s).pending = s.pending := by
  unfold enterListening; dsimp only; simp

@[simp] theorem enterConfig_frame (s : State) :
    (enterConfig s).bau.tickCount = s.bau.tickCount ∧ (enterConfig s).txs.drainedReported = s.txs.drainedReported ∧
    (enterConfig s).rxp.readyLevel = s.rxp.readyLevel ∧ (enterConfig s).rxp.groups = s.rxp.groups ∧
    (enterConfig s).tmu.time = s.tmu.time ∧ (enterConfig s).tmu.residue = s.tmu.residue ∧
    (enterConfig s).tmu.integral = s.tmu.integral ∧ (enterConfig s).tmu.everLocked = s.tmu.everLocked ∧
    (enterConfig s).tmu.lockCount = s.tmu.lockCount ∧ (enterConfig s).tmu.rateLimitCount = s.tmu.rateLimitCount ∧
    (enterConfig s).tmu.lastError = s.tmu.lastError ∧ (enterConfig s).tmu.settings = s.tmu.settings ∧
    (enterConfig s).tmu.label = s.tmu.label ∧ (enterConfig s).tmu.lastRef = s.tmu.lastRef ∧
    (enterConfig s).src.quality = s.src.quality ∧ (enterConfig s).src.priority = s.src.priority ∧
    (enterConfig s).src.capable = s.src.capable ∧ (enterConfig s).sec.withdrawCause = s.sec.withdrawCause ∧
    (enterConfig s).sec.forceCause = s.sec.forceCause ∧ (enterConfig s).sec.conflictCause = s.sec.conflictCause ∧
    (enterConfig s).sec.recordLoaded = s.sec.recordLoaded ∧ (enterConfig s).sec.slotHeard = s.sec.slotHeard ∧
    (enterConfig s).sec.ejectorOpened = s.sec.ejectorOpened ∧ (enterConfig s).sec.seat = s.sec.seat ∧
    (enterConfig s).sec.eject = s.sec.eject ∧ (enterConfig s).sec.pgood = s.sec.pgood ∧
    (enterConfig s).sec.pwren = s.sec.pwren ∧ (enterConfig s).alu.alert = s.alu.alert ∧
    (enterConfig s).alu.collector = s.alu.collector ∧ (enterConfig s).cpt.bits = s.cpt.bits ∧
    (enterConfig s).cpt.parser = s.cpt.parser ∧
    (enterConfig s).cpt.incoming = s.cpt.incoming ∧ (enterConfig s).cpt.replies = s.cpt.replies ∧
    (enterConfig s).cpt.outgoing = s.cpt.outgoing ∧ (enterConfig s).cpt.eventMap = s.cpt.eventMap ∧
    (enterConfig s).cpt.hold = s.cpt.hold ∧ (enterConfig s).cpt.crst = s.cpt.crst ∧
    (enterConfig s).pins = s.pins ∧ (enterConfig s).pinsAhead = s.pinsAhead ∧
    (enterConfig s).pending = s.pending := by
  unfold enterConfig; dsimp only; simp

@[simp] theorem powerUp_frame (s : State) :
    (powerUp s).bau.tickCount = s.bau.tickCount ∧ (powerUp s).txs.drainedReported = s.txs.drainedReported ∧
    (powerUp s).rxp.readyLevel = s.rxp.readyLevel ∧ (powerUp s).rxp.groups = s.rxp.groups ∧
    (powerUp s).tmu.time = s.tmu.time ∧ (powerUp s).tmu.residue = s.tmu.residue ∧
    (powerUp s).tmu.integral = s.tmu.integral ∧ (powerUp s).tmu.everLocked = s.tmu.everLocked ∧
    (powerUp s).tmu.lockCount = s.tmu.lockCount ∧ (powerUp s).tmu.rateLimitCount = s.tmu.rateLimitCount ∧
    (powerUp s).tmu.lastError = s.tmu.lastError ∧ (powerUp s).tmu.settings = s.tmu.settings ∧
    (powerUp s).tmu.label = s.tmu.label ∧ (powerUp s).tmu.lastRef = s.tmu.lastRef ∧
    (powerUp s).src.quality = s.src.quality ∧ (powerUp s).src.priority = s.src.priority ∧
    (powerUp s).src.capable = s.src.capable ∧ (powerUp s).sec.recordLoaded = s.sec.recordLoaded ∧
    (powerUp s).sec.ejectorOpened = s.sec.ejectorOpened ∧ (powerUp s).sec.seat = s.sec.seat ∧
    (powerUp s).sec.eject = s.sec.eject ∧ (powerUp s).sec.pgood = s.sec.pgood ∧
    (powerUp s).sec.pwren = s.sec.pwren ∧ (powerUp s).alu.alert = s.alu.alert ∧
    (powerUp s).alu.collector = s.alu.collector ∧ (powerUp s).cpt.bits = s.cpt.bits ∧
    (powerUp s).cpt.parser = s.cpt.parser ∧
    (powerUp s).cpt.incoming = s.cpt.incoming ∧ (powerUp s).cpt.replies = s.cpt.replies ∧
    (powerUp s).cpt.outgoing = s.cpt.outgoing ∧ (powerUp s).cpt.eventMap = s.cpt.eventMap ∧
    (powerUp s).cpt.hold = s.cpt.hold ∧ (powerUp s).cpt.crst = s.cpt.crst ∧ (powerUp s).pins = s.pins ∧
    (powerUp s).pinsAhead = s.pinsAhead ∧
    (powerUp s).pending = s.pending := by
  unfold powerUp; dsimp only; (repeat' split) <;> simp

@[simp] theorem enterPowering_frame (s : State) :
    (enterPowering s).bau.tickCount = s.bau.tickCount ∧
    (enterPowering s).txs.drainedReported = s.txs.drainedReported ∧
    (enterPowering s).rxp.readyLevel = s.rxp.readyLevel ∧ (enterPowering s).rxp.groups = s.rxp.groups ∧
    (enterPowering s).tmu.time = s.tmu.time ∧ (enterPowering s).tmu.residue = s.tmu.residue ∧
    (enterPowering s).tmu.integral = s.tmu.integral ∧ (enterPowering s).tmu.everLocked = s.tmu.everLocked ∧
    (enterPowering s).tmu.lockCount = s.tmu.lockCount ∧
    (enterPowering s).tmu.rateLimitCount = s.tmu.rateLimitCount ∧
    (enterPowering s).tmu.lastError = s.tmu.lastError ∧ (enterPowering s).tmu.settings = s.tmu.settings ∧
    (enterPowering s).tmu.label = s.tmu.label ∧ (enterPowering s).tmu.lastRef = s.tmu.lastRef ∧
    (enterPowering s).src.quality = s.src.quality ∧ (enterPowering s).src.priority = s.src.priority ∧
    (enterPowering s).src.capable = s.src.capable ∧ (enterPowering s).sec.recordLoaded = s.sec.recordLoaded ∧
    (enterPowering s).sec.ejectorOpened = s.sec.ejectorOpened ∧ (enterPowering s).sec.seat = s.sec.seat ∧
    (enterPowering s).sec.eject = s.sec.eject ∧ (enterPowering s).sec.pgood = s.sec.pgood ∧
    (enterPowering s).alu.alert = s.alu.alert ∧ (enterPowering s).alu.collector = s.alu.collector ∧
    (enterPowering s).cpt.bits = s.cpt.bits ∧
    (enterPowering s).cpt.parser = s.cpt.parser ∧ (enterPowering s).cpt.incoming = s.cpt.incoming ∧
    (enterPowering s).cpt.replies = s.cpt.replies ∧ (enterPowering s).cpt.outgoing = s.cpt.outgoing ∧
    (enterPowering s).cpt.eventMap = s.cpt.eventMap ∧ (enterPowering s).cpt.hold = s.cpt.hold ∧
    (enterPowering s).cpt.crst = s.cpt.crst ∧ (enterPowering s).pins = s.pins ∧
    (enterPowering s).pinsAhead = s.pinsAhead ∧
    (enterPowering s).pending = s.pending := by
  unfold enterPowering; dsimp only; (repeat' split) <;> simp

@[simp] theorem startNotice_frame (s : State) :
    (startNotice s).bau = s.bau ∧ (startNotice s).txs = s.txs ∧ (startNotice s).rxp = s.rxp ∧
    (startNotice s).ptb = s.ptb ∧ (startNotice s).tmu = s.tmu ∧ (startNotice s).src = s.src ∧
    (startNotice s).sec.state = s.sec.state ∧ (startNotice s).sec.withdrawCause = s.sec.withdrawCause ∧
    (startNotice s).sec.forceCause = s.sec.forceCause ∧ (startNotice s).sec.conflictCause = s.sec.conflictCause ∧
    (startNotice s).sec.recordLoaded = s.sec.recordLoaded ∧ (startNotice s).sec.slotHeard = s.sec.slotHeard ∧
    (startNotice s).sec.ejectorOpened = s.sec.ejectorOpened ∧
    (startNotice s).sec.powerGoodTimer = s.sec.powerGoodTimer ∧
    (startNotice s).sec.listenTimer = s.sec.listenTimer ∧ (startNotice s).sec.drainTimer = s.sec.drainTimer ∧
    (startNotice s).sec.goneTimer = s.sec.goneTimer ∧ (startNotice s).sec.seat = s.sec.seat ∧
    (startNotice s).sec.eject = s.sec.eject ∧ (startNotice s).sec.pgood = s.sec.pgood ∧
    (startNotice s).sec.pwren = s.sec.pwren ∧ (startNotice s).sec.drven = s.sec.drven ∧
    (startNotice s).sec.rmvok = s.sec.rmvok ∧ (startNotice s).alu = s.alu ∧
    (startNotice s).cpt.bits = s.cpt.bits ∧
    (startNotice s).cpt.parser = s.cpt.parser ∧ (startNotice s).cpt.incoming = s.cpt.incoming ∧
    (startNotice s).cpt.replies = s.cpt.replies ∧ (startNotice s).cpt.outgoing = s.cpt.outgoing ∧
    (startNotice s).cpt.results = s.cpt.results ∧ (startNotice s).cpt.eventMap = s.cpt.eventMap ∧
    (startNotice s).cpt.hold = s.cpt.hold ∧ (startNotice s).cpt.crst = s.cpt.crst ∧ (startNotice s).stl = s.stl ∧
    (startNotice s).counters = s.counters ∧ (startNotice s).pins = s.pins ∧ (startNotice s).pinsAhead = s.pinsAhead ∧
    (startNotice s).pending = s.pending := by
  unfold startNotice; simp

@[simp] theorem enterWithdrawn_frame (s : State) :
    (enterWithdrawn s).bau.tickCount = s.bau.tickCount ∧
    (enterWithdrawn s).txs.drainedReported = s.txs.drainedReported ∧
    (enterWithdrawn s).rxp.readyLevel = s.rxp.readyLevel ∧ (enterWithdrawn s).rxp.groups = s.rxp.groups ∧
    (enterWithdrawn s).tmu.time = s.tmu.time ∧ (enterWithdrawn s).tmu.residue = s.tmu.residue ∧
    (enterWithdrawn s).tmu.integral = s.tmu.integral ∧ (enterWithdrawn s).tmu.everLocked = s.tmu.everLocked ∧
    (enterWithdrawn s).tmu.lockCount = s.tmu.lockCount ∧
    (enterWithdrawn s).tmu.rateLimitCount = s.tmu.rateLimitCount ∧
    (enterWithdrawn s).tmu.lastError = s.tmu.lastError ∧ (enterWithdrawn s).tmu.settings = s.tmu.settings ∧
    (enterWithdrawn s).tmu.label = s.tmu.label ∧ (enterWithdrawn s).tmu.lastRef = s.tmu.lastRef ∧
    (enterWithdrawn s).src.quality = s.src.quality ∧ (enterWithdrawn s).src.priority = s.src.priority ∧
    (enterWithdrawn s).src.capable = s.src.capable ∧ (enterWithdrawn s).sec.recordLoaded = s.sec.recordLoaded ∧
    (enterWithdrawn s).sec.ejectorOpened = s.sec.ejectorOpened ∧ (enterWithdrawn s).sec.seat = s.sec.seat ∧
    (enterWithdrawn s).sec.eject = s.sec.eject ∧ (enterWithdrawn s).sec.pgood = s.sec.pgood ∧
    (enterWithdrawn s).alu.alert = s.alu.alert ∧ (enterWithdrawn s).alu.collector = s.alu.collector ∧
    (enterWithdrawn s).cpt.bits = s.cpt.bits ∧
    (enterWithdrawn s).cpt.parser = s.cpt.parser ∧ (enterWithdrawn s).cpt.incoming = s.cpt.incoming ∧
    (enterWithdrawn s).cpt.replies = s.cpt.replies ∧ (enterWithdrawn s).cpt.outgoing = s.cpt.outgoing ∧
    (enterWithdrawn s).cpt.eventMap = s.cpt.eventMap ∧ (enterWithdrawn s).cpt.hold = s.cpt.hold ∧
    (enterWithdrawn s).cpt.crst = s.cpt.crst ∧ (enterWithdrawn s).pins = s.pins ∧
    (enterWithdrawn s).pinsAhead = s.pinsAhead ∧
    (enterWithdrawn s).pending = s.pending := by
  unfold enterWithdrawn; dsimp only; (repeat' split) <;> simp

@[simp] theorem enterPowerFault_frame (s : State) :
    (enterPowerFault s).bau.tickCount = s.bau.tickCount ∧
    (enterPowerFault s).txs.drainedReported = s.txs.drainedReported ∧
    (enterPowerFault s).rxp.readyLevel = s.rxp.readyLevel ∧ (enterPowerFault s).rxp.groups = s.rxp.groups ∧
    (enterPowerFault s).tmu.time = s.tmu.time ∧ (enterPowerFault s).tmu.residue = s.tmu.residue ∧
    (enterPowerFault s).tmu.integral = s.tmu.integral ∧ (enterPowerFault s).tmu.everLocked = s.tmu.everLocked ∧
    (enterPowerFault s).tmu.lockCount = s.tmu.lockCount ∧
    (enterPowerFault s).tmu.rateLimitCount = s.tmu.rateLimitCount ∧
    (enterPowerFault s).tmu.lastError = s.tmu.lastError ∧ (enterPowerFault s).tmu.settings = s.tmu.settings ∧
    (enterPowerFault s).tmu.label = s.tmu.label ∧ (enterPowerFault s).tmu.lastRef = s.tmu.lastRef ∧
    (enterPowerFault s).src.quality = s.src.quality ∧ (enterPowerFault s).src.priority = s.src.priority ∧
    (enterPowerFault s).src.capable = s.src.capable ∧ (enterPowerFault s).sec.withdrawCause = s.sec.withdrawCause ∧
    (enterPowerFault s).sec.forceCause = s.sec.forceCause ∧
    (enterPowerFault s).sec.conflictCause = s.sec.conflictCause ∧
    (enterPowerFault s).sec.recordLoaded = s.sec.recordLoaded ∧
    (enterPowerFault s).sec.slotHeard = s.sec.slotHeard ∧ (enterPowerFault s).sec.seat = s.sec.seat ∧
    (enterPowerFault s).sec.eject = s.sec.eject ∧ (enterPowerFault s).sec.pgood = s.sec.pgood ∧
    (enterPowerFault s).alu.alert = s.alu.alert ∧ (enterPowerFault s).alu.collector = s.alu.collector ∧
    (enterPowerFault s).cpt.bits = s.cpt.bits ∧
    (enterPowerFault s).cpt.parser = s.cpt.parser ∧ (enterPowerFault s).cpt.incoming = s.cpt.incoming ∧
    (enterPowerFault s).cpt.replies = s.cpt.replies ∧ (enterPowerFault s).cpt.outgoing = s.cpt.outgoing ∧
    (enterPowerFault s).cpt.eventMap = s.cpt.eventMap ∧ (enterPowerFault s).cpt.hold = s.cpt.hold ∧
    (enterPowerFault s).cpt.crst = s.cpt.crst ∧ (enterPowerFault s).pins = s.pins ∧
    (enterPowerFault s).pinsAhead = s.pinsAhead ∧
    (enterPowerFault s).pending = s.pending := by
  unfold enterPowerFault; dsimp only; simp

@[simp] theorem enterConflict_frame (s : State) (c : ConflictCause) :
    (enterConflict c s).bau.tickCount = s.bau.tickCount ∧
    (enterConflict c s).txs.drainedReported = s.txs.drainedReported ∧
    (enterConflict c s).rxp.readyLevel = s.rxp.readyLevel ∧ (enterConflict c s).rxp.groups = s.rxp.groups ∧
    (enterConflict c s).tmu.time = s.tmu.time ∧ (enterConflict c s).tmu.residue = s.tmu.residue ∧
    (enterConflict c s).tmu.integral = s.tmu.integral ∧ (enterConflict c s).tmu.everLocked = s.tmu.everLocked ∧
    (enterConflict c s).tmu.lockCount = s.tmu.lockCount ∧
    (enterConflict c s).tmu.rateLimitCount = s.tmu.rateLimitCount ∧
    (enterConflict c s).tmu.lastError = s.tmu.lastError ∧ (enterConflict c s).tmu.settings = s.tmu.settings ∧
    (enterConflict c s).tmu.label = s.tmu.label ∧ (enterConflict c s).tmu.lastRef = s.tmu.lastRef ∧
    (enterConflict c s).src.quality = s.src.quality ∧ (enterConflict c s).src.priority = s.src.priority ∧
    (enterConflict c s).src.capable = s.src.capable ∧ (enterConflict c s).sec.withdrawCause = s.sec.withdrawCause ∧
    (enterConflict c s).sec.forceCause = s.sec.forceCause ∧
    (enterConflict c s).sec.recordLoaded = s.sec.recordLoaded ∧
    (enterConflict c s).sec.slotHeard = s.sec.slotHeard ∧
    (enterConflict c s).sec.ejectorOpened = s.sec.ejectorOpened ∧ (enterConflict c s).sec.seat = s.sec.seat ∧
    (enterConflict c s).sec.eject = s.sec.eject ∧ (enterConflict c s).sec.pgood = s.sec.pgood ∧
    (enterConflict c s).sec.pwren = s.sec.pwren ∧ (enterConflict c s).alu.alert = s.alu.alert ∧
    (enterConflict c s).alu.collector = s.alu.collector ∧ (enterConflict c s).cpt.bits = s.cpt.bits ∧
    (enterConflict c s).cpt.parser = s.cpt.parser ∧
    (enterConflict c s).cpt.incoming = s.cpt.incoming ∧ (enterConflict c s).cpt.replies = s.cpt.replies ∧
    (enterConflict c s).cpt.outgoing = s.cpt.outgoing ∧ (enterConflict c s).cpt.eventMap = s.cpt.eventMap ∧
    (enterConflict c s).cpt.hold = s.cpt.hold ∧ (enterConflict c s).cpt.crst = s.cpt.crst ∧
    (enterConflict c s).pins = s.pins ∧ (enterConflict c s).pinsAhead = s.pinsAhead ∧
    (enterConflict c s).pending = s.pending := by
  unfold enterConflict; dsimp only; simp

@[simp] theorem enterIsolated_frame (s : State) :
    (enterIsolated s).bau.tickCount = s.bau.tickCount ∧
    (enterIsolated s).txs.drainedReported = s.txs.drainedReported ∧
    (enterIsolated s).rxp.readyLevel = s.rxp.readyLevel ∧ (enterIsolated s).rxp.groups = s.rxp.groups ∧
    (enterIsolated s).tmu.time = s.tmu.time ∧ (enterIsolated s).tmu.residue = s.tmu.residue ∧
    (enterIsolated s).tmu.integral = s.tmu.integral ∧ (enterIsolated s).tmu.everLocked = s.tmu.everLocked ∧
    (enterIsolated s).tmu.lockCount = s.tmu.lockCount ∧
    (enterIsolated s).tmu.rateLimitCount = s.tmu.rateLimitCount ∧
    (enterIsolated s).tmu.lastError = s.tmu.lastError ∧ (enterIsolated s).tmu.settings = s.tmu.settings ∧
    (enterIsolated s).tmu.label = s.tmu.label ∧ (enterIsolated s).tmu.lastRef = s.tmu.lastRef ∧
    (enterIsolated s).src.quality = s.src.quality ∧ (enterIsolated s).src.priority = s.src.priority ∧
    (enterIsolated s).src.capable = s.src.capable ∧ (enterIsolated s).sec.withdrawCause = s.sec.withdrawCause ∧
    (enterIsolated s).sec.forceCause = s.sec.forceCause ∧
    (enterIsolated s).sec.conflictCause = s.sec.conflictCause ∧
    (enterIsolated s).sec.recordLoaded = s.sec.recordLoaded ∧ (enterIsolated s).sec.slotHeard = s.sec.slotHeard ∧
    (enterIsolated s).sec.ejectorOpened = s.sec.ejectorOpened ∧ (enterIsolated s).sec.seat = s.sec.seat ∧
    (enterIsolated s).sec.eject = s.sec.eject ∧ (enterIsolated s).sec.pgood = s.sec.pgood ∧
    (enterIsolated s).sec.pwren = s.sec.pwren ∧ (enterIsolated s).alu.alert = s.alu.alert ∧
    (enterIsolated s).alu.collector = s.alu.collector ∧ (enterIsolated s).cpt.bits = s.cpt.bits ∧
    (enterIsolated s).cpt.parser = s.cpt.parser ∧
    (enterIsolated s).cpt.incoming = s.cpt.incoming ∧ (enterIsolated s).cpt.replies = s.cpt.replies ∧
    (enterIsolated s).cpt.outgoing = s.cpt.outgoing ∧ (enterIsolated s).cpt.eventMap = s.cpt.eventMap ∧
    (enterIsolated s).cpt.hold = s.cpt.hold ∧ (enterIsolated s).cpt.crst = s.cpt.crst ∧
    (enterIsolated s).pins = s.pins ∧ (enterIsolated s).pinsAhead = s.pinsAhead ∧
    (enterIsolated s).pending = s.pending := by
  unfold enterIsolated; simp

@[simp] theorem enterForced_frame (s : State) (c : ForceCause) :
    (enterForced c s).bau.tickCount = s.bau.tickCount ∧
    (enterForced c s).txs.drainedReported = s.txs.drainedReported ∧
    (enterForced c s).rxp.readyLevel = s.rxp.readyLevel ∧ (enterForced c s).rxp.groups = s.rxp.groups ∧
    (enterForced c s).tmu.time = s.tmu.time ∧ (enterForced c s).tmu.residue = s.tmu.residue ∧
    (enterForced c s).tmu.integral = s.tmu.integral ∧ (enterForced c s).tmu.everLocked = s.tmu.everLocked ∧
    (enterForced c s).tmu.lockCount = s.tmu.lockCount ∧
    (enterForced c s).tmu.rateLimitCount = s.tmu.rateLimitCount ∧
    (enterForced c s).tmu.lastError = s.tmu.lastError ∧ (enterForced c s).tmu.settings = s.tmu.settings ∧
    (enterForced c s).tmu.label = s.tmu.label ∧ (enterForced c s).tmu.lastRef = s.tmu.lastRef ∧
    (enterForced c s).src.quality = s.src.quality ∧ (enterForced c s).src.priority = s.src.priority ∧
    (enterForced c s).src.capable = s.src.capable ∧ (enterForced c s).sec.withdrawCause = s.sec.withdrawCause ∧
    (enterForced c s).sec.conflictCause = s.sec.conflictCause ∧
    (enterForced c s).sec.recordLoaded = s.sec.recordLoaded ∧ (enterForced c s).sec.slotHeard = s.sec.slotHeard ∧
    (enterForced c s).sec.ejectorOpened = s.sec.ejectorOpened ∧ (enterForced c s).sec.seat = s.sec.seat ∧
    (enterForced c s).sec.eject = s.sec.eject ∧ (enterForced c s).sec.pgood = s.sec.pgood ∧
    (enterForced c s).sec.pwren = s.sec.pwren ∧ (enterForced c s).alu.alert = s.alu.alert ∧
    (enterForced c s).alu.collector = s.alu.collector ∧ (enterForced c s).cpt.bits = s.cpt.bits ∧
    (enterForced c s).cpt.parser = s.cpt.parser ∧
    (enterForced c s).cpt.incoming = s.cpt.incoming ∧ (enterForced c s).cpt.replies = s.cpt.replies ∧
    (enterForced c s).cpt.outgoing = s.cpt.outgoing ∧ (enterForced c s).cpt.eventMap = s.cpt.eventMap ∧
    (enterForced c s).cpt.hold = s.cpt.hold ∧ (enterForced c s).cpt.crst = s.cpt.crst ∧
    (enterForced c s).pins = s.pins ∧ (enterForced c s).pinsAhead = s.pinsAhead ∧
    (enterForced c s).pending = s.pending := by
  unfold enterForced; simp

@[simp] theorem enterDraining_frame (s : State) (c : WithdrawCause) :
    (enterDraining c s).bau.tickCount = s.bau.tickCount ∧ (enterDraining c s).rxp.readyLevel = s.rxp.readyLevel ∧
    (enterDraining c s).rxp.groups = s.rxp.groups ∧ (enterDraining c s).tmu.time = s.tmu.time ∧
    (enterDraining c s).tmu.residue = s.tmu.residue ∧ (enterDraining c s).tmu.integral = s.tmu.integral ∧
    (enterDraining c s).tmu.everLocked = s.tmu.everLocked ∧ (enterDraining c s).tmu.lockCount = s.tmu.lockCount ∧
    (enterDraining c s).tmu.rateLimitCount = s.tmu.rateLimitCount ∧
    (enterDraining c s).tmu.lastError = s.tmu.lastError ∧ (enterDraining c s).tmu.settings = s.tmu.settings ∧
    (enterDraining c s).tmu.label = s.tmu.label ∧ (enterDraining c s).tmu.lastRef = s.tmu.lastRef ∧
    (enterDraining c s).src.quality = s.src.quality ∧ (enterDraining c s).src.priority = s.src.priority ∧
    (enterDraining c s).src.capable = s.src.capable ∧ (enterDraining c s).sec.forceCause = s.sec.forceCause ∧
    (enterDraining c s).sec.conflictCause = s.sec.conflictCause ∧
    (enterDraining c s).sec.recordLoaded = s.sec.recordLoaded ∧
    (enterDraining c s).sec.slotHeard = s.sec.slotHeard ∧
    (enterDraining c s).sec.ejectorOpened = s.sec.ejectorOpened ∧ (enterDraining c s).sec.seat = s.sec.seat ∧
    (enterDraining c s).sec.eject = s.sec.eject ∧ (enterDraining c s).sec.pgood = s.sec.pgood ∧
    (enterDraining c s).sec.pwren = s.sec.pwren ∧ (enterDraining c s).alu.alert = s.alu.alert ∧
    (enterDraining c s).alu.collector = s.alu.collector ∧ (enterDraining c s).cpt.bits = s.cpt.bits ∧
    (enterDraining c s).cpt.parser = s.cpt.parser ∧
    (enterDraining c s).cpt.incoming = s.cpt.incoming ∧ (enterDraining c s).cpt.replies = s.cpt.replies ∧
    (enterDraining c s).cpt.outgoing = s.cpt.outgoing ∧ (enterDraining c s).cpt.eventMap = s.cpt.eventMap ∧
    (enterDraining c s).cpt.hold = s.cpt.hold ∧ (enterDraining c s).cpt.crst = s.cpt.crst ∧
    (enterDraining c s).pins = s.pins ∧ (enterDraining c s).pinsAhead = s.pinsAhead ∧
    (enterDraining c s).pending = s.pending := by
  unfold enterDraining; dsimp only; simp

@[simp] theorem enterJoined_frame (s : State) :
    (enterJoined s).bau.tickCount = s.bau.tickCount ∧ (enterJoined s).rxp.readyLevel = s.rxp.readyLevel ∧
    (enterJoined s).rxp.groups = s.rxp.groups ∧ (enterJoined s).tmu.time = s.tmu.time ∧
    (enterJoined s).tmu.residue = s.tmu.residue ∧ (enterJoined s).tmu.integral = s.tmu.integral ∧
    (enterJoined s).tmu.everLocked = s.tmu.everLocked ∧ (enterJoined s).tmu.lockCount = s.tmu.lockCount ∧
    (enterJoined s).tmu.rateLimitCount = s.tmu.rateLimitCount ∧ (enterJoined s).tmu.lastError = s.tmu.lastError ∧
    (enterJoined s).tmu.settings = s.tmu.settings ∧ (enterJoined s).tmu.label = s.tmu.label ∧
    (enterJoined s).tmu.lastRef = s.tmu.lastRef ∧ (enterJoined s).src.quality = s.src.quality ∧
    (enterJoined s).src.priority = s.src.priority ∧ (enterJoined s).src.capable = s.src.capable ∧
    (enterJoined s).sec.recordLoaded = s.sec.recordLoaded ∧ (enterJoined s).sec.slotHeard = s.sec.slotHeard ∧
    (enterJoined s).sec.ejectorOpened = s.sec.ejectorOpened ∧ (enterJoined s).sec.seat = s.sec.seat ∧
    (enterJoined s).sec.eject = s.sec.eject ∧ (enterJoined s).sec.pgood = s.sec.pgood ∧
    (enterJoined s).sec.pwren = s.sec.pwren ∧ (enterJoined s).alu.alert = s.alu.alert ∧
    (enterJoined s).alu.collector = s.alu.collector ∧ (enterJoined s).cpt.bits = s.cpt.bits ∧
    (enterJoined s).cpt.parser = s.cpt.parser ∧
    (enterJoined s).cpt.incoming = s.cpt.incoming ∧ (enterJoined s).cpt.replies = s.cpt.replies ∧
    (enterJoined s).cpt.outgoing = s.cpt.outgoing ∧ (enterJoined s).cpt.eventMap = s.cpt.eventMap ∧
    (enterJoined s).cpt.hold = s.cpt.hold ∧ (enterJoined s).cpt.crst = s.cpt.crst ∧
    (enterJoined s).pins = s.pins ∧ (enterJoined s).pinsAhead = s.pinsAhead ∧
    (enterJoined s).pending = s.pending := by
  unfold enterJoined; dsimp only; (repeat' split) <;> simp

@[simp] theorem enterJoining_frame (s : State) :
    (enterJoining s).bau.tickCount = s.bau.tickCount ∧
    (enterJoining s).txs.drainedReported = s.txs.drainedReported ∧
    (enterJoining s).rxp.readyLevel = s.rxp.readyLevel ∧ (enterJoining s).rxp.groups = s.rxp.groups ∧
    (enterJoining s).tmu.time = s.tmu.time ∧ (enterJoining s).tmu.residue = s.tmu.residue ∧
    (enterJoining s).tmu.integral = s.tmu.integral ∧ (enterJoining s).tmu.everLocked = s.tmu.everLocked ∧
    (enterJoining s).tmu.lockCount = s.tmu.lockCount ∧ (enterJoining s).tmu.rateLimitCount = s.tmu.rateLimitCount ∧
    (enterJoining s).tmu.lastError = s.tmu.lastError ∧ (enterJoining s).tmu.settings = s.tmu.settings ∧
    (enterJoining s).tmu.label = s.tmu.label ∧ (enterJoining s).tmu.lastRef = s.tmu.lastRef ∧
    (enterJoining s).src.quality = s.src.quality ∧ (enterJoining s).src.priority = s.src.priority ∧
    (enterJoining s).src.capable = s.src.capable ∧ (enterJoining s).sec.withdrawCause = s.sec.withdrawCause ∧
    (enterJoining s).sec.forceCause = s.sec.forceCause ∧ (enterJoining s).sec.conflictCause = s.sec.conflictCause ∧
    (enterJoining s).sec.recordLoaded = s.sec.recordLoaded ∧ (enterJoining s).sec.slotHeard = s.sec.slotHeard ∧
    (enterJoining s).sec.ejectorOpened = s.sec.ejectorOpened ∧ (enterJoining s).sec.seat = s.sec.seat ∧
    (enterJoining s).sec.eject = s.sec.eject ∧ (enterJoining s).sec.pgood = s.sec.pgood ∧
    (enterJoining s).sec.pwren = s.sec.pwren ∧ (enterJoining s).alu.alert = s.alu.alert ∧
    (enterJoining s).alu.collector = s.alu.collector ∧ (enterJoining s).cpt.bits = s.cpt.bits ∧
    (enterJoining s).cpt.parser = s.cpt.parser ∧
    (enterJoining s).cpt.incoming = s.cpt.incoming ∧ (enterJoining s).cpt.replies = s.cpt.replies ∧
    (enterJoining s).cpt.outgoing = s.cpt.outgoing ∧ (enterJoining s).cpt.eventMap = s.cpt.eventMap ∧
    (enterJoining s).cpt.hold = s.cpt.hold ∧ (enterJoining s).cpt.crst = s.cpt.crst ∧
    (enterJoining s).pins = s.pins ∧ (enterJoining s).pinsAhead = s.pinsAhead ∧
    (enterJoining s).pending = s.pending := by
  unfold enterJoining; simp

@[simp] theorem enterUnseated_frame (s : State) :
    (enterUnseated s).bau.tickCount = s.bau.tickCount ∧
    (enterUnseated s).txs.drainedReported = s.txs.drainedReported ∧
    (enterUnseated s).rxp.readyLevel = s.rxp.readyLevel ∧ (enterUnseated s).rxp.groups = s.rxp.groups ∧
    (enterUnseated s).tmu.time = s.tmu.time ∧ (enterUnseated s).tmu.residue = s.tmu.residue ∧
    (enterUnseated s).tmu.integral = s.tmu.integral ∧ (enterUnseated s).tmu.everLocked = s.tmu.everLocked ∧
    (enterUnseated s).tmu.lockCount = s.tmu.lockCount ∧
    (enterUnseated s).tmu.rateLimitCount = s.tmu.rateLimitCount ∧
    (enterUnseated s).tmu.lastError = s.tmu.lastError ∧ (enterUnseated s).tmu.settings = s.tmu.settings ∧
    (enterUnseated s).tmu.label = s.tmu.label ∧ (enterUnseated s).tmu.lastRef = s.tmu.lastRef ∧
    (enterUnseated s).src.quality = s.src.quality ∧ (enterUnseated s).src.priority = s.src.priority ∧
    (enterUnseated s).src.capable = s.src.capable ∧ (enterUnseated s).sec.recordLoaded = s.sec.recordLoaded ∧
    (enterUnseated s).sec.seat = s.sec.seat ∧ (enterUnseated s).sec.eject = s.sec.eject ∧
    (enterUnseated s).sec.pgood = s.sec.pgood ∧ (enterUnseated s).alu.alert = s.alu.alert ∧
    (enterUnseated s).cpt.bits = s.cpt.bits ∧
    (enterUnseated s).cpt.parser = s.cpt.parser ∧ (enterUnseated s).cpt.incoming = s.cpt.incoming ∧
    (enterUnseated s).cpt.replies = s.cpt.replies ∧ (enterUnseated s).cpt.outgoing = s.cpt.outgoing ∧
    (enterUnseated s).cpt.eventMap = s.cpt.eventMap ∧ (enterUnseated s).cpt.hold = s.cpt.hold ∧
    (enterUnseated s).cpt.crst = s.cpt.crst ∧ (enterUnseated s).pins = s.pins ∧
    (enterUnseated s).pinsAhead = s.pinsAhead ∧
    (enterUnseated s).pending = s.pending := by
  unfold enterUnseated; dsimp only; simp

@[simp] theorem ownSlotHeard_frame (s : State) :
    (ownSlotHeard s).bau.tickCount = s.bau.tickCount ∧
    (ownSlotHeard s).txs.drainedReported = s.txs.drainedReported ∧
    (ownSlotHeard s).rxp.readyLevel = s.rxp.readyLevel ∧ (ownSlotHeard s).rxp.groups = s.rxp.groups ∧
    (ownSlotHeard s).tmu.time = s.tmu.time ∧ (ownSlotHeard s).tmu.residue = s.tmu.residue ∧
    (ownSlotHeard s).tmu.integral = s.tmu.integral ∧ (ownSlotHeard s).tmu.everLocked = s.tmu.everLocked ∧
    (ownSlotHeard s).tmu.lockCount = s.tmu.lockCount ∧ (ownSlotHeard s).tmu.rateLimitCount = s.tmu.rateLimitCount ∧
    (ownSlotHeard s).tmu.lastError = s.tmu.lastError ∧ (ownSlotHeard s).tmu.settings = s.tmu.settings ∧
    (ownSlotHeard s).tmu.label = s.tmu.label ∧ (ownSlotHeard s).tmu.lastRef = s.tmu.lastRef ∧
    (ownSlotHeard s).src.quality = s.src.quality ∧ (ownSlotHeard s).src.priority = s.src.priority ∧
    (ownSlotHeard s).src.capable = s.src.capable ∧ (ownSlotHeard s).sec.withdrawCause = s.sec.withdrawCause ∧
    (ownSlotHeard s).sec.forceCause = s.sec.forceCause ∧ (ownSlotHeard s).sec.recordLoaded = s.sec.recordLoaded ∧
    (ownSlotHeard s).sec.ejectorOpened = s.sec.ejectorOpened ∧ (ownSlotHeard s).sec.seat = s.sec.seat ∧
    (ownSlotHeard s).sec.eject = s.sec.eject ∧ (ownSlotHeard s).sec.pgood = s.sec.pgood ∧
    (ownSlotHeard s).sec.pwren = s.sec.pwren ∧ (ownSlotHeard s).alu.alert = s.alu.alert ∧
    (ownSlotHeard s).alu.collector = s.alu.collector ∧ (ownSlotHeard s).cpt.bits = s.cpt.bits ∧
    (ownSlotHeard s).cpt.parser = s.cpt.parser ∧
    (ownSlotHeard s).cpt.incoming = s.cpt.incoming ∧ (ownSlotHeard s).cpt.replies = s.cpt.replies ∧
    (ownSlotHeard s).cpt.outgoing = s.cpt.outgoing ∧ (ownSlotHeard s).cpt.eventMap = s.cpt.eventMap ∧
    (ownSlotHeard s).cpt.hold = s.cpt.hold ∧ (ownSlotHeard s).cpt.crst = s.cpt.crst ∧
    (ownSlotHeard s).pins = s.pins ∧ (ownSlotHeard s).pinsAhead = s.pinsAhead ∧
    (ownSlotHeard s).pending = s.pending := by
  unfold ownSlotHeard; (repeat' split) <;> simp

@[simp] theorem duplicateSuspected_frame (s : State) :
    (duplicateSuspected s).bau.tickCount = s.bau.tickCount ∧
    (duplicateSuspected s).txs.drainedReported = s.txs.drainedReported ∧
    (duplicateSuspected s).rxp.readyLevel = s.rxp.readyLevel ∧ (duplicateSuspected s).rxp.groups = s.rxp.groups ∧
    (duplicateSuspected s).tmu.time = s.tmu.time ∧ (duplicateSuspected s).tmu.residue = s.tmu.residue ∧
    (duplicateSuspected s).tmu.integral = s.tmu.integral ∧
    (duplicateSuspected s).tmu.everLocked = s.tmu.everLocked ∧
    (duplicateSuspected s).tmu.lockCount = s.tmu.lockCount ∧
    (duplicateSuspected s).tmu.rateLimitCount = s.tmu.rateLimitCount ∧
    (duplicateSuspected s).tmu.lastError = s.tmu.lastError ∧ (duplicateSuspected s).tmu.settings = s.tmu.settings ∧
    (duplicateSuspected s).tmu.label = s.tmu.label ∧ (duplicateSuspected s).tmu.lastRef = s.tmu.lastRef ∧
    (duplicateSuspected s).src.quality = s.src.quality ∧ (duplicateSuspected s).src.priority = s.src.priority ∧
    (duplicateSuspected s).src.capable = s.src.capable ∧
    (duplicateSuspected s).sec.withdrawCause = s.sec.withdrawCause ∧
    (duplicateSuspected s).sec.forceCause = s.sec.forceCause ∧
    (duplicateSuspected s).sec.recordLoaded = s.sec.recordLoaded ∧
    (duplicateSuspected s).sec.slotHeard = s.sec.slotHeard ∧
    (duplicateSuspected s).sec.ejectorOpened = s.sec.ejectorOpened ∧ (duplicateSuspected s).sec.seat = s.sec.seat ∧
    (duplicateSuspected s).sec.eject = s.sec.eject ∧ (duplicateSuspected s).sec.pgood = s.sec.pgood ∧
    (duplicateSuspected s).sec.pwren = s.sec.pwren ∧ (duplicateSuspected s).alu.alert = s.alu.alert ∧
    (duplicateSuspected s).alu.collector = s.alu.collector ∧ (duplicateSuspected s).cpt.bits = s.cpt.bits ∧
    (duplicateSuspected s).cpt.parser = s.cpt.parser ∧
    (duplicateSuspected s).cpt.incoming = s.cpt.incoming ∧ (duplicateSuspected s).cpt.replies = s.cpt.replies ∧
    (duplicateSuspected s).cpt.outgoing = s.cpt.outgoing ∧ (duplicateSuspected s).cpt.eventMap = s.cpt.eventMap ∧
    (duplicateSuspected s).cpt.hold = s.cpt.hold ∧ (duplicateSuspected s).cpt.crst = s.cpt.crst ∧
    (duplicateSuspected s).pins = s.pins ∧ (duplicateSuspected s).pinsAhead = s.pinsAhead ∧
    (duplicateSuspected s).pending = s.pending := by
  unfold duplicateSuspected; (repeat' split) <;> simp

@[simp] theorem joinTransmitted_frame (s : State) :
    (joinTransmitted s).bau.tickCount = s.bau.tickCount ∧ (joinTransmitted s).rxp.readyLevel = s.rxp.readyLevel ∧
    (joinTransmitted s).rxp.groups = s.rxp.groups ∧ (joinTransmitted s).tmu.time = s.tmu.time ∧
    (joinTransmitted s).tmu.residue = s.tmu.residue ∧ (joinTransmitted s).tmu.integral = s.tmu.integral ∧
    (joinTransmitted s).tmu.everLocked = s.tmu.everLocked ∧ (joinTransmitted s).tmu.lockCount = s.tmu.lockCount ∧
    (joinTransmitted s).tmu.rateLimitCount = s.tmu.rateLimitCount ∧
    (joinTransmitted s).tmu.lastError = s.tmu.lastError ∧ (joinTransmitted s).tmu.settings = s.tmu.settings ∧
    (joinTransmitted s).tmu.label = s.tmu.label ∧ (joinTransmitted s).tmu.lastRef = s.tmu.lastRef ∧
    (joinTransmitted s).src.quality = s.src.quality ∧ (joinTransmitted s).src.priority = s.src.priority ∧
    (joinTransmitted s).src.capable = s.src.capable ∧ (joinTransmitted s).sec.recordLoaded = s.sec.recordLoaded ∧
    (joinTransmitted s).sec.slotHeard = s.sec.slotHeard ∧
    (joinTransmitted s).sec.ejectorOpened = s.sec.ejectorOpened ∧ (joinTransmitted s).sec.seat = s.sec.seat ∧
    (joinTransmitted s).sec.eject = s.sec.eject ∧ (joinTransmitted s).sec.pgood = s.sec.pgood ∧
    (joinTransmitted s).sec.pwren = s.sec.pwren ∧ (joinTransmitted s).alu.alert = s.alu.alert ∧
    (joinTransmitted s).alu.collector = s.alu.collector ∧ (joinTransmitted s).cpt.bits = s.cpt.bits ∧
    (joinTransmitted s).cpt.parser = s.cpt.parser ∧
    (joinTransmitted s).cpt.incoming = s.cpt.incoming ∧ (joinTransmitted s).cpt.replies = s.cpt.replies ∧
    (joinTransmitted s).cpt.outgoing = s.cpt.outgoing ∧ (joinTransmitted s).cpt.eventMap = s.cpt.eventMap ∧
    (joinTransmitted s).cpt.hold = s.cpt.hold ∧ (joinTransmitted s).cpt.crst = s.cpt.crst ∧
    (joinTransmitted s).pins = s.pins ∧ (joinTransmitted s).pinsAhead = s.pinsAhead ∧
    (joinTransmitted s).pending = s.pending := by
  unfold joinTransmitted; (repeat' split) <;> simp

@[simp] theorem goneTransmitted_frame (s : State) :
    (goneTransmitted s).bau.tickCount = s.bau.tickCount ∧
    (goneTransmitted s).txs.drainedReported = s.txs.drainedReported ∧
    (goneTransmitted s).rxp.readyLevel = s.rxp.readyLevel ∧ (goneTransmitted s).rxp.groups = s.rxp.groups ∧
    (goneTransmitted s).tmu.time = s.tmu.time ∧ (goneTransmitted s).tmu.residue = s.tmu.residue ∧
    (goneTransmitted s).tmu.integral = s.tmu.integral ∧ (goneTransmitted s).tmu.everLocked = s.tmu.everLocked ∧
    (goneTransmitted s).tmu.lockCount = s.tmu.lockCount ∧
    (goneTransmitted s).tmu.rateLimitCount = s.tmu.rateLimitCount ∧
    (goneTransmitted s).tmu.lastError = s.tmu.lastError ∧ (goneTransmitted s).tmu.settings = s.tmu.settings ∧
    (goneTransmitted s).tmu.label = s.tmu.label ∧ (goneTransmitted s).tmu.lastRef = s.tmu.lastRef ∧
    (goneTransmitted s).src.quality = s.src.quality ∧ (goneTransmitted s).src.priority = s.src.priority ∧
    (goneTransmitted s).src.capable = s.src.capable ∧ (goneTransmitted s).sec.recordLoaded = s.sec.recordLoaded ∧
    (goneTransmitted s).sec.seat = s.sec.seat ∧ (goneTransmitted s).sec.eject = s.sec.eject ∧
    (goneTransmitted s).sec.pgood = s.sec.pgood ∧ (goneTransmitted s).alu.alert = s.alu.alert ∧
    (goneTransmitted s).alu.collector = s.alu.collector ∧ (goneTransmitted s).cpt.bits = s.cpt.bits ∧
    (goneTransmitted s).cpt.parser = s.cpt.parser ∧
    (goneTransmitted s).cpt.incoming = s.cpt.incoming ∧ (goneTransmitted s).cpt.replies = s.cpt.replies ∧
    (goneTransmitted s).cpt.outgoing = s.cpt.outgoing ∧ (goneTransmitted s).cpt.eventMap = s.cpt.eventMap ∧
    (goneTransmitted s).cpt.hold = s.cpt.hold ∧ (goneTransmitted s).cpt.crst = s.cpt.crst ∧
    (goneTransmitted s).pins = s.pins ∧ (goneTransmitted s).pinsAhead = s.pinsAhead ∧
    (goneTransmitted s).pending = s.pending := by
  unfold goneTransmitted; (repeat' split) <;> simp

@[simp] theorem becomeEjector_frame (s : State) :
    (becomeEjector s).bau = s.bau ∧ (becomeEjector s).txs = s.txs ∧ (becomeEjector s).rxp = s.rxp ∧
    (becomeEjector s).ptb = s.ptb ∧ (becomeEjector s).tmu = s.tmu ∧ (becomeEjector s).src = s.src ∧
    (becomeEjector s).sec.state = s.sec.state ∧ (becomeEjector s).sec.forceCause = s.sec.forceCause ∧
    (becomeEjector s).sec.conflictCause = s.sec.conflictCause ∧
    (becomeEjector s).sec.recordLoaded = s.sec.recordLoaded ∧ (becomeEjector s).sec.slotHeard = s.sec.slotHeard ∧
    (becomeEjector s).sec.ejectorOpened = s.sec.ejectorOpened ∧
    (becomeEjector s).sec.powerGoodTimer = s.sec.powerGoodTimer ∧
    (becomeEjector s).sec.listenTimer = s.sec.listenTimer ∧ (becomeEjector s).sec.drainTimer = s.sec.drainTimer ∧
    (becomeEjector s).sec.goneTimer = s.sec.goneTimer ∧ (becomeEjector s).sec.noticeTimer = s.sec.noticeTimer ∧
    (becomeEjector s).sec.seat = s.sec.seat ∧ (becomeEjector s).sec.eject = s.sec.eject ∧
    (becomeEjector s).sec.pgood = s.sec.pgood ∧ (becomeEjector s).sec.pwren = s.sec.pwren ∧
    (becomeEjector s).sec.drven = s.sec.drven ∧ (becomeEjector s).sec.rmvok = s.sec.rmvok ∧
    (becomeEjector s).alu = s.alu ∧ (becomeEjector s).cpt.bits = s.cpt.bits ∧
    (becomeEjector s).cpt.parser = s.cpt.parser ∧
    (becomeEjector s).cpt.incoming = s.cpt.incoming ∧ (becomeEjector s).cpt.replies = s.cpt.replies ∧
    (becomeEjector s).cpt.outgoing = s.cpt.outgoing ∧ (becomeEjector s).cpt.results = s.cpt.results ∧
    (becomeEjector s).cpt.eventMap = s.cpt.eventMap ∧ (becomeEjector s).cpt.hold = s.cpt.hold ∧
    (becomeEjector s).cpt.crst = s.cpt.crst ∧ (becomeEjector s).stl = s.stl ∧
    (becomeEjector s).counters = s.counters ∧ (becomeEjector s).pins = s.pins ∧
    (becomeEjector s).pinsAhead = s.pinsAhead ∧
    (becomeEjector s).pending = s.pending := by
  unfold becomeEjector; simp

/-! ### No operation takes an event out of the pending set (R186) -/

@[simp] theorem enterBase_events (s : State) (n : Seating) {a : EventKind} (h : a ∈ s.cpt.events) :
    a ∈ (enterBase n s).cpt.events := by
  unfold enterBase; dsimp only; (repeat' split) <;>
    (repeat (first | with_reducible apply signal_events | simp [h] | exact h))

@[simp] theorem enterQueues_events (s : State) (n : Seating) {a : EventKind} (h : a ∈ s.cpt.events) :
    a ∈ (enterQueues n s).cpt.events := by
  unfold enterQueues; (repeat' split) <;>
    (repeat (first | with_reducible apply purgeWithdrawn_events | simp [h] | exact h))

@[simp] theorem cutFrame_events (s : State) (t : Transmission) {a : EventKind} (h : a ∈ s.cpt.events) :
    a ∈ (cutFrame t s).cpt.events := by
  unfold cutFrame; dsimp only;
    (repeat (first | with_reducible apply bump_events | with_reducible apply lostOutcome_events | simp [h] | exact h))

@[simp] theorem enterCut_events (s : State) (n : Seating) {a : EventKind} (h : a ∈ s.cpt.events) :
    a ∈ (enterCut n s).cpt.events := by
  unfold enterCut; (repeat' split) <;>
    (repeat (first | with_reducible apply cutFrame_events | simp [h] | exact h))

@[simp] theorem dropAwaited_events (s : State) {a : EventKind} (h : a ∈ s.cpt.events) :
    a ∈ (dropAwaited s).cpt.events := by
  unfold dropAwaited; dsimp only; (repeat' split) <;>
    (repeat (first | with_reducible apply lostOutcome_events | simp [h] | exact h))

@[simp] theorem enterBus_events (s : State) (n : Seating) {a : EventKind} (h : a ∈ s.cpt.events) :
    a ∈ (enterBus n s).cpt.events := by
  unfold enterBus; dsimp only; (repeat' split) <;>
    (repeat (first | with_reducible apply enterCut_events | with_reducible apply dropAwaited_events | with_reducible apply takeEnding_events | simp [h] | exact h))

@[simp] theorem enterPool_events (s : State) (n : Seating) {a : EventKind} (h : a ∈ s.cpt.events) :
    a ∈ (enterPool n s).cpt.events := by
  unfold enterPool; (repeat' split) <;>
    (repeat (first | with_reducible apply poolSeatLoss_events | simp [h] | exact h))

@[simp] theorem enterPeers_events (s : State) (n : Seating) {a : EventKind} (h : a ∈ s.cpt.events) :
    a ∈ (enterPeers n s).cpt.events := by
  unfold enterPeers; (repeat' split) <;>
    (repeat (first | with_reducible apply clearTable_events | simp [h] | exact h))

@[simp] theorem enterSources_events (s : State) (o n : Seating) {a : EventKind} (h : a ∈ s.cpt.events) :
    a ∈ (enterSources o n s).cpt.events := by
  unfold enterSources; (repeat' split) <;>
    (repeat (first | with_reducible apply clearSources_events | with_reducible apply sourcesJoined_events | with_reducible apply sourcesLeft_events | simp [h] | exact h))

@[simp] theorem leaveAlarms_events (s : State) (o : Seating) {a : EventKind} (h : a ∈ s.cpt.events) :
    a ∈ (leaveAlarms o s).cpt.events := by
  unfold leaveAlarms; (repeat' split) <;>
    (repeat (first | with_reducible apply clearKey_events | simp [h] | exact h))

@[simp] theorem enterState_events (s : State) (n : Seating) {a : EventKind} (h : a ∈ s.cpt.events) :
    a ∈ (enterState n s).cpt.events := by
  unfold enterState; dsimp only;
    (repeat (first | with_reducible apply enterBase_events | with_reducible apply enterQueues_events | with_reducible apply enterBus_events | with_reducible apply enterPool_events | with_reducible apply enterPeers_events | with_reducible apply enterSources_events | with_reducible apply leaveAlarms_events | simp [h] | exact h))

@[simp] theorem losePower_events (s : State) {a : EventKind} (h : a ∈ s.cpt.events) :
    a ∈ (losePower s).cpt.events := by
  unfold losePower;
    (repeat (first | with_reducible apply raiseInternal_events | simp [h] | exact h))

@[simp] theorem enterListening_events (s : State) {a : EventKind} (h : a ∈ s.cpt.events) :
    a ∈ (enterListening s).cpt.events := by
  unfold enterListening; dsimp only;
    (repeat (first | with_reducible apply clearKey_events | with_reducible apply enterState_events | simp [h] | exact h))

@[simp] theorem enterConfig_events (s : State) {a : EventKind} (h : a ∈ s.cpt.events) :
    a ∈ (enterConfig s).cpt.events := by
  unfold enterConfig; dsimp only;
    (repeat (first | with_reducible apply enterState_events | simp [h] | exact h))

@[simp] theorem powerUp_events (s : State) {a : EventKind} (h : a ∈ s.cpt.events) :
    a ∈ (powerUp s).cpt.events := by
  unfold powerUp; dsimp only; (repeat' split) <;>
    (repeat (first | with_reducible apply clearKey_events | with_reducible apply enterListening_events | with_reducible apply enterConfig_events | simp [h] | exact h))

@[simp] theorem enterPowering_events (s : State) {a : EventKind} (h : a ∈ s.cpt.events) :
    a ∈ (enterPowering s).cpt.events := by
  unfold enterPowering; dsimp only; (repeat' split) <;>
    (repeat (first | with_reducible apply clearKey_events | with_reducible apply enterState_events | with_reducible apply powerUp_events | simp [h] | exact h))

@[simp] theorem startNotice_events (s : State) {a : EventKind} (h : a ∈ s.cpt.events) :
    a ∈ (startNotice s).cpt.events := by
  unfold startNotice;
    (repeat (first | with_reducible apply signal_events | simp [h] | exact h))

@[simp] theorem enterWithdrawn_events (s : State) {a : EventKind} (h : a ∈ s.cpt.events) :
    a ∈ (enterWithdrawn s).cpt.events := by
  unfold enterWithdrawn; dsimp only; (repeat' split) <;>
    (repeat (first | with_reducible apply enterState_events | with_reducible apply enterPowering_events | with_reducible apply startNotice_events | simp [h] | exact h))

@[simp] theorem enterPowerFault_events (s : State) {a : EventKind} (h : a ∈ s.cpt.events) :
    a ∈ (enterPowerFault s).cpt.events := by
  unfold enterPowerFault; dsimp only;
    (repeat (first | with_reducible apply signal_events | with_reducible apply enterState_events | simp [h] | exact h))

@[simp] theorem enterConflict_events (s : State) (c : ConflictCause) {a : EventKind} (h : a ∈ s.cpt.events) :
    a ∈ (enterConflict c s).cpt.events := by
  unfold enterConflict; dsimp only;
    (repeat (first | with_reducible apply signal_events | with_reducible apply raiseInternal_events | with_reducible apply enterState_events | simp [h] | exact h))

@[simp] theorem enterIsolated_events (s : State) {a : EventKind} (h : a ∈ s.cpt.events) :
    a ∈ (enterIsolated s).cpt.events := by
  unfold enterIsolated;
    (repeat (first | with_reducible apply signal_events | with_reducible apply raiseInternal_events | with_reducible apply enterState_events | simp [h] | exact h))

@[simp] theorem enterForced_events (s : State) (c : ForceCause) {a : EventKind} (h : a ∈ s.cpt.events) :
    a ∈ (enterForced c s).cpt.events := by
  unfold enterForced;
    (repeat (first | with_reducible apply enterState_events | simp [h] | exact h))

@[simp] theorem enterDraining_events (s : State) (c : WithdrawCause) {a : EventKind} (h : a ∈ s.cpt.events) :
    a ∈ (enterDraining c s).cpt.events := by
  unfold enterDraining; dsimp only;
    (repeat (first | with_reducible apply enterState_events | simp [h] | exact h))

@[simp] theorem enterJoined_events (s : State) {a : EventKind} (h : a ∈ s.cpt.events) :
    a ∈ (enterJoined s).cpt.events := by
  unfold enterJoined; dsimp only; (repeat' split) <;>
    (repeat (first | with_reducible apply enterState_events | with_reducible apply enterDraining_events | simp [h] | exact h))

@[simp] theorem enterJoining_events (s : State) {a : EventKind} (h : a ∈ s.cpt.events) :
    a ∈ (enterJoining s).cpt.events := by
  unfold enterJoining;
    (repeat (first | with_reducible apply enterState_events | simp [h] | exact h))

@[simp] theorem enterUnseated_events (s : State) {a : EventKind} (h : a ∈ s.cpt.events) :
    a ∈ (enterUnseated s).cpt.events := by
  unfold enterUnseated; dsimp only;
    (repeat (first | with_reducible apply clearKey_events | with_reducible apply enterState_events | simp [h] | exact h))

@[simp] theorem ownSlotHeard_events (s : State) {a : EventKind} (h : a ∈ s.cpt.events) :
    a ∈ (ownSlotHeard s).cpt.events := by
  unfold ownSlotHeard; (repeat' split) <;>
    (repeat (first | with_reducible apply enterConflict_events | simp [h] | exact h))

@[simp] theorem duplicateSuspected_events (s : State) {a : EventKind} (h : a ∈ s.cpt.events) :
    a ∈ (duplicateSuspected s).cpt.events := by
  unfold duplicateSuspected; (repeat' split) <;>
    (repeat (first | with_reducible apply enterConflict_events | simp [h] | exact h))

@[simp] theorem joinTransmitted_events (s : State) {a : EventKind} (h : a ∈ s.cpt.events) :
    a ∈ (joinTransmitted s).cpt.events := by
  unfold joinTransmitted; (repeat' split) <;>
    (repeat (first | with_reducible apply enterJoined_events | simp [h] | exact h))

@[simp] theorem goneTransmitted_events (s : State) {a : EventKind} (h : a ∈ s.cpt.events) :
    a ∈ (goneTransmitted s).cpt.events := by
  unfold goneTransmitted; (repeat' split) <;>
    (repeat (first | with_reducible apply enterWithdrawn_events | with_reducible apply enterPowerFault_events | simp [h] | exact h))

@[simp] theorem becomeEjector_events (s : State) {a : EventKind} (h : a ∈ s.cpt.events) :
    a ∈ (becomeEjector s).cpt.events := by
  unfold becomeEjector;
    (repeat (first | with_reducible apply signal_events | simp [h] | exact h))

end Sys2Proof.Machine
end

