-- ==== Sys2Proof/Laws/Bus.lean ====
section
/-! SUPPORT. What the bus access unit does with an activity that begins (R14), what it drives (R7, R12), and what it does
with a frame heard (R16), for the proofs about the frames of each kind. -/

namespace Sys2Proof.Machine

open Sys2Proof

/-- The state in which the peer table takes a good frame of slot `i`: the view WINDOW, the pointer moved, FRAMES HEARD
counted (R6, R16, R17). -/
def heardState (s : State) (i : Slot) : State := { bump .framesHeard s with bau := heardBus s i }

/-- Out of quiet an activity of another sender opens FRAME (R1, R14). -/
theorem beginActivity_of_quiet {s : State} (h : s.bau.view = .settle ∨ s.bau.view = .claim) (rx : Reception) :
    beginActivity rx s
      = s.setBau (fun b => { b with view := .frame, positionNew := false, rx := some rx, reply := none }) := by
  obtain h | h := h <;> simp [beginActivity, h]

/-- Elsewhere a transition begins nothing (R14). -/
theorem beginActivity_of_not_quiet {s : State} (h1 : s.bau.view ≠ .settle) (h2 : s.bau.view ≠ .claim) (rx : Reception) :
    beginActivity rx s = s := by
  cases h : s.bau.view <;> simp_all [beginActivity]

/-- A frame just begun is still to be driven whole (R7). -/
theorem left_of_begun {x : Transmission} (h0 : x.driven = 0) (hd : x.differed = false) : x.left = x.drive := by
  simp [Transmission.left, h0, hd]

/-- A sender drives nothing more once a collision is detected (R8). -/
@[simp] theorem left_of_differed {x : Transmission} (hd : x.differed = true) : x.left = [] := by
  simp [Transmission.left, hd]

/-- A tick changes of a transmission what has been driven, and whether a collision is detected (R8). -/
theorem tick_fields (levels : List Bool) (x : Transmission) :
    x.tick levels = { x with driven := (x.tick levels).driven, differed := (x.tick levels).differed } := by
  unfold Transmission.tick; split
  · rfl
  · split <;> rfl

/-- A tick in which the pair shows the own drive alone detects nothing (R8). -/
theorem tick_alone {x : Transmission} (hd : x.differed = false) : (x.tick []).differed = false := by
  unfold Transmission.tick
  split
  · exact hd
  · cases (x.compared.drop x.driven) <;> exact hd

/-- What the first difference is: the first place at which a level stands against another one expected (R8). -/
theorem firstDifference_of_some {expected : List (Option Bool)} {levels : List Bool} {j : Nat}
    (h : firstDifference expected levels = some j) :
    (∃ e l, expected[j]? = some (some e) ∧ levels[j]? = some l ∧ e ≠ l)
      ∧ ∀ k < j, ∀ e l, expected[k]? = some (some e) → levels[k]? = some l → e = l := by
  induction expected, levels using firstDifference.induct generalizing j with
  | case1 x xs l ls hx =>
    rw [firstDifference, if_pos hx] at h
    obtain rfl : 0 = j := by simpa using h
    obtain ⟨e, rfl, he⟩ : ∃ e, x = some e ∧ e ≠ l := by cases x <;> simp_all
    exact ⟨⟨e, l, rfl, rfl, he⟩, fun k hk => absurd hk (Nat.not_lt_zero k)⟩
  | case2 x xs l ls hx ih =>
    rw [firstDifference, if_neg hx] at h
    obtain ⟨j', hj', rfl⟩ : ∃ j', firstDifference xs ls = some j' ∧ j' + 1 = j := by simpa using h
    obtain ⟨h1, h2⟩ := ih hj'
    refine ⟨by simpa using h1, fun k hk e l' he hl => ?_⟩
    cases k with
    | zero => cases x <;> simp_all
    | succ k => exact h2 k (by omega) e l' (by simpa using he) (by simpa using hl)
  | case3 xs ls hn => rw [firstDifference.eq_2 _ _ hn] at h; cases h

/-- Where there is no first difference, every level stands as expected (R8). -/
theorem firstDifference_of_none {expected : List (Option Bool)} {levels : List Bool}
    (h : firstDifference expected levels = none) (k : Nat) (e l : Bool) (he : expected[k]? = some (some e))
    (hl : levels[k]? = some l) : e = l := by
  induction expected, levels using firstDifference.induct generalizing k with
  | case1 x xs l' ls hx => rw [firstDifference, if_pos hx] at h; cases h
  | case2 x xs l' ls hx ih =>
    rw [firstDifference, if_neg hx] at h
    cases k with
    | zero => cases x <;> simp_all
    | succ k => exact ih (by simpa using h) k (by simpa using he) (by simpa using hl)
  | case3 xs ls hn =>
    cases xs with
    | nil => simp at he
    | cons x xs =>
      cases ls with
      | nil => simp at hl
      | cons l' ls => exact (hn x xs l' ls rfl rfl).elim

/-- What is compared at a half bit time: nothing in the start marker, and elsewhere up to the release of the end marker
the level of the own drive (R8). -/
theorem compared_getElem (x : Transmission) (n : Nat) :
    x.compared[n]? = if n < 8 then some none
      else if n + 1 < x.drive.length then (x.drive[n]?).map (fun d => some d.level) else none := by
  have hs : startMarker.length = 8 := rfl
  have he : endMarker.dropLast.length = 4 := rfl
  have hl : x.drive.length = 8 + (contentDrive x.header x.claimWord x.body).length + 5 := by
    simp [Transmission.drive, frameDrive, hs, show endMarker.length = 5 from rfl, Nat.add_assoc]
  have hd : x.drive = startMarker ++ (contentDrive x.header x.claimWord x.body ++ endMarker.dropLast) ++ [Drive.release] := by
    rw [Transmission.drive, frameDrive, show endMarker = endMarker.dropLast ++ [Drive.release] from rfl]
    simp [List.append_assoc]
  unfold Transmission.compared
  by_cases h8 : n < 8
  · rw [if_pos h8, List.getElem?_append_left (by simpa [hs] using h8)]
    rw [List.getElem?_map, List.getElem?_eq_getElem (show n < startMarker.length from h8)]
    rfl
  · rw [if_neg h8, List.getElem?_append_right (by simpa [hs] using Nat.not_lt.mp h8), List.length_map, hs]
    by_cases hn : n + 1 < x.drive.length
    · rw [if_pos hn, hd, List.getElem?_append_left (by simp [hs, he]; omega),
        List.getElem?_append_right (by simpa [hs] using Nat.not_lt.mp h8), hs, List.getElem?_map]
    · rw [if_neg hn, List.getElem?_eq_none (by rw [List.length_map, List.length_append, he]; omega)]

/-- A station that sends a frame drives what is left of that frame (R7, R9). -/
theorem pairDrive_of_sending {s : State} {x : Transmission} (h : s.bau.tx = some x) (hc : x.complete = false) :
    s.pairDrive = x.left := by
  have e : s.bau.tx.filter (fun t => !t.complete) = some x := by simp [h, Option.filter, hc]
  unfold State.pairDrive
  rw [e]

/-- A station that sends no frame drives what is left of its reply, if it drives one (R12). -/
theorem pairDrive_of_silent {s : State} (h : ∀ x, s.bau.tx = some x → x.complete = true) :
    s.pairDrive = (s.bau.reply.map ReplyDrive.drive).getD [] := by
  have e : s.bau.tx.filter (fun t => !t.complete) = none := by
    cases hx : s.bau.tx with
    | none => rfl
    | some x => simp [h x hx]
  unfold State.pairDrive
  rw [e]
  cases s.bau.reply <;> rfl

/-- A counted event and a change of the bus access unit do not meet. -/
theorem bump_setBau (i : CounterId) (f : Bau → Bau) (s : State) : bump i (s.setBau f) = (bump i s).setBau f := by
  have hc : (s.setBau f).counter i = s.counter i := rfl
  by_cases h : s.counter i ≠ counterMax ∧ satAdd (s.counter i) 1 = counterMax
  · simp only [bump, bumpBy, hc, if_pos h]; rfl
  · simp only [bump, bumpBy, hc, if_neg h]; rfl

/-- A good frame of another slot goes to the peer table (R15, R16). -/
theorem hearFrame_of_hearing {s : State} {i : Slot} {stamp : FullTime} (h : Hearing s i stamp) (k : FrameKind)
    (body : List Byte) (act : FullTime → State → State) :
    hearFrame i k body act s = reportDrained (hearPeer i k body (act stamp) (heardState s i)) := by
  obtain ⟨h1, h2, h3, h4, h5⟩ := h
  have e : enterWindow (bump .framesHeard (s.setBau (fun b => { b with pointer := s.pointerAfter i }))) = heardState s i := by
    have hb : (bump .framesHeard s).bau = s.bau := by simp
    rw [bump_setBau]
    unfold heardState enterWindow heardBus State.setBau State.pointerAfter
    rw [hb]
  have ho : (heardState s i).ownSlot = s.ownSlot := by simp [heardState, State.ownSlot]
  simp only [hearFrame, h1, h2, h3, Nat.not_le.mpr h4, if_false, takeGood, e, ho, h5]

@[simp] theorem heardState_frame (s : State) (i : Slot) :
    (heardState s i).bau = heardBus s i ∧ (heardState s i).txs = s.txs ∧ (heardState s i).rxp = s.rxp ∧
    (heardState s i).ptb = s.ptb ∧ (heardState s i).tmu = s.tmu ∧ (heardState s i).src = s.src ∧
    (heardState s i).sec = s.sec ∧ (heardState s i).alu = s.alu ∧ (heardState s i).stl = s.stl ∧
    (heardState s i).pins = s.pins ∧ (heardState s i).pinsAhead = s.pinsAhead ∧
    (heardState s i).pending = s.pending ∧ (heardState s i).cpt.results = s.cpt.results ∧
    (heardState s i).cpt.replies = s.cpt.replies ∧ (heardState s i).cpt.incoming = s.cpt.incoming ∧
    (heardState s i).cpt.bits = s.cpt.bits ∧
    (heardState s i).cpt.parser = s.cpt.parser ∧ (heardState s i).cpt.outgoing = s.cpt.outgoing ∧
    (heardState s i).cpt.eventMap = s.cpt.eventMap ∧ (heardState s i).cpt.hold = s.cpt.hold ∧
    (heardState s i).cpt.crst = s.cpt.crst := by
  simp [heardState]

@[simp] theorem heardState_events (s : State) (i : Slot) {a : EventKind} (h : a ∈ s.cpt.events) :
    a ∈ (heardState s i).cpt.events := by simp [heardState, h]

@[simp] theorem heardState_counters_getElem (s : State) (i : Slot) (j : CounterId) (h : j.index.val < 41) :
    (heardState s i).counters[j.index.val]'h =
      if j = .framesHeard then satAdd s.counters[CounterId.framesHeard.index.val] 1 else s.counters[j.index.val]'h := by
  simp [heardState]

/-- A report of drained that is not due leaves the state as it is (R42). -/
theorem reportDrained_of_lawDrained {s t : State} (h : LawDrained s) (h1 : t.sec.state = s.sec.state)
    (h2 : t.txs.drainedReported = s.txs.drainedReported) (h3 : t.queued = s.queued) (h4 : t.bau.tx = s.bau.tx) :
    reportDrained t = t := by
  unfold reportDrained
  rw [if_neg]
  intro hx
  apply h
  rw [h1, h2] at hx
  refine ⟨hx.1, hx.2.1, ?_⟩
  have := hx.2.2
  unfold State.drained at this ⊢
  rw [h3, h4] at this
  exact this

/-- A report of drained acts in DRAINING only (R42). -/
theorem reportDrained_of_ne {s : State} (h : s.sec.state ≠ .draining) : reportDrained s = s := by simp [reportDrained, h]

end Sys2Proof.Machine
end

