-- ==== Sys2Proof/Tests/Slice0.lean ====
section
/-! SUPPORT. The model's own tests: the checks of WellFormed, the spec's worked examples on single steps, and for every
statement with hypotheses a state and operands that meet them. -/

namespace Sys2Proof.Tests

open Sys2Proof Sys2Proof.Machine

set_option Elab.async false -- one thread: each of these theorems waits for the kernel, and would hold a thread of its own

/-! ### Helpers -/

/-- The state a command leaves. -/
def after (c : Instr) (s : State) : State :=
  match exec c s with
  | .next t => t
  | _ => s

/-- The straps of slot 2 in a cabinet of 8, source-capable, a collector. -/
def straps2 : Straps := { slot := 2, parity := false, size := .eight, sourceCapable := true, collector := true }

/-- 1,200 s 500,000,000 ns. -/
def time0 : FullTime := { seconds := 1200, nanoseconds := 500000000, fraction := 0 }

/-- A present peer. -/
def peer0 : PeerEntry := { PeerEntry.cleared with state := .present, age := some 9 }

/-- A conditioned level whose pin has held the other level for the whole filter. -/
def held (level : Bool) : Conditioner := { pin := level, level := !level, count := some 0 }

/-- The same of a pin behind a synchroniser. -/
def heldBehind (level : Bool) : Synchronised := { toConditioner := held level, stage := level }

/-- What a memory that answers delivers. -/
def delivers (bytes : List Byte) : MemoryAnswer :=
  { ackWrite := true, ackHigh := true, ackLow := true, ackRead := true, bytes := bytes }

/-- Bytes as coded bits of an activity. -/
def coded (bytes : List Byte) : List Halves := (bitsOf bytes).map codeBit

/-- Seated in slot 2 with the ejector open. -/
def seated : State :=
  { State.reset with
    stl := { State.reset.stl with straps := some straps2 }
    bau := { State.reset.bau with view := .settle }
    tmu := { State.reset.tmu with time := time0 }
    sec := { State.reset.sec with state := .seated, rmvok := true, seat := .taken true } }

/-- In a seating state with power on, the ejector latched, every seating timer running, and slot 3 present. -/
def inState (x : Seating) : State :=
  ({ seated with
    sec := { seated.sec with
      state := x, drven := drvenIn x, rmvok := rmvokIn x, pwren := true, recordLoaded := true
      eject := .taken true, pgood := .taken true, powerGoodTimer := some 1, listenTimer := some 1, drainTimer := some 1
      goneTimer := some 1, noticeTimer := some 1 }
    stl := { seated.stl with load := if x = .config then some .empty else none } } : State).setPeer 3 peer0

/-- JOINED. -/
def joined : State := inState .joined

/-- With straps that their synchroniser shows. -/
def strapped (x : Straps) (s : State) : State := { s with stl := { s.stl with synchronised := x } }

/-- A frame being received. -/
def hearing (s : State) : State := { s with bau := { s.bau with view := .frame, tx := none, rx := some (.marker time0) } }

/-- The state of a peer set. -/
def withPeer (i : Slot) (x : PeerState) (s : State) : State := s.setPeer i { s.peer i with state := x }

/-- The servo state set. -/
def withServo (v : Servo) (s : State) : State := { s with tmu := { s.tmu with servo := v } }

/-- A FOLLOWER of slot 3. -/
def following (s : State) : State := { s with src := { s.src with selection := some 3, syncTimeout := some 5 } }

/-- With role SOURCE. -/
def sourcing (s : State) : State :=
  { s with src := { s.src with selection := some 2, role := .source, refTimeout := some 5, refSeen := true } }

/-- A queue entry to a destination. -/
def entry0 (d : Dest) : QueueEntry :=
  { tag := 7, dest := d, payload := [1, 2, 3], sequence := some 0, due := none, release := none, released := true,
    attempts := 0, inFlight := false, mark := none, orphan := false }

/-- An own transmission. -/
def own0 (src : TxSource) (d : Dest) (complete : Bool) : Transmission :=
  { source := src, cls := 1, slot := 2, dest := d, sequence := 0, due := none, body := [1, 2, 3], claimWord := 0,
    stamp := time0, complete := complete }

/-- An own internal frame on the pair. -/
def sendingInternal (k : InternalKind) (s : State) : State :=
  { s with
    bau := { s.bau with view := .frame, tx := some (own0 (.internal k) 31 false) }
    txs := { s.txs with slots := s.txs.slots.set k .inFlight } }

/-- An own frame of a class-2 entry with a due time, on the pair or awaiting its reply. -/
def sendingDue (due : Nat) (attempts : Nat) (complete : Bool) (s : State) : State :=
  { s with
    bau := { s.bau with view := if complete then .window else .frame, tx := some (own0 (.card .deadline) 3 complete) }
    txs := { s.txs with
      queues := { s.txs.queues with deadline := [{ entry0 3 with inFlight := true, attempts := attempts, due := some due }] } } }

/-- An own card frame of class 1 on the pair, or awaiting its reply. -/
def sendingCard (d : Dest) (attempts : Nat) (complete : Bool) (s : State) : State :=
  { s with
    bau := { s.bau with view := if complete then .window else .frame, tx := some (own0 (.card .control) d complete) }
    txs := { s.txs with
      queues := { s.txs.queues with control := [entry0 31, { entry0 d with inFlight := true, attempts := attempts }] } } }

/-- The own frame on the pair driven to its end marker. -/
def driven (s : State) : State :=
  { s with bau := { s.bau with tx := s.bau.tx.map (fun t => { t with driven := t.drive.length - 1 }) } }

/-- The own frame on the pair with a collision detected. -/
def differed (s : State) : State :=
  { s with bau := { s.bau with tx := s.bau.tx.map (fun t => { t with differed := true }) } }

/-- An alarm entry. -/
def alarm0 (k : AlarmKey) (st : AlarmState) : AlarmEntry :=
  { key := k, severity := .minor, state := st, raises := 1, firstRaise := 5, lastChange := 5 }

/-- With one alarm entry. -/
def withAlarm (k : AlarmKey) (st : AlarmState) (s : State) : State :=
  { s with alu := { s.alu with table := [alarm0 k st] } }

/-- With the 32 alarm entries of the card codes. -/
def fullTable (st : AlarmState) (v : Severity) (s : State) : State :=
  { s with alu := { s.alu with
      table := (List.range 32).map (fun n => { alarm0 (.card (Fin.ofNat 32 n)) st with severity := v }) } }

/-- A class-2 entry with a due time. -/
def dueEntry (d : Nat) : QueueEntry := { entry0 31 with due := some d, sequence := none }

/-- A SEND of class 1 to slot 3. -/
def send0 : SendRequest :=
  { cls := 1, dest := 3, tag := 9, due := none, release := none, lengthField := 3, payload := [1, 2, 3] }

/-- A frame of class 1 from slot 3. -/
def frame0 (d : Dest) : DataFrame :=
  { source := 3, cls := .control, dest := d, sequence := 4, due := none, payload := [1, 2, 3] }

/-- A claim position at the own rank with SYNC pending. -/
def claiming (k : InternalKind) (p : Nat) (s : State) : State :=
  { s with
    bau := { s.bau with view := .claim, position := Fin.ofNat 64 ((p + 31) % 32), positionNew := false, pointer := 2 }
    txs := { s.txs with slots := s.txs.slots.set k .pending } }

/-! ### WellFormed refuses -/

theorem test_wf_data_payload : (Instr.dataHeard { frame0 2 with payload := List.replicate 1025 0 }).wellFormed = false := by
  decide +kernel
theorem test_wf_broken_activity :
    (Instr.brokenFrame { claim := List.replicate 12 (codeBit true), rest := coded [1, 2, 3, 4, 5] }).wellFormed = false
      ∧ (Instr.frameCut { claim := List.replicate 13 (codeBit true), rest := [] }).wellFormed = false := by decide +kernel
theorem test_wf_start_marker :
    (Instr.startMarkerReceived { delay := 0, levels := List.replicate 4 true }).wellFormed = false
      ∧ (Instr.startMarkerReceived { delay := 0, levels := [false, true, true, true, true] }).wellFormed = true := by
  decide +kernel
theorem test_wf_frame_body : (Instr.syncHeard 3 (List.replicate 1025 0)).wellFormed = false := by decide +kernel
theorem test_wf_window : (Instr.replyWindowEnd (.bits true (List.replicate 17 (codeBit true)))).wellFormed = false
    ∧ (Instr.replyWindowEnd (.bits true [])).wellFormed = false := by decide +kernel
theorem test_wf_record : (Instr.loadComplete (delivers (List.replicate 513 0))).wellFormed = false := by decide +kernel
theorem test_wf_message :
    (Instr.messageComplete []).wellFormed = false
      ∧ (Instr.messageComplete (List.replicate 12321 false)).wellFormed = false
      ∧ (Instr.malformedMessage 2 (some 5)).wellFormed = false := by decide +kernel
theorem test_wf_pins :
    (Instr.powerOn { restPins with pair := List.replicate 5 true }).wellFormed = false
      ∧ (Instr.powerOn restPins).wellFormed = true := by decide +kernel
theorem test_wf_send :
    (Instr.send { send0 with payload := List.replicate 1526 0 }).wellFormed = false := by decide +kernel
theorem test_wf_accepts : (Instr.send send0).wellFormed = true ∧ Instr.tick.wellFormed = true := by decide +kernel

/-! ### The formats -/

/-- The check of R198 over the nine bytes "123456789", worked by hand from the rule (it is the CRC-32 of that string with
neither reflection). -/
theorem test_check : crc32 [0x31, 0x32, 0x33, 0x34, 0x35, 0x36, 0x37, 0x38, 0x39] = 0xFC891918#32 := by decide +kernel

/-- A DATA header written out from R197: kind 1, class 2 in bits 7..6 over slot 5, due time present over destination 17,
sequence 9, length 1, due time. -/
theorem test_header_bytes :
    frameContent { kind := .data, cls := 2, slot := 5, dest := 17, due := some 3999999999, sequence := 9 } [0xAB]
      = [0x01, 0x85, 0x91, 0x09, 0x00, 0x01, 0xEE, 0x6B, 0x27, 0xFF, 0xAB] := by decide +kernel

/-- A SEND and a READ written out from R199. -/
theorem test_message_bytes :
    Message.bytes (.send { cls := 2, dest := 31, tag := 0x1234, due := some 5, release := some .stb, lengthField := 1,
                           payload := [0xAA] })
      = [0xC3, 0x01, 0x00, 0x0C, 0x02, 0x1F, 0x12, 0x34, 0x07, 0x00, 0x00, 0x00, 0x05, 0x00, 0x01, 0xAA]
    ∧ Message.bytes (.read .counters 0 true) = [0xC3, 0x0A, 0x00, 0x03, 0x06, 0x00, 0x01] := by decide +kernel

/-- A refusal REPLY and a RESULT written out from R199 and the code table of section 11.3. -/
theorem test_reply_bytes :
    OutMessage.bytes (.reply (.refusal .queueFull 1 (some 0x1234)))
      = [0xC3, 0x83, 0x00, 0x06, 0x01, 0x07, 0x01, 0x01, 0x12, 0x34]
    ∧ OutMessage.bytes (.result { tag := 0x1234, code := .peerLeft, attempts := 2 })
      = [0xC3, 0x81, 0x00, 0x04, 0x12, 0x34, 0x04, 0x02] := by decide +kernel

/-- The line code of R7, R197 and section 11.1: the claim field of slot 4 in class 1 with claim word 1, the first half
bits a station drives, and the pattern FULL. -/
theorem test_line_code :
    claimBits 1 4 1 = [false, true, false, true, false, false, false, false, false, false, false, true]
      ∧ (frameDrive { kind := .ready, cls := 1, slot := 4, dest := 31, due := none, sequence := 0 } 1 []).take 16
        = [.high, .high, .high, .high, .low, .low, .low, .low, .release, .release, .high, .high, .high, .high, .release,
           .release]
      ∧ ReplyCode.drive .full = [.low, .high, .low, .high, .high, .low, .low, .high, .high, .low, .high, .low, .low, .high,
                                 .high, .low, .release] := by decide +kernel

/-- H is a start marker when it begins out of quiet and holds for two bit times, not for less (R197). -/
theorem test_start_marker :
    let view := fun (levels : List Bool) => (after (.startMarkerReceived { delay := 0, levels := levels }) joined).bau
    (view [false, true, true, true, true, false]).rx = some (.marker time0)
      ∧ (view [false, true, true, true, false, true]).rx = some .stray
      ∧ (view [true, true, true, true, true, true]).rx = some .stray := by decide +kernel

/-- A SYNC sent alone: the pair carries the start marker, the claim bits, the bytes, and H for two bit times; once the
frame is complete, nothing (R7, R197). -/
theorem test_pair_drive :
    let s := after (.claimPositionBegin 0) (claiming .sync 0 joined)
    s.pairDrive.length = 8 + 4 * 12 + 16 * (6 + 10 + 4) + 5 ∧ s.pairDrive.take 5 = [.high, .high, .high, .high, .low]
      ∧ s.pairDrive.drop 376 = [.high, .high, .high, .high, .release] ∧ (after .ownFrameComplete (driven s)).pairDrive = []
      ∧ joined.pairDrive = [] := by decide +kernel

/-- H for two bit times is an end marker at a byte boundary after six bytes, not after five, and not within a byte; the
first one ends the activity (R197). -/
theorem test_end_marker :
    let hh : Halves := { first := true, second := true }
    let a := fun (l : List Halves) => ({ claim := [], rest := l } : Activity).endRecognised
    a (coded [1, 2, 3, 4, 5, 6]) = true ∧ a (coded [1, 2, 3, 4, 5]) = false ∧ a (coded [1, 2, 3, 4, 5, 6] ++ [codeBit true]) = false
      ∧ a (coded [1, 2, 3, 4, 5, 6] ++ List.replicate 8 hh) = false := by decide +kernel

/-- The memory's dialogue of R192 for a record with no item, and for a memory that is not there. -/
theorem test_memory_dialogue :
    loadDialogue (delivers [0xD5, 0x1C, 0, 0, 9, 9]) =
        [.start, .send 0xA0 true, .send 0 true, .send 0 true, .start, .send 0xA1 true, .read 0xD5, .acknowledge, .read 0x1C,
         .acknowledge, .read 0, .acknowledge, .read 0, .withhold, .stop]
      ∧ loadDialogue { delivers [] with ackWrite := false } = [.start, .send 0xA0 false]
      ∧ judgeRecord { delivers [0xD5, 0x1C, 0, 0] with ackLow := false } = .noAnswer := by decide +kernel

/-- The table's rows carry no bits. -/
theorem test_no_word : decodeTableWord 8 0 = none ∧ (joined.withFetchWord 8 1) = joined := by decide +kernel

/-! ### Worked examples of the spec -/

/-- R83: 0 s 6 ns less 4,294,967,295 s 999,999,998 ns is +8 ns. -/
theorem test_difference_wraps :
    FullTime.sub { seconds := 0, nanoseconds := 6, fraction := 0 }
      { seconds := 4294967295, nanoseconds := 999999998, fraction := 0 } = 524288 := by decide +kernel

/-- R84: short time across the wrap of the seconds. -/
theorem test_short_time :
    FullTime.short { seconds := 4294967295, nanoseconds := 999999990, fraction := 0 } = 3999999990
      ∧ dueAhead 3999999995 3999999990 = true ∧ dueAhead 3999999995 3999999998 = false ∧ dueAhead 10 3999999998 = true := by
  decide +kernel

/-- Section 5.10: three ticks with R = 1,000,000 from residue 1,500,000 (each tick alone). -/
theorem test_ticks_across_wrap :
    let t := fun (x : FullTime) (r : Nat) => (after .tick { joined with tmu := { joined.tmu with
      time := x, residue := r, rate := 1000000 } }).tmu
    let x0 : FullTime := { seconds := 4294967295, nanoseconds := 999999990, fraction := 60000 }
    let x1 : FullTime := { seconds := 4294967295, nanoseconds := 999999998, fraction := 60001 }
    let x2 : FullTime := { seconds := 0, nanoseconds := 6, fraction := 60001 }
    let x3 : FullTime := { seconds := 0, nanoseconds := 14, fraction := 60002 }
    ((t x0 1500000).time = x1 ∧ (t x0 1500000).residue = 402848)
      ∧ ((t x1 402848).time = x2 ∧ (t x1 402848).residue = 1402848)
      ∧ ((t x2 1402848).time = x3 ∧ (t x2 1402848).residue = 305696) := by decide +kernel

/-- Section 5.10: STB at its defaults rises at the tick that crosses 0 s 0 ns, for 125 ticks, when time is valid. -/
theorem test_strobe_rises :
    let s := withServo .locked joined
    let t := (after .tick { s with tmu := { s.tmu with
      gateOpen := true, time := { seconds := 4294967295, nanoseconds := 999999998, fraction := 60001 } } }).tmu
    t.stb.output = true ∧ t.stb.left = 125 ∧ t.sta.output = true := by decide +kernel

/-- Section 5.11: the three steps. -/
theorem test_steps_borrow :
    FullTime.add { seconds := 77, nanoseconds := 300, fraction := 0 } (-81920000)
        = { seconds := 76, nanoseconds := 999999050, fraction := 0 }
      ∧ FullTime.add { seconds := 0, nanoseconds := 100, fraction := 0 } (-39321600)
        = { seconds := 4294967295, nanoseconds := 999999500, fraction := 0 }
      ∧ FullTime.add { seconds := 5, nanoseconds := 1000, fraction := 100 } (-39321800)
        = { seconds := 5, nanoseconds := 399, fraction := 65436 } := by decide +kernel

/-- Section 6.9: station 9 updates from a SYNC of slot 2 in ACQUIRE. -/
theorem test_update_in_acquire :
    let s := withServo .acquire { joined with
      stl := { joined.stl with straps := some { slot := 9, parity := true, size := .sixteen, sourceCapable := false,
                                                collector := false } }
      src := { joined.src with selection := some 2, syncTimeout := some 5 } }
    let h : State := { withPeer 2 .present s with bau := { s.bau with
      view := .frame, rx := some (.marker { seconds := 1200, nanoseconds := 500000410, fraction := 32768 }) } }
    let t := after (.syncHeard 2 (beBytes 4 1200 ++ beBytes 4 500000000 ++ [0, 0])) h
    t.tmu.lastError = some (-25100288, .sync) ∧ t.tmu.integral = -421108 ∧ t.tmu.rate = -3789976
      ∧ t.tmu.lockCount = 0 ∧ t.tmu.rateLimitCount = 0 ∧ t.src.syncTimeout = some 31250000
      ∧ t.counter .samples = 1 := by decide +kernel

/-- Section 6.11: the re-lock from HOLDOVER. -/
theorem test_relock_from_holdover :
    let s := withServo .holdover { joined with tmu := { joined.tmu with
      integral := -400000, rate := -400000, holdoverTimer := some 5, everLocked := true } }
    let t := takeSample 13762560 .sync (withAlarm keyT2 .active s)
    t.tmu.servo = .locked ∧ t.tmu.integral = -169105 ∧ t.tmu.rate = 1678055 ∧ t.tmu.holdoverTimer = none
      ∧ (t.alu.table.map AlarmEntry.state) = [.cleared] := by decide +kernel

/-- R93: a pulse stamped 1,201 s 310.5 ns without a label gives -310.5 ns. -/
theorem test_reference_error :
    let x : FullTime := { seconds := 1201, nanoseconds := 310, fraction := 32768 }
    (FullTime.ofSecond (nearestSecond x)).sub x = -20348928 := by decide +kernel

/-- R191: slot 6 with parity 1 is valid in either size; slot 9 with parity 1 is invalid in a cabinet of 8. -/
theorem test_slot_codes :
    strapsValid { slot := 6, parity := true, size := .eight, sourceCapable := false, collector := false } = true
      ∧ strapsValid { slot := 6, parity := true, size := .sixteen, sourceCapable := false, collector := false } = true
      ∧ strapsValid { slot := 9, parity := true, size := .eight, sourceCapable := false, collector := false } = false := by
  decide +kernel

/-- The record of section 10.3. -/
def record103 : List Byte :=
  [0xD5, 0x1C, 7, 4, 0, 0, 0, 50, 12, 2, 0, 0, 1, 1, 90, 40, 3, 0, 0, 0, 1, 1, 60, 13, 6, 9, 0x00, 0x04, 0x93, 0xE0, 0,
   3, 1, 0, 0, 0]

/-- Section 10.3: what the record hands over, and that S1 is not raised. -/
theorem test_record_with_faults :
    let t := after (.loadComplete (delivers record103)) (inState .config)
    t.src.priority = 60 ∧ t.src.quality = 2 ∧ t.src.capable = false ∧ t.rxp.readyLevel = 48 ∧ t.rxp.groups = 0
      ∧ t.tmu.settings = { ServoSettings.default with stepThreshold := 100 }
      ∧ t.tmu.sta.settings = { period := 7, offset := 50000, width := 1 }
      ∧ t.tmu.stb.settings = .stbDefault ∧ t.alu.table = [] ∧ t.sec.state = .listening := by decide +kernel

/-- Section 10.3: a bad marker takes the defaults, leaves the strap standing and S1 CLEARED. -/
theorem test_record_bad_marker :
    let t := after (.loadComplete (delivers [0xD5, 0x1D])) (inState .config)
    t.src.capable = true ∧ t.tmu.settings = .default
      ∧ t.alu.table.map (fun e => (e.key, e.state)) = [(.start, .cleared)] := by decide +kernel

/-- Section 1.9, step 3: with pointer 6 in a cabinet of 8 slot 4 has rank 6, and starts its class-1 frame at position
14. -/
theorem test_rank_and_start :
    let s4 : Straps := { slot := 4, parity := false, size := .eight, sourceCapable := false, collector := false }
    let s : State := { joined with
      stl := { joined.stl with straps := some s4 }
      bau := { joined.bau with view := .claim, position := 13, pointer := 6 }
      txs := { joined.txs with queues := { joined.txs.queues with control := [entry0 31] } } }
    s.rankOf 4 = 6 ∧ (after (.claimPositionBegin 0) s).bau.view = .frame
      ∧ ((after (.claimPositionBegin 0) s).bau.tx.map Transmission.source) = some (.card .control) := by decide +kernel

/-- Section 1.9, step 2: a SUMMARY of slot 5 judged good sets the pointer to 6; with one byte corrupted it is broken by
its check, and the pointer becomes 0. -/
theorem test_pointer_after_frames :
    let h : FrameHeader := { kind := .summary, cls := 1, slot := 5, dest := 31, due := none, sequence := 0 }
    let body : List Byte := [0, 0, 0, 0, 0, 0]
    let bad : Activity := { claim := (h.claim 0).map codeBit, rest := coded ((frameBytes h body).set 8 1) }
    let s : State := { hearing joined with bau := { (hearing joined).bau with pointer := 4 } }
    (after (.summaryHeard 5 body) s).bau.pointer = 6 ∧ (after (.brokenFrame bad) s).bau.pointer = 0
      ∧ (after (.brokenFrame bad) s).counter .checkFaults = 1 := by decide +kernel

/-- R8, R9: the first claim bit of a frame of class 0 is a zero, a recessive half and a dominant one. H in both halves of
the tick that drives it is a collision, L then H is none, and neither is judged before the frame has been driven. -/
theorem test_compared :
    let begun := after (.claimPositionBegin 0) (claiming .sync 0 joined)
    let third := fun (pair : List Bool) =>
      after .tick (after .tick (after .tick { begun with pinsAhead := [restPins, restPins, { restPins with pair := pair }] }))
    let bad := third [true, true, true, true]
    let good := third [false, false, true, true]
    bad.pairDrive = [] ∧ (after .collisionDetected bad).counter .ownCollisions = 1 ∧ (after .ownFrameComplete bad).bau.view = .frame
      ∧ good.pairDrive.length = 381 - 12 ∧ (after .collisionDetected good).counter .ownCollisions = 0
      ∧ (after .ownFrameComplete good).bau.view = .frame ∧ (after .ownFrameComplete (driven good)).bau.view = .window := by
  decide +kernel

/-- R8, R197: the first half bit of the end marker is compared too, and from the first difference on nothing is driven:
the claim field's first zero is half bits 8 and 9, and a difference in the first of a tick's halves stops the drive
there. -/
theorem test_end_marker_compared :
    let begun := after (.claimPositionBegin 0) (claiming .sync 0 joined)
    let from_ := fun (n : Nat) (pair : List Bool) =>
      after .tick { begun with
        bau := { begun.bau with tx := begun.bau.tx.map (fun x => { x with driven := n }) }
        pinsAhead := [{ restPins with pair := pair }] }
    let shown := fun (s : State) => s.bau.tx.map (fun x => (x.driven, x.differed))
    shown (from_ 376 [false, true, true, true]) = some (377, true) ∧ shown (from_ 376 [true, true, true, true]) = some (380, false)
      ∧ shown (from_ 0 [false, false, false, false]) = some (4, false)
      ∧ shown (from_ 8 [true, true, true, true]) = some (9, true) := by decide +kernel

/-- R144: a GONE that reached its end marker before the gone-timer expired was good, so FRAMES SENT counts it, its outcome
is discarded and ISOLATED stays. -/
theorem test_gone_good :
    let s := driven (sendingInternal .gone (inState .forced))
    let t := after .goneTimerExpiry s
    let u := after .ownFrameComplete t
    t.counter .framesCut = 0 ∧ t.sec.state = .isolated ∧ u.counter .framesSent = 1 ∧ u.sec.state = .isolated
      ∧ u.bau.pointer = 3 ∧ u.txs.slots.gone = .empty
      ∧ (after .goneTimerExpiry (sendingInternal .gone (inState .forced))).counter .framesCut = 1 := by decide +kernel

/-- R8: the station's own frame collides, so the pointer becomes 0 and the entry stays with its attempts. -/
theorem test_collision :
    let t := after .collisionDetected (differed (sendingCard 3 1 false joined))
    t.bau.pointer = 0 ∧ t.bau.collisions = 1 ∧ t.counter .ownCollisions = 1
      ∧ (t.queue .control).map (fun e => (e.inFlight, e.attempts)) = [(false, 0), (false, 1)] := by decide +kernel

/-- R128: SEAT low starts the 20 ms, a bounce stops the count, the next low starts it again; seating is taken when the
count has run out. -/
theorem test_seat_debounce :
    let low : PinLevels := { restPins with seated := true }
    let s : State := { State.reset with pinsAhead := [low, low, restPins, low] }
    let t1 := after .tick s
    let t2 := after .tick t1
    let t3 := after .tick t2
    let t4 := after .tick t3
    t1.sec.seat.count = some 2500000 ∧ t2.sec.seat.count = some 2499999 ∧ t3.sec.seat.count = none
      ∧ t4.sec.seat.count = some 2500000 ∧ (after (.seatSeated straps2) t4).sec.state = .unseated
      ∧ (after (.seatSeated straps2)
          (strapped straps2 { State.reset with sec := { State.reset.sec with seat := held true } })).sec.state = .seated := by
  decide +kernel

/-- R190: the straps pass two stages, so the synchroniser shows a change at the second tick; EJECT_OPENED in POWERING
enters SEATED and samples them again, slot 9 being invalid in a cabinet of 8. -/
def straps9 : Straps := { straps2 with slot := 9, parity := true, sourceCapable := false }

theorem test_straps_sampled :
    let s : State := { inState .powering with pinsAhead := [{ restPins with straps := straps9 }, { restPins with straps := straps9 }] }
    let t1 := after .tick (strapped straps2 s)
    let t2 := after .tick t1
    let opened := fun (t : State) => after .ejectOpened { t with sec := { t.sec with eject := held false } }
    t1.stl.stage = straps9 ∧ t1.stl.synchronised ≠ straps9 ∧ t2.stl.synchronised = straps9
      ∧ (opened t2).sec.state = .seated ∧ (opened t2).stl.straps = some straps9 ∧ (opened t2).ownSlot = none
      ∧ (opened t2).src.capable = false ∧ (opened t2).alu.table.map AlarmEntry.key = [keyH5]
      ∧ (opened (strapped straps2 s)).ownSlot = some 2 := by decide +kernel

/-- R171: the own drive is part of the line that is read, through a synchroniser of two stages. -/
theorem test_own_drive_read :
    let s : State := { joined with alu := { joined.alu with alertDrive := true } }
    (after .tick s).alu.alert = { stage := true, pin := false, level := false, count := none }
      ∧ (after .tick (after .tick s)).alu.alert = { stage := true, pin := true, level := false, count := some 125000 } := by
  decide +kernel

/-- R183, R188, R153: HOLD, CRST and an alarm input reach their filters one tick after the first stage. -/
theorem test_synchronisers :
    let s : State := { joined with pinsAhead :=
      [{ restPins with holdAsserted := true, resetHeld := true, inputsHigh := 0xFE }, restPins] }
    let t := after .tick s
    let u := after .tick t
    (t.cpt.hold.count = none ∧ t.cpt.crst.count = none ∧ (t.input 0).count = none)
      ∧ (u.cpt.hold.count = some 125 ∧ u.cpt.crst.count = some 125 ∧ (u.input 0).count = some 2500000)
      ∧ (after .tick u).cpt.hold.count = none := by decide +kernel

/-- R175, R181, R199: a REPLY granted three edges after a byte boundary waits for the next one, goes out a bit an edge,
stays half sent while no edge comes, and leaves its queue only once its last bit has gone out. -/
theorem test_bits_out :
    let s : State := { joined with cpt := { joined.cpt with bits := [false, false, false], replies := [.event 0 0] } }
    let edges := fun (n : Nat) (t : State) => after (.messageComplete (List.replicate n false)) t
    let g := after .arbiterGrant s
    let h := edges 15 g
    g.cpt.putsOut 15 = List.replicate 5 false ++ [true, true, false, false, false, false, true, true, true, false]
      ∧ h.cpt.outgoing.map Outgoing.sent = some 10 ∧ h.cpt.putsOut 6 = [false, false, false, false, true, true]
      ∧ (after .replySent (after .tick h)).cpt.replies.length = 1
      ∧ (after .replySent (edges 46 h)).cpt.replies = [] ∧ (after .replySent (edges 45 h)).cpt.replies.length = 1 := by
  decide +kernel

/-- R96: a pulse with two ticks left is not ended by STROBE_PULSE_END; one with none left is, and by the next tick. -/
theorem test_pulse_width :
    let s := fun (n : Nat) => ({ joined with tmu := { joined.tmu with
      sta := { joined.tmu.sta with output := true, left := n } } } : State)
    (after (.strobePulseEnd .sta) (s 2)).tmu.sta.output = true ∧ (after (.strobePulseEnd .sta) (s 0)).tmu.sta.output = false
      ∧ (after .tick (s 2)).tmu.sta.left = 1 ∧ (after .tick (s 0)).tmu.sta.output = false := by decide +kernel

/-- R9: after an own frame was cut, another station's frame that reaches its end marker leaves the pointer 0 and the view
WINDOW. -/
theorem test_own_cut_then_frame :
    let s : State := { joined with bau := { joined.bau with view := .frame, rx := some .ownCut, pointer := 5 } }
    (after (.readyHeard 3) s).bau.view = .window ∧ (after (.readyHeard 3) s).bau.pointer = 0
      ∧ (after (.readyHeard 3) s).peer 3 = s.peer 3 := by decide +kernel

/-- R199: a NEXT EVENT whose bits come in two parts, three of them first. -/
theorem test_byte_boundary :
    let bits := bitsOf [0xC3, 0x0B, 0, 0]
    let s := after (.messageComplete (bits.take 3)) joined
    s.cpt.bits = [true, true, false] ∧ (after (.messageComplete (bits.drop 3)) s).cpt.incoming = [.nextEvent]
      ∧ (after (.messageComplete (bits.drop 3)) s).cpt.bits = [] := by decide +kernel

/-! ### Witnesses: states and operands that meet each statement's hypotheses -/

theorem witness_StepRunsFrontCommand : State.reset.pending = [] := rfl

/-- JOINED with queued frames, a stored frame and an alarm: every law holds of it, and it takes a step. -/
def busy : State :=
  let s := withServo .locked joined
  noticePeerView { s with
    txs := { s.txs with queues := { s.txs.queues with control := [entry0 3, entry0 31] }, storeFree := 126 }
    rxp := { s.rxp with frames := [{ source := 3, cls := .bulk, dest := 2, payload := [1], late := false,
                                     inTransfer := false }], free := 191 }
    tmu := { s.tmu with gateOpen := true }
    src := { s.src with table := [{ slot := 3, quality := 1, priority := 0, age := some 0 }], selection := some 3 }
    alu := { s.alu with table := [{ alarm0 keyH1 .active with severity := .critical }], alertDrive := true } }

theorem witness_laws_hold :
    LawQueued busy ∧ LawStore busy ∧ LawPool busy ∧ LawRate busy ∧ LawDrive busy ∧ LawTable busy ∧ LawAlert busy
      ∧ LawSources busy ∧ LawGate busy ∧ LawLines busy ∧ LawSummary busy ∧ LawRelays busy ∧ LawDrained busy
      ∧ LawSourceLost busy ∧ LawEvents busy := by
  unfold LawQueued LawStore LawPool LawRate LawDrive LawTable LawAlert LawSources LawSelection LawGate LawLines LawSummary
    LawRelays LawDrained LawSourceLost LawEvents
  decide +kernel

/-- Every invariant's hypotheses: the laws hold of `busy` with a command in front, and the step answers next. -/
theorem witness_invariants :
    ∃ t, step (({ busy with sec := { busy.sec with seat := held false } } : State).withPending [.seatLoss]) = .next t
      ∧ t.sec.state = .unseated := ⟨_, rfl, by decide +kernel⟩

theorem witness_StartsOnlyWhereAllowed :
    (claiming .sync 0 joined).bau.tx = none
      ∧ ∃ t x, step ((claiming .sync 0 joined).withPending [.claimPositionBegin 0]) = .next t ∧ t.bau.tx = some x :=
  ⟨by decide +kernel, _, _, rfl, rfl⟩

theorem witness_TimeSteppedOnlyInAcquire :
    ∃ t, exec (.refEdge 0) (withServo .acquire (sourcing joined)) = .next t
      ∧ t.tmu.time ≠ (withServo .acquire (sourcing joined)).tmu.time := ⟨_, rfl, by decide +kernel⟩

theorem witness_MessageBytesParse : send0.wellFormed = true := by decide +kernel

theorem witness_FrameBytesReadBack :
    FrameKind.data.allowsClass 3 = true ∧ (7 : Slot).val < 8 ∧ (List.replicate 1024 (0 : Byte)).length ≤ 1024 := by
  decide +kernel

/-- Both ends of the ranges of residue and rate word; no reply, one not driven, one with two bits left and one with
more; a tick that crosses a boundary of 62.5 ms with role SOURCE, and one that does not. -/
theorem witness_TickAdvancesTime :
    let reply := fun (driving : Bool) (n : Nat) =>
      ({ joined with bau := { joined.bau with reply := some { code := .full, driving := driving, left := n } } } : State)
    let s := withServo .locked (sourcing joined)
    let b : State := { s with tmu := { s.tmu with time := { seconds := 1200, nanoseconds := 562499993, fraction := 0 } } }
    let moved := fun (x : State) => (((x.tmu.time.units : Int) / (65536 * 62500000),
      (x.tmu.time.units + (524288 + ((x.tmu.residue : Int) + x.tmu.rate) / 2097152)) / (65536 * 62500000)) : Int × Int)
    ((2097151 : Nat) < 2097152 ∧ (-134217728 : Int) ≤ 134217728 ∧ (134217728 : Int) ≤ 134217728)
      ∧ joined.bau.reply = none ∧ ((reply false 8).bau.reply.map ReplyDrive.driving) = some false
      ∧ joined.bau.tx = none
      ∧ (∀ x, x ∈ [sendingCard 3 0 true joined, differed (sendingCard 3 0 false joined), sendingCard 3 0 false joined] →
        x.bau.tx.isSome = true)
      ∧ ((reply true 2).bau.reply.map ReplyDrive.left) = some 2 ∧ ((reply true 3).bau.reply.map ReplyDrive.left) = some 3
      ∧ b.src.role = .source ∧ b.sec.state = .joined ∧ b.tmu.servo ≠ .acquire
      ∧ (moved b).1 < (moved b).2 ∧ ¬ (moved s).1 < (moved s).2 := by decide +kernel

/-- A first difference in each half of a tick, from the first half of the claim field to the last of the end marker; none
before, none at its release. -/
theorem witness_TickDifference :
    let x := fun (n : Nat) => ({ own0 (.internal .summary) 31 false with driven := n } : Transmission)
    let wrong := fun (n j : Nat) => ((((x n).drive.drop n).take 4).map Drive.level).modify j not
    (x 0).drive.length = 269
      ∧ (∀ j, j < 4 → DiffersAt (x 8) (wrong 8 j) j ∧ ∀ k, k < j → ¬ DiffersAt (x 8) (wrong 8 j) k)
      ∧ DiffersAt (x 267) (wrong 267 0) 0 ∧ ¬ DiffersAt (x 7) (wrong 7 0) 0 ∧ ¬ DiffersAt (x 268) (wrong 268 0) 0 := by
  unfold DiffersAt; decide +kernel

/-- A tick that crosses STB's boundary with the gate open, and one that does not. -/
theorem witness_StrobePulses :
    let s : State := { joined with tmu := { joined.tmu with
      gateOpen := true, time := { seconds := 0, nanoseconds := 999999999, fraction := 65535 } } }
    (∃ t, exec .tick s = .next t) ∧ s.tmu.gateOpen = true
      ∧ crosses s.tmu.time s.tickAdvance (periodNs (s.tmu.strobe .stb).settings.period) (s.tmu.strobe .stb).settings.offset
          = true
      ∧ s.tmu.sta.left = 0 ∧ s.tmu.stb.left = 0
      ∧ (({ s.tmu with sta := { s.tmu.sta with left := 1 } } : Tmu).strobe .sta).left ≠ 0
      ∧ crosses joined.tmu.time joined.tickAdvance (periodNs (joined.tmu.strobe .stb).settings.period)
          (joined.tmu.strobe .stb).settings.offset = false := ⟨⟨_, rfl⟩, by decide +kernel⟩

theorem witness_RefEdgeTaken :
    (joined.src.role = .follower ∧ LawDrained joined) ∧ (sourcing joined).src.role = .source := by
  unfold LawDrained; decide +kernel

/-- The transmit time that makes the error 0 for a stamp of 1,200 s 500,000,000 ns over the path from slot 3 to slot 2. -/
def syncBody : List Byte := beBytes 4 1200 ++ beBytes 4 499999975 ++ beBytes 2 32768

/-- The transmit time that makes the error so many nanoseconds. -/
def syncBodyOf (ns : Int) : List Byte := beBytes 4 1200 ++ beBytes 4 (499999975 + ns).toNat ++ beBytes 2 32768

/-- Each servo state; errors of 0 and of both thresholds and one nanosecond past them; the counts at which a sample locks
and an outlier ends LOCKED, and those one short of them. -/
theorem witness_SyncSampleUpdatesServo :
    let s := fun (v : Servo) (count : Nat) =>
      let x := hearing (following (withServo v joined))
      ({ x with tmu := { x.tmu with
          lockCount := count, outlierCount := count, everLocked := true, gateOpen := decide (v = .locked ∨ v = .holdover)
          holdoverTimer := some 1 } } : State)
    let e := fun (ns : Int) => (syncError (syncTime (syncBodyOf ns)) (pathUnits (s .locked 0).tmu.settings 2 3) time0).natAbs
    (∀ v, v ∈ [Servo.free, .acquire, .locked, .holdover] → ∀ n, n ∈ [0, 2, 3] →
        Hearing (s v n) 3 time0 ∧ (s v n).ownSlot = some 2 ∧ (s v n).src.role = .follower ∧ (s v n).src.selection = some 3
          ∧ ((s v n).peer 3).state = .present ∧ LawTable (s v n) ∧ LawGate (s v n) ∧ (s v n).tmu.servo = v
          ∧ (s v n).tmu.lockCount = n ∧ (s v n).tmu.outlierCount = n)
      ∧ e 0 = 0 ∧ e 100 = 65536 * (s .locked 0).tmu.settings.lockThreshold ∧ e (-101) = 65536 * 101
      ∧ e (-500) = 65536 * (s .locked 0).tmu.settings.stepThreshold ∧ e 501 = 65536 * 501 := by
  unfold Hearing LawTable LawGate; decide +kernel

/-- Role SOURCE; a slot that is not the selected one; no own slot, with a peer present. -/
theorem witness_SyncIgnored :
    let a := hearing (sourcing joined)
    let b := hearing (withPeer 3 .draining joined)
    let c : State := { hearing (following joined) with stl := { joined.stl with straps := some { straps2 with parity := true } } }
    (Hearing a 3 time0 ∧ (a.peer 3).state = .present ∧ a.src.role = .source)
      ∧ (Hearing b 3 time0 ∧ (b.peer 3).state = .draining ∧ b.src.selection ≠ some 3)
      ∧ (Hearing c 3 time0 ∧ (c.peer 3).state = .present ∧ c.ownSlot = none) := by
  unfold Hearing; decide +kernel

/-- Each servo state, with and without ever-locked, in either role, with and without reference seen. -/
theorem witness_TimeTimersExpire :
    let s := fun (v : Servo) (ever : Bool) (x : State) =>
      ({ withServo v x with tmu := { (withServo v x).tmu with everLocked := ever, holdoverTimer := some 0 } } : State)
    let f := following joined
    let r := fun (seen : Bool) => ({ sourcing joined with src := { (sourcing joined).src with refSeen := seen } } : State)
    ∀ v, v ∈ [Servo.free, .acquire, .locked, .holdover] → ∀ ever seen : Bool,
      (s v ever f).src.syncTimeout.isSome = true ∧ (s v ever f).tmu.servo = v ∧ (s v ever f).tmu.everLocked = ever
        ∧ (s v ever f).src.role = .follower ∧ (s v ever (r seen)).src.role = .source
        ∧ (s v ever (r seen)).src.refTimeout.isSome = true ∧ (s v ever (r seen)).src.refSeen = seen
        ∧ (s v ever f).tmu.holdoverTimer.isSome = true := by decide +kernel

/-- A suppressed key; a key with room; a key that stands; a full table with a victim and one without. -/
theorem witness_RaiseOfKey :
    (LawTable joined ∧ keyT1 ∉ joined.alu.suppressed ∧ (∀ e, e ∈ joined.alu.table → e.key ≠ keyT1)
        ∧ joined.alu.table.length < 32)
      ∧ (LawTable (markKey keyT1 joined) ∧ keyT1 ∈ (markKey keyT1 joined).alu.suppressed)
      ∧ (LawTable (withAlarm keyT1 .cleared joined) ∧ keyT1 ∉ (withAlarm keyT1 .cleared joined).alu.suppressed
        ∧ alarm0 keyT1 .cleared ∈ (withAlarm keyT1 .cleared joined).alu.table)
      ∧ (LawTable (fullTable .active .warning joined) ∧ (fullTable .active .warning joined).alu.table.length = 32
        ∧ (∀ e, e ∈ (fullTable .active .warning joined).alu.table → e.key ≠ keyT1)
        ∧ (findVictim (fullTable .active .warning joined).alu.table .minor).isSome = true
        ∧ findVictim (fullTable .active .warning joined).alu.table .warning = none) := by
  unfold LawTable; decide +kernel

theorem witness_ClearOfKey :
    (LawTable (withAlarm keyT1 .active joined) ∧ alarm0 keyT1 .active ∈ (withAlarm keyT1 .active joined).alu.table)
      ∧ (LawTable (withAlarm keyT1 .acked joined) ∧ alarm0 keyT1 .acked ∈ (withAlarm keyT1 .acked joined).alu.table)
      ∧ (LawTable (withAlarm keyT1 .cleared joined) ∧ alarm0 keyT1 .cleared ∈ (withAlarm keyT1 .cleared joined).alu.table)
      ∧ (LawTable (markKey keyT1 joined) ∧ (∀ e, e ∈ (markKey keyT1 joined).alu.table → e.key ≠ keyT1)
        ∧ keyT1 ∈ (markKey keyT1 joined).alu.suppressed ∧ (markKey keyT1 joined).alu.table.length < 32)
      ∧ (keyT1 ∉ joined.alu.suppressed ∧ LawTable joined) := by
  unfold LawTable; decide +kernel

/-- Input 7 with these settings and conditioned level, its pin having held the other level for the debounce time. -/
def withInput (masked latched asserted : Bool) (s : State) : State :=
  s.setInput 7 { s.input 7 with
    asserted := asserted, pinHigh := asserted, count := some 0
    settings := { (s.input 7).settings with masked := masked, latched := latched } }

theorem witness_InputEvents :
    (InputHeld ((withInput false false false joined).input 7) true
        ∧ ((withInput false false false joined).input 7).settings.masked = false)
      ∧ (InputHeld ((withInput true false false joined).input 7) true
        ∧ ((withInput true false false joined).input 7).settings.masked = true)
      ∧ (LawTable (withInput false false true joined) ∧ InputHeld ((withInput false false true joined).input 7) false
        ∧ ((withInput false false true joined).input 7).settings.masked = false
        ∧ ((withInput false false true joined).input 7).settings.latched = false)
      ∧ (LawTable (withInput false true true (withAlarm (.input 7) .active joined))
        ∧ InputHeld ((withInput false true true (withAlarm (.input 7) .active joined)).input 7) false
        ∧ ((withInput false true true (withAlarm (.input 7) .active joined)).input 7).settings.masked = false
        ∧ ((withInput false true true (withAlarm (.input 7) .active joined)).input 7).settings.latched = true
        ∧ alarm0 (.input 7) .active ∈ (withInput false true true (withAlarm (.input 7) .active joined)).alu.table)
      ∧ alarm0 (.input 7) .acked ∈ (withInput false true true (withAlarm (.input 7) .acked joined)).alu.table
      ∧ ¬ InputHeld (joined.input 7) true ∧ ¬ InputHeld (joined.input 7) false := by
  unfold LawTable InputHeld; decide +kernel

theorem witness_AlertLevelChanges :
    Held ({ joined with alu := { joined.alu with alert := heldBehind true } } : State).alu.alert.toConditioner true
      ∧ Held ({ joined with alu := { joined.alu with alert := heldBehind false, collector := true } } : State).alu.alert.toConditioner false
      ∧ ¬ Held joined.alu.alert.toConditioner true := by unfold Held; decide +kernel

theorem witness_AlarmTimersExpire :
    let s : State := { joined with
      txs := { joined.txs with lateTimer := some 0, undeliverableTimer := some 0 }
      alu := { joined.alu with intervalTimer := some 0, holdOffTimer := some 0 } }
    LawTable s ∧ s.txs.lateTimer.isSome = true ∧ s.txs.undeliverableTimer.isSome = true
      ∧ s.alu.intervalTimer.isSome = true ∧ s.alu.holdOffTimer.isSome = true := by
  unfold LawTable; decide +kernel

/-- The limits of a code and of a severity; entries in each of the three states, that of a LATCHED input with its level
deasserted among them. -/
theorem witness_CardAlarmMessages :
    let latched := withAlarm (.input 7) .active (withInput false true false joined)
    PortReady joined ∧ LawTable joined ∧ (31#8).toNat < 32 ∧ 1 ≤ (4#8).toNat ∧ (4#8).toNat ≤ 4
      ∧ ¬ ((32#8).toNat < 32 ∧ 1 ≤ (1#8).toNat ∧ (1#8).toNat ≤ 4) ∧ 32 ≤ (32#8).toNat
      ∧ (∀ st, st ∈ [AlarmState.active, .acked, .cleared] → LawTable (withAlarm (.card 31) st joined)
        ∧ PortReady (withAlarm (.card 31) st joined) ∧ alarm0 (.card 31) st ∈ (withAlarm (.card 31) st joined).alu.table)
      ∧ ((AlarmKey.card 31).origin = 2 ∧ (AlarmKey.card 31).code = 31 ∧ ∀ n : Fin 8, AlarmKey.card 31 ≠ .input n)
      ∧ (LawTable latched ∧ PortReady latched ∧ alarm0 (.input 7) .active ∈ latched.alu.table
        ∧ (latched.input 7).settings.latched = true ∧ (latched.input 7).asserted = false)
      ∧ (∀ e, e ∈ joined.alu.table → ¬ (e.key.origin = 2 ∧ e.key.code = 0)) := by
  unfold PortReady LawTable; decide +kernel

theorem witness_BusViewMoves :
    joined.bau.view = .settle ∧ (claiming .sync 0 joined).bau.view = .claim := by decide +kernel

/-- A card candidate behind an entry to a blocked destination. -/
theorem witness_CardCandidate :
    let s : State := { joined with txs := { joined.txs with queues := { joined.txs.queues with control := [entry0 3, entry0 31] } } }
    let b := s.setPeer 3 { s.peer 3 with blocked := true, blockedTimer := some 1 }
    CardCandidate .control 1 b ∧ b.candidateOf 1 = some (.card .control 1) := by
  refine ⟨⟨⟨entry0 31, rfl, rfl, ?_, by decide +kernel, rfl, by decide⟩, ?_⟩, by decide +kernel⟩
  · intro m e' hm he
    obtain rfl : m = 0 := by omega
    obtain rfl := Option.some.inj (show some (entry0 3) = some e' from he)
    decide
  · intro m hm h
    obtain rfl : m = 0 := by omega
    obtain ⟨e, he, -, -, hb, -⟩ := h
    obtain rfl := Option.some.inj (show some (entry0 3) = some e from he)
    exact absurd (hb 3 rfl) (by decide +kernel)

/-- Position 0 after the settle gap, the last position of the cycle, a position of another rank, each of the three kinds
of candidate. -/
theorem witness_ClaimPositionBegins :
    let s := claiming .sync 0 joined
    let b : State := { claiming .ready 8 joined with txs := { joined.txs with queues := { joined.txs.queues with control := [entry0 31] } } }
    (s.bau.view = .claim ∧ s.ownSlot = some 2 ∧ s.sec.drven = true
        ∧ 0 = (if s.bau.positionNew then 0 else (s.bau.position.val + 1) % (4 * s.cabinet))
        ∧ (((2 : Slot).val : Int) - s.bau.pointer.val) % s.cabinet = ((0 : Nat) % s.cabinet : Nat)
        ∧ (∀ e, e ∈ s.queue .deadline → s.lateNow e = false) ∧ LawDrained s
        ∧ s.candidateOf (0 / s.cabinet) = some (.internal .sync) ∧ s.candidateOf (31 / s.cabinet) = none)
      ∧ (b.bau.view = .claim ∧ b.ownSlot = some 2 ∧ b.candidateOf (8 / b.cabinet) = some (.card .control 0) ∧ LawDrained b
        ∧ 8 = (if b.bau.positionNew then 0 else (b.bau.position.val + 1) % (4 * b.cabinet)))
      ∧ ¬ (s.sec.drven = true ∧ (((2 : Slot).val : Int) - s.bau.pointer.val) % s.cabinet = ((31 : Nat) % s.cabinet : Nat)) := by
  unfold LawDrained; decide +kernel

/-- The consecutive-collision count at 0, 3, 6 and 7, at 7 and 8 in each of the four states and in two others; card
frames: an orphan, an entry of each mark, one that stays, and class-2 entries whose due time has passed and has not. -/
theorem witness_CollisionTaken :
    let on := fun (n : Nat) (s : State) => ({ s with bau := { s.bau with collisions := n } } : State)
    let s := fun (n : Nat) => on n (differed (sendingInternal .summary joined))
    let c := differed (sendingCard 3 1 false joined)
    let at_ := fun (n : Nat) (x : Seating) => on n (differed (sendingCard 3 1 false (inState x)))
    let put := fun (e : QueueEntry) => ({ c with txs := { c.txs with queues := { c.txs.queues with control := [entry0 31, e] } } } : State)
    let fly : QueueEntry := { entry0 3 with inFlight := true, attempts := 1 }
    (∀ n, n ∈ [0, 3, 6, 7] → (s n).bau.view = .frame ∧ (s n).bau.tx = some { own0 (.internal .summary) 31 false with differed := true }
        ∧ (s n).txs.slots.get .summary = .inFlight ∧ (s n).bau.collisions = n ∧ LawDrained (s n))
      ∧ (∀ x, x ∈ [Seating.joining, .joined, .draining, .forced, .conflict, .isolated] → ∀ n, n ∈ [7, 8] →
        LawDrained (at_ n x) ∧ (at_ n x).sec.state = x ∧ (at_ n x).bau.collisions = n ∧ (at_ n x).bau.view = .frame
          ∧ (at_ n x).queue .control = [entry0 31] ++ fly :: [])
      ∧ (∀ e, e ∈ fly :: { fly with orphan := true } :: [ResultCode.sent, .late, .undeliverable, .peerLeft, .timeLost,
            .withdrawn].map (fun code => { fly with mark := some code }) →
        (put e).queue .control = [entry0 31] ++ e :: [] ∧ e.inFlight = true ∧ (put e).bau.tx = some { own0 (.card .control) 3 false with differed := true }
          ∧ (put e).bau.collisions < 7)
      ∧ (differed (sendingDue 499999999 1 false joined)).duePassed 499999999 = true
      ∧ (differed (sendingDue 500000000 1 false joined)).duePassed 500000000 = false
      ∧ (differed (sendingDue 499999999 1 false joined)).queue .deadline
          = [] ++ { entry0 3 with inFlight := true, attempts := 1, due := some 499999999 } :: [] := by
  unfold LawDrained; decide +kernel

/-- A SYNC frame of a slot, with every symbol clean. -/
def activityOf (i : Slot) : Activity :=
  cleanActivity { kind := .sync, cls := 0, slot := i, dest := 31, due := none, sequence := 0 } 5 syncBody

theorem witness_BrokenFrameJudged :
    ((hearing joined).bau.view = .frame ∧ (hearing joined).bau.tx = none ∧ (hearing joined).bau.rx = some (.marker time0))
      ∧ ((activityOf 8).bothDominant = false ∧ (activityOf 8).cleanSymbols = true ∧ violatesCode (activityOf 8) = false
        ∧ failsCheck (activityOf 8).bytes = false ∧ ((readHeader (activityOf 8).bytes).map FrameHeader.slot) = some 8
        ∧ (hearing joined).cabinet ≤ 8)
      ∧ (violatesCode { activityOf 3 with rest := coded ((activityOf 3).bytes.set 9 1) } = false
        ∧ failsCheck ((activityOf 3).bytes.set 9 1) = true)
      ∧ violatesCode { activityOf 3 with claim := (claimBits 0 4 5).map codeBit } = true
      ∧ (activityOf 8).endRecognised = true
      ∧ ({ activityOf 8 with rest := (activityOf 8).rest.take 40 } : Activity).endRecognised = false
      ∧ ({ activityOf 8 with claim := [{ first := true, second := true }] } : Activity).bothDominant = true := by
  decide +kernel

theorem witness_OwnFrameCompletes :
    (∀ w, w ∈ [sendingCard 3 0 false joined, sendingCard 30 0 false joined, sendingInternal .summary joined,
        sendingInternal .announce joined, sendingInternal .sync joined, sendingInternal .join (inState .joining),
        sendingInternal .gone (inState .draining), sendingInternal .gone (inState .forced)] →
      let x := driven w
      x.bau.view = .frame ∧ x.bau.tx.map Transmission.complete = some false ∧ x.bau.tx.map Transmission.differed = some false
        ∧ x.bau.tx.map (fun t => decide (t.drive.length ≤ t.driven + 1)) = some true ∧ x.alu.table.length ≤ 32
        ∧ (x.sec.state = .draining → x.drained = false)
        ∧ w.bau.tx.map (fun t => decide (t.driven + 1 < t.drive.length)) = some true)
      ∧ (sendingCard 30 0 false joined).queue .control
          = [entry0 31] ++ { entry0 30 with inFlight := true, attempts := 0 } :: [] := by decide +kernel

theorem witness_ReplyWindowPasses :
    let s : State := { joined with bau := { joined.bau with view := .window, reply := some { code := .full, driving := false } } }
    s.bau.view = .window ∧ s.bau.reply = some { code := .full, driving := false, left := 0 } ∧ s.sec.state = .joined
      ∧ s.bau.tx = none := by decide +kernel

/-- Attempt counts 0, 1 and 2, with another entry before the one in flight; class-2 entries whose due time has passed and
has not; window bits that are no reply pattern. -/
theorem witness_UnicastOutcome :
    (∀ n, n ∈ [0, 1, 2] →
      let s := sendingCard 3 n true joined
      s.bau.view = .window ∧ s.bau.tx = some (own0 (.card .control) 3 true)
        ∧ s.queue .control = [entry0 31] ++ { entry0 3 with inFlight := true, attempts := n } :: []
        ∧ (∀ y, y ∈ [entry0 31] → y.inFlight = false) ∧ LawDrained s)
      ∧ (∀ d, d ∈ [499999999, 500000000] →
        let s := sendingDue d 1 true joined
        s.bau.view = .window ∧ s.bau.tx = some (own0 (.card .deadline) 3 true) ∧ LawDrained s
          ∧ s.queue .deadline = [] ++ { entry0 3 with inFlight := true, attempts := 1, due := some d } :: []
          ∧ s.duePassed d = decide (d = 499999999))
      ∧ (∀ w, w ∈ [WindowContent.quiet, .garbled, .bits true [codeBit true],
            .bits false ([true, true, false, true, false, false, true, false].map codeBit)] →
        w ≠ .bits true ([true, true, false, true, false, false, true, false].map codeBit)
          ∧ w ≠ .bits true ([false, false, true, false, true, true, false, true].map codeBit)) := by
  unfold LawDrained; decide +kernel

/-- A duplicate, a frame of the largest payload that just fits, and one that just does not. -/
theorem witness_DataHeardUnicast :
    let s := hearing joined
    let d := (s.setPeer 3 { s.peer 3 with sequence := { control := some 4, deadline := none, bulk := none } })
    let f : DataFrame := { frame0 2 with payload := List.replicate 1024 0 }
    let room := fun (n : Nat) => ({ s with rxp := { s.rxp with free := n } } : State)
    Hearing s 3 time0 ∧ s.ownSlot = some 2 ∧ (2 : Dest).val = (2 : Slot).val ∧ s.sec.state = .joined
      ∧ (s.peer 3).state = .present ∧ LawDrained s
      ∧ (Hearing d 3 time0 ∧ LawDrained d ∧ (d.peer 3).sequence.get .control = some (frame0 2).sequence)
      ∧ ((s.peer 3).sequence.get .control ≠ some f.sequence ∧ unitsFor f.payload.length ≤ (room 5).rxp.free
        ∧ (room 4).rxp.free < unitsFor f.payload.length) := by
  unfold Hearing LawDrained; decide +kernel

/-- Destination codes 15, 16 and 30 of a station that is a member of group 15 alone. -/
theorem witness_DataAddressed :
    let s : State := { hearing joined with rxp := { joined.rxp with groups := 0x8000 } }
    s.addressed 15 = false ∧ s.addressed 16 = false ∧ s.addressed 30 = true ∧ s.addressed 31 = true
      ∧ Hearing s 3 time0 ∧ (s.peer 3).state = .present ∧ LawDrained s := by
  unfold Hearing LawDrained; decide +kernel

theorem witness_GroupFramesAndNotReceiving :
    let s := hearing joined
    (Hearing s 3 time0 ∧ 16 ≤ (31 : Dest).val ∧ s.addressed 31 = true ∧ s.sec.state = .joined
        ∧ (s.peer 3).state = .present ∧ LawDrained s ∧ unitsFor 3 ≤ s.rxp.free)
      ∧ (({ s with rxp := { s.rxp with free := 0 } } : State).rxp.free < unitsFor 3)
      ∧ (Hearing (hearing (inState .listening)) 3 time0 ∧ (hearing (inState .listening)).addressed 2 = true
        ∧ ¬ ((inState .listening).sec.state = .joining ∨ (inState .listening).sec.state = .joined
          ∨ (inState .listening).sec.state = .draining))
      ∧ (∀ x, x ∈ [Seating.listening, .joining, .joined, .draining, .conflict, .forced] →
        (hearing (inState x)).ownSlot = some 2 ∧ (hearing (inState x)).sec.state = x ∧ (hearing (inState x)).bau.view = .frame
          ∧ (hearing (inState x)).bau.tx = none ∧ (hearing (inState x)).bau.rx = some (.marker time0)
          ∧ (x ≠ .draining → LawDrained (hearing (inState x)))) ∧ LawDrained (sendingCard 3 0 true (inState .draining))
      ∧ ({ frame0 2 with source := 2 } : DataFrame).source = 2 := by
  unfold Hearing LawDrained; decide +kernel

theorem witness_JoinHeard : Hearing (hearing joined) 7 time0 ∧ LawDrained (hearing joined) := by
  unfold Hearing LawDrained; decide +kernel

theorem witness_PeersLeaving :
    (Hearing (hearing joined) 3 time0 ∧ ((hearing joined).peer 3).state ≠ .gone)
      ∧ (Hearing (hearing (withPeer 3 .gone joined)) 3 time0 ∧ ((hearing (withPeer 3 .gone joined)).peer 3).state = .gone
        ∧ LawDrained (hearing (withPeer 3 .gone joined))) := by
  unfold Hearing LawDrained; decide +kernel

theorem witness_SummaryAndReadyHeard :
    (Hearing (hearing joined) 3 time0 ∧ ((hearing joined).peer 3).state = .present ∧ LawDrained (hearing joined))
      ∧ ((hearing (withPeer 3 .draining joined)).peer 3).state = .draining
      ∧ ∀ x, x ∈ [PeerState.absent, .lost, .gone] →
        Hearing (hearing (withPeer 3 x joined)) 3 time0 ∧ ((hearing (withPeer 3 x joined)).peer 3).state = x
          ∧ LawDrained (hearing (withPeer 3 x joined)) := by
  unfold Hearing LawDrained; decide +kernel

theorem witness_AnnounceHeard :
    (Hearing (hearing joined) 3 time0 ∧ joined.ownSlot = some 2 ∧ ((hearing joined).peer 3).state = .present
        ∧ LawSources (hearing joined))
      ∧ (Hearing (hearing (withPeer 3 .draining joined)) 3 time0
        ∧ ((hearing (withPeer 3 .draining joined)).peer 3).state = .draining
        ∧ LawDrained (hearing (withPeer 3 .draining joined))) := by
  unfold Hearing LawDrained LawSources LawSelection; decide +kernel

theorem witness_PeerAndAnnounceTimers :
    (joined.peer 3).state = .present ∧ ((withPeer 3 .draining joined).peer 3).state = .draining
      ∧ ((joined.setPeer 3 { joined.peer 3 with blocked := true, blockedTimer := some 0 }).peer 3).blockedTimer.isSome = true
      ∧ ({ joined with src := { joined.src with announceTimer := some 0 } } : State).src.announceTimer.isSome = true
      ∧ findSource 3 busy.src.table = some { slot := 3, quality := 1, priority := 0, age := some 0 } := by decide +kernel

/-- A due time equal to the short time is ahead; one a nanosecond earlier has passed. -/
theorem witness_LateRemoval :
    let s := fun (d : Nat) => ({ joined with txs := { joined.txs with
      queues := { joined.txs.queues with deadline := [dueEntry d] } } } : State)
    LawDrained (s 500000000)
      ∧ ((s 500000000).queue .deadline).filter
          (fun e => !e.inFlight && e.due.any (fun d => !dueAhead d (s 500000000).tmu.time.short)) = []
      ∧ ((s 499999999).queue .deadline).filter
          (fun e => !e.inFlight && e.due.any (fun d => !dueAhead d (s 499999999).tmu.time.short)) ≠ [] := by
  unfold LawDrained; decide +kernel

/-- With the pin of EJECT, of SEAT or of PGOOD having held the other level for its filter. -/
def ejecting (level : Bool) (s : State) : State := { s with sec := { s.sec with eject := held level } }
def seating (level : Bool) (s : State) : State := { s with sec := { s.sec with seat := held level } }
def powering (level : Bool) (s : State) : State := { s with sec := { s.sec with pgood := held level } }

theorem witness_EjectLatchedPowersSeated :
    (seated.sec.state = .seated ∧ seated.ownSlot = some 2 ∧ seated.sec.eject.level = false ∧ seated.bau.tx = none
        ∧ seated.sec.pgood.level = false)
      ∧ (State.reset.sec.state = .unseated ∧ strapsValid straps2 = true
        ∧ (strapped straps2 (seating true State.reset)).stl.synchronised = straps2)
      ∧ (Held (ejecting true seated).sec.eject true ∧ Held (seating true State.reset).sec.seat true)
      ∧ (Held (ejecting false (inState .seated)).sec.eject false ∧ (inState .seated).sec.state = .seated)
      ∧ ¬ Held seated.sec.eject true := by unfold Held; decide +kernel

/-- Straps of a valid and of an invalid slot code behind the synchroniser, in UNSEATED with SEAT held and in POWERING
with the ejector held open. -/
theorem witness_SeatSeated :
    strapsValid straps2 = true ∧ strapsValid straps9 = false
      ∧ (∀ x, x ∈ [straps2, straps9] →
        (strapped x (seating true State.reset)).sec.state = .unseated ∧ Held (strapped x (seating true State.reset)).sec.seat true
          ∧ (strapped x (seating true State.reset)).stl.synchronised = x
          ∧ (strapped x (ejecting false (inState .powering))).sec.state = .powering
          ∧ Held (strapped x (ejecting false (inState .powering))).sec.eject false
          ∧ (strapped x (ejecting false (inState .powering))).stl.synchronised = x)
      ∧ (seating true State.reset).stl.synchronised ≠ straps2 ∧ ¬ Held State.reset.sec.seat true := by
  unfold Held; decide +kernel

/-- The own frames a seating change finds on the pair: one that has collided, one driven to its end marker and one half
sent. -/
def onPair (s : State) : List State := [differed s, driven s, s]

/-- No own frame on the pair; and an own frame that has collided, has ended and is cut. -/
theorem witness_SeatLoss :
    Held (seating false busy).sec.seat false ∧ (seating false busy).bau.tx = none
      ∧ (∀ c e, e ∈ (seating false busy).queue c → e.inFlight = false)
      ∧ (seating false busy).sec.state ≠ .unseated ∧ ¬ Held busy.sec.seat false ∧ LawTable (seating false busy)
      ∧ (onPair (seating false (sendingCard 3 1 false joined))).map (fun s =>
          (decide (s.sec.state ≠ .unseated) && (s.sec.seat == held false), s.bau.tx.map (fun x =>
            (x.complete, x.differed, decide (x.drive.length ≤ x.driven + 1)))))
        = [(true, some (false, true, false)), (true, some (false, false, true)), (true, some (false, false, false))] := by
  refine ⟨by unfold Held; decide +kernel, by decide +kernel, ?_, by decide +kernel, by unfold Held; decide +kernel, ?_,
    by decide +kernel⟩
  · intro c; cases c <;> decide +kernel
  · unfold LawTable; decide +kernel

theorem witness_PowerEvents :
    ((powering true (inState .powering)).sec.state = .powering ∧ Held (powering true (inState .powering)).sec.pgood true
        ∧ LawTable (powering true (inState .powering)) ∧ (inState .powering).sec.powerGoodTimer.isSome = true)
      ∧ (∀ x, x ∈ [Seating.config, .listening, .joining, .joined, .draining] →
        (powering false (inState x)).sec.state = x ∧ Held (powering false (inState x)).sec.pgood false
          ∧ (powering false (inState x)).bau.tx = none)
      ∧ ¬ Held joined.sec.pgood true ∧ ¬ Held joined.sec.pgood false := by
  unfold LawTable Held; decide +kernel

theorem witness_SeatingTimers :
    ((inState .listening).sec.state = .listening ∧ (inState .listening).sec.listenTimer.isSome = true
        ∧ (inState .listening).sec.slotHeard = false)
      ∧ (after (.readyHeard 2) (hearing (inState .listening))).sec.slotHeard = true
      ∧ ((inState .draining).sec.state = .draining ∧ (inState .draining).sec.drainTimer.isSome = true
        ∧ (inState .draining).bau.tx = none)
      ∧ ((inState .forced).sec.state = .forced ∧ (inState .forced).sec.goneTimer.isSome = true)
      ∧ (onPair (sendingInternal .gone (inState .forced))).map (fun s =>
          (decide (s.sec.state = .forced) && decide (s.bau.view = .frame) && s.sec.goneTimer.isSome, s.bau.tx.map (fun x =>
            (decide (x.source = .internal .gone) && !x.complete, x.differed, decide (x.drive.length ≤ x.driven + 1)))))
        = [(true, some (true, true, false)), (true, some (true, false, true)), (true, some (true, false, false))]
      ∧ ((inState .withdrawn).sec.state = .withdrawn ∧ (inState .withdrawn).sec.noticeTimer.isSome = true) := by
  decide +kernel

theorem witness_WithdrawalBegins :
    joined.sec.state = .joined ∧ joined.ownSlot = some 2 ∧ Held (ejecting false joined).sec.eject false ∧ PortReady joined
      ∧ (inState .draining).sec.state ≠ .joined ∧ PortReady (inState .draining) := by
  unfold PortReady Held; decide +kernel

theorem witness_RejoinTaken :
    let w : State := { inState .withdrawn with sec := { (inState .withdrawn).sec with withdrawCause := some .card } }
    (PortReady w ∧ w.sec.eject.level = true ∧ w.sec.state = .withdrawn ∧ w.sec.withdrawCause = some .card)
      ∧ (PortReady (inState .conflict) ∧ (inState .conflict).sec.pwren = true ∧ (inState .conflict).sec.eject.level = true)
      ∧ (PortReady (inState .isolated) ∧ (inState .isolated).sec.pwren = true)
      ∧ (PortReady joined ∧ joined.sec.state ≠ .withdrawn ∧ joined.sec.state ≠ .conflict ∧ joined.sec.state ≠ .isolated) := by
  unfold PortReady; decide +kernel

/-- The outcomes of a load; a terminator that ends at byte 512 and one that would end at 513; an unknown item, an item
of a wrong length, and an item of the tabled length. -/
theorem witness_LoadComplete :
    let lengths := [0, 1, 1, 1, 2, 1, 1, 4, 2, 4, 1, 2, 1, 6, 6, 5, 5, 5, 5, 5, 5, 5, 5, 10]
    ((inState .config).sec.state = .config ∧ (inState .config).stl.load.isSome = true ∧ LawTable (inState .config))
      ∧ (judgeRecord (delivers record103)).defaulted = false
      ∧ judgeRecord (delivers [0xD5, 0x1D]) = .badMarker ∧ judgeRecord (delivers [0xD5, 0x1C, 1]) = .noTerminator
      ∧ ([0xD5, 0x1C, 9, 255] ++ List.replicate 255 (0 : Byte) ++ [9, 249] ++ List.replicate 249 0 ++ [9, 0]).length = 512
      ∧ lengths[(24#8).toNat]? ≠ some 1 ∧ lengths[(23#8).toNat]? = some 10 ∧ lengths[(10#8).toNat]? ≠ some 2 := by
  unfold LawTable; decide +kernel

theorem witness_CardResetAndHold :
    let pins := fun (hold crst : Bool) => ({ joined with cpt := { joined.cpt with hold := heldBehind hold, crst := heldBehind crst } } : State)
    (Held (pins true true).cpt.crst.toConditioner true ∧ Held (pins true true).cpt.hold.toConditioner true)
      ∧ (Held (pins false false).cpt.crst.toConditioner false ∧ Held (pins false false).cpt.hold.toConditioner false)
      ∧ ¬ Held joined.cpt.crst.toConditioner true
      ∧ (let s : State := { joined with rxp := { joined.rxp with refused := [3], readyLevel := 160 } }
         s.rxp.refused ≠ [] ∧ s.rxp.readyLevel ≤ 192) := by unfold Held; decide +kernel

/-- An incoming queue of 3 messages and one of 4; a message granted three edges after a byte boundary, one of which five
bits have gone out, and none; CRST conditioned held. -/
theorem witness_LinkEvents :
    let s := fun (n : Nat) => ({ joined with cpt := { joined.cpt with incoming := List.replicate n .nextEvent } } : State)
    let o := fun (n : Nat) (bits : List Bool) =>
      ({ joined with cpt := { joined.cpt with bits := bits, outgoing := some { message := .reply (.event 0 0), sent := n } } } : State)
    (s 3).cpt.crst.level = false ∧ (s 3).cpt.parser = .hunt ∧ (s 3).cpt.bits = [] ∧ (s 3).cpt.incoming.length < 4 ∧ (s 4).cpt.incoming.length = 4
      ∧ send0.wellFormed = true ∧ PortReady joined ∧ (s 3).cpt.outgoing = none
      ∧ ((o 0 [true, true, true]).cpt.crst.level = false ∧ (8 - (o 0 [true, true, true]).cpt.bits.length) % 8 = 5)
      ∧ (o 5 []).cpt.outgoing = some { message := .reply (.event 0 0), sent := 5 }
      ∧ ({ joined with cpt := { joined.cpt with crst := { joined.cpt.crst with level := true } } } : State).cpt.crst.level = true := by
  unfold PortReady; decide +kernel

/-- A SEND whose length field is wrong, one that is admitted, and one for each of the six refusals. -/
theorem witness_SendTaken :
    PortReady joined ∧ send0.lengthField.toNat = send0.payload.length
      ∧ ({ send0 with lengthField := 4 } : SendRequest).lengthField.toNat ≠ ({ send0 with lengthField := 4 } : SendRequest).payload.length
      ∧ sendJudgement send0 joined = .ok .control
      ∧ sendJudgement { send0 with cls := 0 } joined = .error .badRequest
      ∧ sendJudgement send0 (inState .draining) = .error .notJoined
      ∧ sendJudgement { send0 with dest := 4 } joined = .error .noPeer
      ∧ sendJudgement { send0 with cls := 2 } joined = .error .timeNotValid
      ∧ sendJudgement { send0 with cls := 2, due := some 499999999 } (withServo .locked joined) = .error .pastDue
      ∧ sendJudgement { send0 with cls := 2, due := some 500000000 } (withServo .locked joined) = .ok .deadline
      ∧ sendJudgement send0 { joined with txs := { joined.txs with storeFree := 0 } } = .error .queueFull := by
  unfold PortReady
  refine ⟨by decide +kernel, by decide +kernel, by decide +kernel, rfl, rfl, rfl, rfl, rfl, rfl, rfl, rfl⟩

/-- FORGET of slots 7 and 8 in a cabinet of 8, and of the own slot. -/
theorem witness_SmallMessages :
    PortReady joined ∧ (7#8).toNat = (7 : Slot).val ∧ (7 : Slot).val < joined.cabinet ∧ joined.ownSlot ≠ some 7
      ∧ ((withPeer 7 .gone joined).peer 7).state = .gone ∧ (joined.peer 7).state = .absent
      ∧ (joined.peer 3).state = .present ∧ joined.cabinet ≤ (8#8).toNat ∧ joined.ownSlot = some 2 ∧ LawSources joined
      ∧ joined.src.quality.val ≠ min (1#8).toNat 3
      ∧ ({ joined with src := { joined.src with capable := true } } : State).src.capable = true := by
  unfold PortReady LawSources LawSelection; decide +kernel

/-- The own slot, a slot outside the cabinet, and a peer with an age of 65,535 ms and a last sequence. -/
theorem witness_ReadsAnswered :
    let s := joined.setPeer 7 { PeerEntry.cleared with
      state := .present, age := some (125000 * 65535), sequence := { control := some 4, deadline := none, bulk := none } }
    PortReady joined ∧ (15#8).toNat = (15 : Slot).val ∧ 16 ≤ (16#8).toNat ∧ joined.ownSlot = some 2
      ∧ joined.cabinet ≤ (8 : Slot).val ∧ s.ownSlot ≠ some 7 ∧ (7 : Slot).val < s.cabinet
      ∧ (∀ e, e ∈ s.src.table → e.slot ≠ 7) ∧ (s.peer 7).age = some (125000 * 65535) := by
  unfold PortReady; decide +kernel

/-- Timers that are whole microseconds, announce ages that are whole milliseconds, and the source table out of its order,
one entry without age. -/
theorem witness_ReadItems :
    let a : SourceEntry := { slot := 3, quality := 1, priority := 0, age := some 250000 }
    let b : SourceEntry := { slot := 2, quality := 2, priority := 9, age := none }
    let w : State := { joined with
      tmu := { joined.tmu with holdoverTimer := some 250 }
      src := { joined.src with table := [b, a], syncTimeout := some 125, announceTimer := some 375, refTimeout := some 500 }
      alu := { joined.alu with intervalTimer := some 125, holdOffTimer := some 0 }
      sec := { joined.sec with powerGoodTimer := some 125, listenTimer := some 250, drainTimer := some 375,
                               goneTimer := some 500, noticeTimer := none } }
    (∀ x, x ∈ [w.sec.powerGoodTimer, w.sec.listenTimer, w.sec.drainTimer, w.sec.goneTimer, w.sec.noticeTimer,
        w.tmu.holdoverTimer, w.src.refTimeout, w.src.syncTimeout, w.src.announceTimer, w.alu.intervalTimer,
        w.alu.holdOffTimer] → ∀ n, n ∈ x → n % 125 = 0)
      ∧ [a, b].Perm w.src.table ∧ [a, b].Pairwise (fun x y => x.before y = true)
      ∧ (∀ x, x ∈ [a, b] → ∀ n, n ∈ x.age → n % 125000 = 0) := by
  decide +kernel

theorem witness_NextEventTaken :
    let s : State := { joined with cpt := { joined.cpt with events := [.seatingFault, .referenceLabelUsed] } }
    (PortReady s ∧ LawEvents s ∧ s.cpt.events = .seatingFault :: [.referenceLabelUsed]) ∧ (PortReady joined ∧ joined.cpt.events = []) := by
  unfold PortReady LawEvents; decide +kernel

theorem witness_ArbiterAndTransfers :
    let r : Reply := .event 0 0
    let s : State := { busy with cpt := { busy.cpt with replies := [r] } }
    (busy.cpt.outgoing = none ∧ busy.cpt.crst.level = false ∧ busy.cpt.replies = [] ∧ busy.cpt.results = []
        ∧ busy.cpt.hold.level = false ∧ busy.rxp.frames.length = 1)
      ∧ ((after .arbiterGrant s).cpt.outgoing = some { message := .reply r, sent := 0 }
        ∧ (after .arbiterGrant s).cpt.replies = r :: [] ∧ 0 ≠ 8 * (OutMessage.reply r).bytes.length)
      ∧ (after .arbiterGrant busy).cpt.outgoing.isSome = true
      ∧ (after .arbiterGrant busy).rxp.frames.map StoredFrame.inTransfer = [true] := by decide +kernel

end Sys2Proof.Tests
end

section
/-! The receive pool's address test (R47), and what a DATA frame that is not addressed to the station leaves behind. -/

namespace Sys2Proof.Machine

open Sys2Proof

/-! ### Addressed frames (R47) -/

/-- The own slot code, as the codes below 16 are compared with it. -/
theorem ownSlot_map_val_eq_some_iff (s : State) (n : Nat) :
    s.ownSlot.map Fin.val = some n ↔ ∃ own, s.ownSlot = some own ∧ n = own.val := by
  rw [Option.map_eq_some_iff]
  exact exists_congr fun _ => and_congr_right fun _ => eq_comm

/-- The three ways of R47 are told apart by the destination code: below 16 the own slot, 16 to 30 a group, 31 all. -/
theorem addressed_iff (s : State) (d : Dest) :
    s.addressed d = true ↔
      (∃ own, s.ownSlot = some own ∧ d.val = own.val)
        ∨ (16 ≤ d.val ∧ d.val ≤ 30 ∧ s.rxp.groups.getLsbD (d.val - 15) = true) ∨ d.val = 31 := by
  unfold State.addressed
  by_cases hslot : d.val < 16
  · have hgroup : ¬ 16 ≤ d.val := by omega
    have hall : d.val ≠ 31 := by omega
    simp only [hslot, hgroup, hall, if_true, decide_eq_true_eq, ownSlot_map_val_eq_some_iff, false_and, or_false]
  · have hown : ¬ ∃ own, s.ownSlot = some own ∧ d.val = own.val := by
      rintro ⟨own, -, hd⟩
      omega
    by_cases hall : d.val = 31
    · simp [hall]
    · have hcode : 16 ≤ d.val ∧ d.val ≤ 30 := by omega
      simp only [hslot, hall, hown, hcode, if_false, false_or, or_false, true_and]

/-- The address test reads the group membership and the straps alone. -/
theorem addressed_congr {s t : State} (hrxp : t.rxp = s.rxp) (hstl : t.stl = s.stl) (d : Dest) :
    t.addressed d = s.addressed d := by
  have hown : t.ownSlot = s.ownSlot := by unfold State.ownSlot; rw [hstl]
  simp only [State.addressed, hrxp, hown]

/-- The receive pool passes over a frame that is not addressed to the station. -/
theorem poolTake_of_not_addressed {f : DataFrame} {s : State} (h : s.addressed f.dest = false) : poolTake f s = s := by
  simp [poolTake, h]

/-! ### The entry update of a frame heard (R65) -/

/-- The hand-offs are idle where neither the update nor the frame's kind moves the sender's entry (R67). -/
theorem hearPeer_of_stays {i : Slot} {k : FrameKind} {body : List Byte} {act : State → State} {s : State}
    (hr : restarts k (s.peer i).state = false)
    (hs : ((act (updateEntry i k body s)).peer i).state = (s.peer i).state) :
    hearPeer i k body act s = act (updateEntry i k body s) := by
  unfold hearPeer
  dsimp only
  rw [hr, ← hs, handOff_same]

theorem heardState_peer (s : State) (i j : Slot) : (heardState s i).peer j = s.peer j := by simp [State.peer]

/-- The sender's entry after a DATA frame from a PRESENT or DRAINING peer, and every other entry (R65, R68). -/
theorem updateEntry_data_peer {i : Slot} {s : State} (body : List Byte)
    (h : (s.peer i).state = .present ∨ (s.peer i).state = .draining) (j : Slot) :
    (updateEntry i .data body s).peer j =
      if j = i then { s.peer i with age := some 0, frames := satAdd (s.peer i).frames 1 } else s.peer j := by
  obtain ⟨hstate, hrestart⟩ := stateAfter_stays (k := .data) (by simp) h
  rw [updateEntry_peer, hrestart, hstate]
  rfl

theorem heardState_onlyEventsPlaced (s : State) (i : Slot) : OnlyEventsPlaced s (heardState s i) :=
  ⟨by apply Cpt.ext <;> simp, fun _ he => heardState_events s i he⟩

theorem updateEntry_onlyEventsPlaced (i : Slot) (k : FrameKind) (body : List Byte) (s : State) :
    OnlyEventsPlaced s (updateEntry i k body s) :=
  ⟨by apply Cpt.ext <;> simp, fun _ he => updateEntry_events s i k body he⟩

theorem heardState_counter (s : State) (i : Slot) (j : CounterId) :
    (heardState s i).counter j = if j = .framesHeard then satAdd (s.counter .framesHeard) 1 else s.counter j :=
  counter_bump .framesHeard j s

/-! ### A DATA frame that is not addressed (R47) -/

theorem exec_dataHeard (f : DataFrame) (s : State) :
    exec (.dataHeard f) s = .next (hearFrame f.source .data f.payload (fun _ => poolTake f) s) := by rfl

section
variable {f : DataFrame} {stamp : FullTime} {s : State}

/-- The state a DATA frame leaves when the receive pool passes over it: the bus and the sender's entry have taken it. -/
def passedOver (f : DataFrame) (s : State) : State := updateEntry f.source .data f.payload (heardState s f.source)

/-- From a PRESENT or DRAINING peer the entry update of the frame changes the entry and COUNTER SATURATED alone (R65). -/
theorem passedOver_txs_counters (hp : (s.peer f.source).state = .present ∨ (s.peer f.source).state = .draining) :
    (passedOver f s).txs = s.txs ∧ (passedOver f s).counters = (heardState s f.source).counters := by
  rw [← heardState_peer s f.source] at hp
  obtain ⟨htxs, hcounters⟩ := updateEntry_no_restart f.source .data f.payload (heardState s f.source)
    (stateAfter_stays (by simp) hp).2
  exact ⟨htxs.trans (by simp), hcounters⟩

theorem passedOver_peer (hp : (s.peer f.source).state = .present ∨ (s.peer f.source).state = .draining) (j : Slot) :
    (passedOver f s).peer j =
      if j = f.source then { s.peer f.source with age := some 0, frames := satAdd (s.peer f.source).frames 1 }
      else s.peer j := by
  simp only [← heardState_peer s f.source] at hp ⊢
  exact updateEntry_data_peer f.payload hp j

theorem passedOver_counter (hp : (s.peer f.source).state = .present ∨ (s.peer f.source).state = .draining)
    (j : CounterId) :
    (passedOver f s).counter j = if j = .framesHeard then satAdd (s.counter .framesHeard) 1 else s.counter j :=
  (counter_congr (passedOver_txs_counters hp).2 j).trans (heardState_counter s f.source j)

theorem passedOver_onlyEventsPlaced (f : DataFrame) (s : State) : OnlyEventsPlaced s (passedOver f s) :=
  onlyEventsPlaced_trans (heardState_onlyEventsPlaced s f.source) (updateEntry_onlyEventsPlaced _ _ _ _)

theorem passedOver_sameOutside (hp : (s.peer f.source).state = .present ∨ (s.peer f.source).state = .draining) :
    SameOutside [.bau, .ptb, .cpt, .counters] s (passedOver f s) := by
  have htxs := (passedOver_txs_counters hp).1
  intro b hb
  cases b with
  | bau | ptb | cpt | counters => simp at hb
  | txs => exact htxs
  | rxp | tmu | src | sec | alu | stl | pins | pending => simp [Block.same, passedOver]

/-- DATA_HEARD with a frame for others: the entry update, no decision of the pool, nothing to hand off or to report. -/
theorem exec_dataHeard_of_not_addressed (hh : Hearing s f.source stamp) (ha : s.addressed f.dest = false)
    (hp : (s.peer f.source).state = .present ∨ (s.peer f.source).state = .draining) (hd : LawDrained s) :
    exec (.dataHeard f) s = .next (passedOver f s) := by
  have hpool : poolTake f (passedOver f s) = passedOver f s := by
    have hrxp : (passedOver f s).rxp = s.rxp := by simp [passedOver]
    have hstl : (passedOver f s).stl = s.stl := by simp [passedOver]
    exact poolTake_of_not_addressed ((addressed_congr hrxp hstl f.dest).trans ha)
  have hpeer : hearPeer f.source .data f.payload (poolTake f) (heardState s f.source) = passedOver f s := by
    have hrestart := (stateAfter_stays (k := .data) (by simp) hp).2
    rw [← heardState_peer s f.source] at hrestart
    refine (hearPeer_of_stays hrestart ?_).trans hpool
    change ((poolTake f (passedOver f s)).peer f.source).state = _
    rw [hpool, passedOver_peer hp, heardState_peer, if_pos rfl]
  have hreport : reportDrained (passedOver f s) = passedOver f s := by
    have htxs := (passedOver_txs_counters hp).1
    apply reportDrained_of_lawDrained hd
    · simp [passedOver]
    · rw [htxs]
    · simp only [State.queued, State.queue, htxs]
    · simp [passedOver, heardBus]
  rw [exec_dataHeard, hearFrame_of_hearing hh, hpeer, hreport]

end

/-- Settles O38: the address test by the range of the destination code, the receive pool by its first branch, and the
whole command by the state `passedOver`. -/
theorem dataAddressed : Obligations.DataAddressed := by
  unfold Obligations.DataAddressed
  refine ⟨fun d s => addressed_iff s d, fun f s h => poolTake_of_not_addressed h, fun f stamp s hh ha hp hd => ?_⟩
  refine ⟨passedOver f s, exec_dataHeard_of_not_addressed hh ha hp hd, by simp [passedOver], ?_, ?_, ?_, ?_,
    passedOver_onlyEventsPlaced f s, passedOver_sameOutside hp⟩
  · rw [passedOver_peer hp, if_pos rfl]
  · intro j hj
    rw [passedOver_peer hp, if_neg hj]
  · rw [Counted, passedOver_counter hp, if_pos rfl]
  · intro j hj
    rw [passedOver_counter hp, if_neg (by simpa using hj)]

end Sys2Proof.Machine
end

section
/-! The clear of an alarm key (R160): the entry of a key in a table whose keys differ, the table a change leaves, and
the raise that follows on a key without entry and mark (R159). -/

namespace Sys2Proof.Machine

open Sys2Proof

/-! ### The entry of a key (R162) -/

theorem findEntry_eq_none_iff (k : AlarmKey) (table : List AlarmEntry) :
    findEntry k table = none ↔ ∀ e, e ∈ table → e.key ≠ k := by
  simp [findEntry]

theorem mem_and_key_of_findEntry {k : AlarmKey} {table : List AlarmEntry} {e : AlarmEntry}
    (hfind : findEntry k table = some e) : e ∈ table ∧ e.key = k := by
  unfold findEntry at hfind
  exact ⟨List.mem_of_find?_eq_some hfind, by simpa using List.find?_some hfind⟩

section
variable {table : List AlarmEntry} {e x : AlarmEntry}

/-- Two entries of one key are one entry, where the keys of the table differ. -/
theorem entry_eq_of_key_eq (hnodup : (table.map AlarmEntry.key).Nodup) (hx : x ∈ table) (he : e ∈ table)
    (hkey : x.key = e.key) : x = e := by
  induction table with
  | nil => exact absurd hx List.not_mem_nil
  | cons a rest ih =>
    obtain ⟨hfresh, hrest⟩ := List.nodup_cons.mp (List.map_cons ▸ hnodup)
    have ha : ∀ y, y ∈ rest → y.key ≠ a.key := fun y hy hya => hfresh (hya ▸ List.mem_map_of_mem hy)
    obtain rfl | hxrest := List.mem_cons.mp hx <;> obtain rfl | herest := List.mem_cons.mp he
    · rfl
    · exact absurd hkey.symm (ha e herest)
    · exact absurd hkey (ha x hxrest)
    · exact ih hrest hxrest herest

theorem findEntry_key_of_mem (hnodup : (table.map AlarmEntry.key).Nodup) (he : e ∈ table) :
    findEntry e.key table = some e := by
  cases hfind : findEntry e.key table with
  | none => exact absurd rfl ((findEntry_eq_none_iff e.key table).mp hfind e he)
  | some x =>
    obtain ⟨hx, hkey⟩ := mem_and_key_of_findEntry hfind
    exact congrArg some (entry_eq_of_key_eq hnodup hx he hkey)

/-- To replace an entry by a function of it is to apply the function to every entry of its key. -/
theorem replaceEntry_eq_map (hnodup : (table.map AlarmEntry.key).Nodup) (he : e ∈ table)
    {f : AlarmEntry → AlarmEntry} (hf : (f e).key = e.key) :
    replaceEntry (f e) table = table.map (fun x => if x.key = e.key then f x else x) := by
  unfold replaceEntry
  refine List.map_congr_left fun x hx => ?_
  rw [hf]
  split
  next hkey => rw [entry_eq_of_key_eq hnodup hx he hkey]
  next => rfl

end

/-! ### What a table change leaves (R164) -/

@[simp] theorem changeTable_table (table : List AlarmEntry) (overflow : Bool) (s : State) :
    (changeTable table overflow s).alu.table = table := by
  simp [changeTable]

@[simp] theorem changeTable_overflow (table : List AlarmEntry) (overflow : Bool) (s : State) :
    (changeTable table overflow s).alu.overflow = overflow := by
  simp [changeTable]

/-! ### A clear by what the table holds of the key (R160) -/

section
variable {k : AlarmKey} {e : AlarmEntry} {s : State}

theorem clearKey_of_active (hfind : findEntry k s.alu.table = some e) (hstate : e.state = .active) :
    clearKey k s =
      changeTable (replaceEntry { e with state := .cleared, lastChange := s.tmu.time.seconds } s.alu.table)
        s.alu.overflow s := by
  simp only [clearKey, hfind, hstate]

theorem clearKey_of_acked (hfind : findEntry k s.alu.table = some e) (hstate : e.state = .acked) :
    clearKey k s = removeEntry k s := by
  simp only [clearKey, hfind, hstate]

theorem clearKey_of_cleared (hfind : findEntry k s.alu.table = some e) (hstate : e.state = .cleared) :
    clearKey k s = s := by
  simp only [clearKey, hfind, hstate]

theorem clearKey_of_no_entry (hnone : ∀ e, e ∈ s.alu.table → e.key ≠ k) : clearKey k s = unmarkKey k s := by
  simp only [clearKey, (findEntry_eq_none_iff k s.alu.table).mpr hnone]

/-! ### The suppression mark removed, and the raise after it (R159, R160) -/

theorem unmarkKey_of_not_mem (hmark : k ∉ s.alu.suppressed) : unmarkKey k s = s := by
  have hfilter : s.alu.suppressed.filter (fun x => !(x == k)) = s.alu.suppressed := by
    rw [List.filter_eq_self]
    intro x hx
    simpa using ne_of_mem_of_not_mem hx hmark
  rw [unmarkKey, hfilter]

theorem not_mem_unmarkKey_suppressed (k : AlarmKey) (s : State) : k ∉ (unmarkKey k s).alu.suppressed := by
  simp [unmarkKey]

/-- A raise is taken as a new one: neither mark nor entry of the key, and room in the table (R159). -/
theorem raiseKey_table_of_room (v : Severity) (hmark : k ∉ s.alu.suppressed)
    (hnone : ∀ e, e ∈ s.alu.table → e.key ≠ k) (hroom : s.alu.table.length < Config.alarmEntries) :
    (raiseKey k v s).alu.table = s.alu.table ++ [freshEntry k v s.tmu.time.seconds] := by
  simp [raiseKey, hmark, (findEntry_eq_none_iff k s.alu.table).mpr hnone, hroom]

end

/-- Settles O25: by the entry the table holds of the key, which the distinct keys of the eighth law make the only one,
and without an entry by the suppression mark. -/
theorem clearOfKey : Obligations.ClearOfKey := by
  unfold Obligations.ClearOfKey
  rintro k s ⟨-, hnodup⟩
  refine ⟨?entry, fun hnone => ⟨fun _ => ⟨?unmarked, fun v hroom => ?raised⟩, fun hmark => ?neither⟩⟩
  case entry =>
    rintro e he rfl
    have hfind := findEntry_key_of_mem hnodup he
    refine ⟨fun hactive => ?_, fun hacked => ?_, clearKey_of_cleared hfind⟩
    · rw [clearKey_of_active hfind hactive, changeTable_table]
      exact replaceEntry_eq_map hnodup he
        (f := fun x => { x with state := .cleared, lastChange := s.tmu.time.seconds }) rfl
    · rw [clearKey_of_acked hfind hacked]
      exact ⟨changeTable_table _ _ _, changeTable_overflow _ _ _⟩
  case unmarked => exact clearKey_of_no_entry hnone
  case raised =>
    rw [clearKey_of_no_entry hnone]
    exact raiseKey_table_of_room (s := unmarkKey k s) v (not_mem_unmarkKey_suppressed k s) hnone hroom
  case neither => rw [clearKey_of_no_entry hnone, unmarkKey_of_not_mem hmark]

end Sys2Proof.Machine
end

section
/-! The laws of the part as one family of predicates on a state, and the shared operations, the alarm unit and the
transmit scheduler, each of which keeps every law (spec 00, section 1). One lemma an operation serves all the laws. -/

namespace Sys2Proof.Machine

open Sys2Proof

/-! ### The family of laws -/

/-- The laws that a command keeps, named. `silent` (nothing of this station on the pair) and `timeIs` (cabinet time is
this one) are no laws of the part: they say what the sixth and seventh law forbid to change. -/
inductive Law where
  | queued | store | pool | rate | drive | table | alert | sources | sourceLost | gate | lines | events | summary | relays | silent
  | timeIs (x : FullTime)

/-- A list of alarm entries that the eighth law allows (R162). -/
def TableOk (l : List AlarmEntry) : Prop := l.length ≤ Config.alarmEntries ∧ (l.map AlarmEntry.key).Nodup

/-- The condition a law puts on a state. -/
def Law.holds : Law → State → Prop
  | .queued, s => LawQueued s
  | .store, s => LawStore s
  | .pool, s => LawPool s
  | .rate, s => LawRate s
  | .drive, s => LawDrive s
  | .table, s => LawTable s
  | .alert, s => LawAlert s
  | .sources, s => LawSources s
  | .sourceLost, s => LawSourceLost s
  | .gate, s => LawGate s
  | .lines, s => LawLines s
  | .events, s => LawEvents s
  | .summary, s => LawSummary s
  | .relays, s => LawRelays s
  | .silent, s => s.bau.tx = none
  | .timeIs x, s => s.tmu.time = x

section
variable (s : State)

/-! What each law reads of the state, for `simp`. -/

@[simp] theorem Law.holds_queued : Law.queued.holds s ↔
    s.txs.queues.control.length + s.txs.queues.deadline.length + s.txs.queues.bulk.length + s.cpt.results.length
      ≤ Config.queuedLimit := Iff.rfl

@[simp] theorem Law.holds_store : Law.store.holds s ↔
    s.txs.storeFree + (unitsOf s.txs.queues.control + unitsOf s.txs.queues.deadline + unitsOf s.txs.queues.bulk)
      = Config.storeUnits := Iff.rfl

@[simp] theorem Law.holds_pool : Law.pool.holds s ↔ s.rxp.free + poolHeld s.rxp.frames = Config.poolUnits := Iff.rfl

@[simp] theorem Law.holds_rate : Law.rate.holds s ↔
    (-Config.rateLimit ≤ s.tmu.rate ∧ s.tmu.rate ≤ Config.rateLimit)
      ∧ (-Config.rateLimit ≤ s.tmu.integral ∧ s.tmu.integral ≤ Config.rateLimit) := Iff.rfl

@[simp] theorem Law.holds_drive :
    Law.drive.holds s ↔ s.sec.drven = drvenIn s.sec.state ∧ s.sec.rmvok = rmvokIn s.sec.state := Iff.rfl

@[simp] theorem Law.holds_table : Law.table.holds s ↔ TableOk s.alu.table := Iff.rfl

@[simp] theorem Law.holds_alert : Law.alert.holds s ↔ s.alu.alertDrive = alertDue s.alu.table := Iff.rfl

@[simp] theorem Law.holds_sources : Law.sources.holds s ↔
    (s.src.table.map SourceEntry.slot).Pairwise (· < ·)
      ∧ s.src.selection = (bestSource s.src.table).map SourceEntry.slot := Iff.rfl

@[simp] theorem Law.holds_sourceLost : Law.sourceLost.holds s ↔
    s.src.sourceLost = (decide (s.sec.state = .joined) && s.src.selection.isNone) := Iff.rfl

@[simp] theorem Law.holds_gate : Law.gate.holds s ↔ s.tmu.gateOpen = validIn s.tmu.servo s.src.role := Iff.rfl

@[simp] theorem Law.holds_lines : Law.lines.holds s ↔
    s.cpt.urgent = lineAsserted s.cpt.eventMap s.cpt.events .urgent
      ∧ s.cpt.attention = lineAsserted s.cpt.eventMap s.cpt.events .attention := Iff.rfl

@[simp] theorem Law.holds_events : Law.events.holds s ↔ s.cpt.events.Pairwise (fun a b => a.number < b.number) := Iff.rfl

@[simp] theorem Law.holds_summary : Law.summary.holds s ↔ s.alu.summary = s.summaryNow := Iff.rfl

@[simp] theorem Law.holds_relays : Law.relays.holds s ↔ s.alu.crit = s.critDue ∧ s.alu.maj = s.majDue := Iff.rfl

@[simp] theorem Law.holds_silent : Law.silent.holds s ↔ s.bau.tx = none := Iff.rfl

@[simp] theorem Law.holds_timeIs (x : FullTime) : (Law.timeIs x).holds s ↔ s.tmu.time = x := Iff.rfl

end

variable {l : Law} {s : State}

/-- The two laws of the alarm picture: the current summary's and the relays' (R165, R172). -/
def Law.ofPicture (l : Law) : Prop := l = .summary ∨ l = .relays

theorem Law.holds_of_picture (hl : l.ofPicture) (h : LawSummary s ∧ LawRelays s) : l.holds s := by
  obtain rfl | rfl := hl
  · exact h.1
  · exact h.2

/-- What the laws of the alarm picture read. -/
theorem picture_congr {t : State} (hl : l.ofPicture) (hlost : countPeers t.ptb .lost = countPeers s.ptb .lost)
    (hgone : countPeers t.ptb .gone = countPeers s.ptb .gone) (hstored : highestStored t.ptb = highestStored s.ptb)
    (halu : t.alu.table = s.alu.table ∧ t.alu.overflow = s.alu.overflow ∧ t.alu.summary = s.alu.summary
      ∧ t.alu.collector = s.alu.collector ∧ t.alu.alert.level = s.alu.alert.level ∧ t.alu.crit = s.alu.crit
      ∧ t.alu.maj = s.alu.maj)
    (h : l.holds s) : l.holds t := by
  obtain ⟨htable, hover, hsum, hcoll, halert, hcrit, hmaj⟩ := halu
  have hsev : t.cabinetSeverity = s.cabinetSeverity := by
    simp only [State.cabinetSeverity, hstored, hsum, hlost]
  obtain rfl | rfl := hl
  · have hnow : t.summaryNow = s.summaryNow := by simp only [State.summaryNow, hlost, hgone, htable, hover]
    rw [Law.holds_summary] at h ⊢
    rw [hsum, hnow, h]
  · rw [Law.holds_relays] at h ⊢
    have hcritDue : t.critDue = s.critDue := by simp only [State.critDue, hcoll, halert, hsev]
    have hmajDue : t.majDue = s.majDue := by simp only [State.majDue, hcoll, hsev]
    rwa [hcrit, hmaj, hcritDue, hmajDue]

/-! ### Shared operations -/

theorem eventCatalogue_sorted : eventCatalogue.Pairwise (fun a b => a.number < b.number) := by decide

theorem signal_keeps (e : EventKind) (h : l.holds s) : l.holds (signal e s) := by
  cases l with
  | lines => exact signal_lawLines s e
  | events =>
    rw [Law.holds_events, signal_cpt_events]
    exact eventCatalogue_sorted.filter _
  | _ => exact h

theorem bumpBy_keeps (i : CounterId) (k : Nat) (h : l.holds s) : l.holds (bumpBy i k s) := by
  have hset : l.holds { s with counters := s.counters.set i.index.val (satAdd (s.counter i) k) i.index.isLt } := by
    cases l <;> exact h
  unfold bumpBy
  dsimp only
  split
  · exact signal_keeps _ hset
  · exact hset

theorem bump_keeps (i : CounterId) (h : l.holds s) : l.holds (bump i s) := bumpBy_keeps i 1 h

theorem signalIfSaturated_keeps (o n : Counter) (h : l.holds s) : l.holds (signalIfSaturated o n s) := by
  unfold signalIfSaturated
  split
  · exact signal_keeps _ h
  · exact h

/-- What the alarm picture reads of a peer entry: whether it is LOST, whether it is GONE, and its stored summary (R80,
R165). -/
def PeerEntry.view (e : PeerEntry) : Bool × Bool × Option Summary :=
  (decide (e.state = .lost), decide (e.state = .gone), e.summary)

theorem PeerEntry.view_eq {a b : PeerEntry} (hcount : countChanges a.state b.state = false)
    (hsummary : b.summary = a.summary) : b.view = a.view := by
  simp only [countChanges, Bool.or_eq_false_iff, bne_eq_false_iff_eq] at hcount
  simp only [PeerEntry.view, hcount.1, hcount.2, hsummary]

@[simp] theorem countChanges_self (a : PeerState) : countChanges a a = false := by simp [countChanges]

theorem length_filter_map {α β : Type} (f : α → β) (p : β → Bool) (q : List α) :
    (q.filter (fun x => p (f x))).length = ((q.map f).filter p).length := by
  rw [List.filter_map, List.length_map]
  rfl

/-- Peer tables of the same view have the same counts of LOST and GONE entries and the same highest severity. -/
theorem peerView_congr {p q : Vector PeerEntry 16} (h : p.toList.map PeerEntry.view = q.toList.map PeerEntry.view) :
    countPeers p .lost = countPeers q .lost ∧ countPeers p .gone = countPeers q .gone
      ∧ highestStored p = highestStored q := by
  have hlost := length_filter_map PeerEntry.view (fun v => v.1)
  have hgone := length_filter_map PeerEntry.view (fun v => v.2.1)
  have hstored : ∀ (l : List PeerEntry) (a : Option Severity),
      l.foldl (fun acc e => higher acc (e.summary.bind Summary.highest)) a
        = (l.map PeerEntry.view).foldl (fun acc v => higher acc (v.2.2.bind Summary.highest)) a :=
    fun l a => by rw [List.foldl_map]; rfl
  refine ⟨(hlost p.toList).trans ((congrArg _ (congrArg _ h)).trans (hlost q.toList).symm),
    (hgone p.toList).trans ((congrArg _ (congrArg _ h)).trans (hgone q.toList).symm), ?_⟩
  rw [highestStored, highestStored, hstored, hstored, h]

/-- A replaced peer table keeps the laws where it shows the same view. -/
theorem setPtb_keeps {p : Vector PeerEntry 16}
    (hview : l.ofPicture → p.toList.map PeerEntry.view = s.ptb.toList.map PeerEntry.view) (h : l.holds s) :
    l.holds { s with ptb := p } := by
  by_cases hl : l.ofPicture
  · obtain ⟨hlost, hgone, hstored⟩ := peerView_congr (hview hl)
    exact picture_congr hl hlost hgone hstored ⟨rfl, rfl, rfl, rfl, rfl, rfl, rfl⟩ h
  · cases l with
    | summary => exact absurd (.inl rfl) hl
    | relays => exact absurd (.inr rfl) hl
    | _ => exact h

theorem toList_mapVector {α β : Type} {n : Nat} (f : α → β) (v : Vector α n) : (mapVector f v).toList = v.toList.map f := rfl

theorem map_view_mapVector {f : PeerEntry → PeerEntry} (hf : ∀ e, (f e).view = e.view) (p : Vector PeerEntry 16) :
    (mapVector f p).toList.map PeerEntry.view = p.toList.map PeerEntry.view := by
  rw [toList_mapVector, List.map_map]
  exact List.map_congr_left fun e _ => hf e

theorem map_set_of_eq {α β : Type} {f : α → β} {q : List α} {n : Nat} {x : α} (hn : n < q.length) (h : f x = f q[n]) :
    (q.set n x).map f = q.map f := by
  rw [List.map_set, h, ← List.getElem_map f (h := by simpa using hn), List.set_getElem_self]

theorem setPeer_keeps {i : Slot} {e : PeerEntry}
    (hview : l.ofPicture → countChanges (s.peer i).state e.state = false ∧ e.summary = (s.peer i).summary)
    (h : l.holds s) : l.holds (s.setPeer i e) := by
  refine setPtb_keeps (fun hl => ?_) h
  obtain ⟨hcount, hsummary⟩ := hview hl
  rw [Vector.toList_set]
  exact map_set_of_eq (by simp) (by simpa [State.peer] using PeerEntry.view_eq hcount hsummary)

theorem countFrame_keeps (i : Slot) (h : l.holds s) : l.holds (countFrame i s) :=
  signalIfSaturated_keeps _ _ (setPeer_keeps (fun _ => ⟨countChanges_self _, rfl⟩) h)

theorem countGap_keeps (i : Slot) (k : Nat) (h : l.holds s) : l.holds (countGap i k s) :=
  signalIfSaturated_keeps _ _ (setPeer_keeps (fun _ => ⟨countChanges_self _, rfl⟩) h)

theorem countDuplicate_keeps (i : Slot) (h : l.holds s) : l.holds (countDuplicate i s) :=
  signalIfSaturated_keeps _ _ (setPeer_keeps (fun _ => ⟨countChanges_self _, rfl⟩) h)

theorem setSlots_keeps (t : Slots) (h : l.holds s) : l.holds (s.setSlots t) := by cases l <;> exact h

theorem request_keeps (k : InternalKind) (h : l.holds s) : l.holds (request k s) := setSlots_keeps _ h

theorem requestWithdraw_keeps (c : WithdrawCause) (h : l.holds s) : l.holds (requestWithdraw c s) := setSlots_keeps _ h

theorem requestGone_keeps (forced : Bool) (h : l.holds s) : l.holds (requestGone forced s) := setSlots_keeps _ h

/-! ### The alarm unit -/

theorem refreshSummary_summary (s : State) : (refreshSummary s).alu.summary = s.summaryNow := by
  unfold refreshSummary
  split
  next hsame => exact hsame.symm
  next => rfl

theorem summaryNow_refreshSummary (s : State) : (refreshSummary s).summaryNow = s.summaryNow := by
  simp [State.summaryNow]

/-- Brought up to date, the alarm picture is the one the table and the peer view give (R80, R165, R172). -/
theorem noticePeerView_picture (s : State) : LawSummary (noticePeerView s) ∧ LawRelays (noticePeerView s) := by
  refine ⟨?_, rfl, rfl⟩
  change (refreshSummary s).alu.summary = (refreshSummary s).summaryNow
  rw [refreshSummary_summary, summaryNow_refreshSummary]

theorem noticePeerView_keeps (h : l.holds s) : l.holds (noticePeerView s) := by
  cases l with
  | summary => exact (noticePeerView_picture s).1
  | relays => exact (noticePeerView_picture s).2
  | _ => simpa using h

/-- A table change leaves the alarm picture, and the alert drive, as the table gives them (R164, R165, R170, R172). -/
theorem changeTable_picture (table : List AlarmEntry) (overflow : Bool) (s : State) :
    LawSummary (changeTable table overflow s) ∧ LawRelays (changeTable table overflow s) := noticePeerView_picture _

theorem changeTable_alertDrive (table : List AlarmEntry) (overflow : Bool) (s : State) :
    (changeTable table overflow s).alu.alertDrive = alertDue table := by
  simp [changeTable, refreshAlert]

theorem changeTable_keeps {table : List AlarmEntry} {overflow : Bool} (htable : LawTable s → TableOk table)
    (h : l.holds s) : l.holds (changeTable table overflow s) := by
  cases l with
  | summary => exact (changeTable_picture table overflow s).1
  | relays => exact (changeTable_picture table overflow s).2
  | alert =>
    rw [Law.holds_alert, changeTable_alertDrive, changeTable_table]
  | table =>
    rw [Law.holds_table, changeTable_table]
    exact htable h
  | lines =>
    have hsignal := signal_lawLines { s with alu := { s.alu with table := table, overflow := overflow } } .alarmTableChange
    simpa [changeTable, LawLines] using hsignal
  | events =>
    have hsignal := signal_keeps (l := .events)
      (s := { s with alu := { s.alu with table := table, overflow := overflow } }) .alarmTableChange h
    simpa [changeTable] using hsignal
  | _ => simpa using h

theorem markKey_keeps (k : AlarmKey) (h : l.holds s) : l.holds (markKey k s) := by cases l <;> exact h

theorem unmarkKey_keeps (k : AlarmKey) (h : l.holds s) : l.holds (unmarkKey k s) := by cases l <;> exact h

theorem setInput_keeps (n : Fin 8) (x : AlarmInput) (h : l.holds s) : l.holds (s.setInput n x) := by
  cases l <;> exact h

theorem setCause_keeps (n : Fin 8) (on : Bool) (h : l.holds s) : l.holds (setCause n on s) := setInput_keeps n _ h

theorem evictCause_keeps (e : AlarmEntry) (h : l.holds s) : l.holds (evictCause e s) := by
  unfold evictCause
  split
  · exact h
  · split
    · split
      · exact setCause_keeps _ _ h
      · exact markKey_keeps _ h
    · exact markKey_keeps _ h

/-! #### Tables that the eighth law allows -/

section
variable {table : List AlarmEntry} {k : AlarmKey} {e : AlarmEntry}

theorem map_key_replaceEntry (e : AlarmEntry) (table : List AlarmEntry) :
    (replaceEntry e table).map AlarmEntry.key = table.map AlarmEntry.key := by
  unfold replaceEntry
  rw [List.map_map]
  refine List.map_congr_left fun x _ => ?_
  by_cases hkey : x.key = e.key <;> simp [hkey]

theorem tableOk_replaceEntry (h : TableOk table) : TableOk (replaceEntry e table) := by
  refine ⟨?_, ?_⟩
  · rw [← List.length_map (f := AlarmEntry.key), map_key_replaceEntry, List.length_map]
    exact h.1
  · rw [map_key_replaceEntry]
    exact h.2

theorem tableOk_filter (p : AlarmEntry → Bool) (h : TableOk table) : TableOk (table.filter p) :=
  ⟨Nat.le_trans (List.length_filter_le _ _) h.1, h.2.sublist (List.filter_sublist.map _)⟩

theorem tableOk_append (h : TableOk table) (hroom : table.length < Config.alarmEntries)
    (hnew : ∀ x, x ∈ table → x.key ≠ e.key) : TableOk (table ++ [e]) := by
  refine ⟨by rw [List.length_append]; exact hroom, ?_⟩
  rw [List.map_append, List.nodup_append]
  refine ⟨h.2, by simp, ?_⟩
  simp only [List.mem_map, List.map_cons, List.map_nil, List.mem_singleton]
  rintro _ ⟨x, hx, rfl⟩ _ rfl
  exact hnew x hx

/-- The entry of a key taken out leaves room for one (R162). -/
theorem length_dropEntry_lt (he : e ∈ table) : (dropEntry e.key table).length < table.length :=
  List.length_filter_lt_length_iff_exists.mpr ⟨e, he, by simp⟩

theorem lowestOldest_mem {table : List AlarmEntry} {e : AlarmEntry} (h : lowestOldest table = some e) : e ∈ table := by
  induction table generalizing e with
  | nil => cases h
  | cons a rest ih =>
    unfold lowestOldest at h
    split at h
    · cases h
      exact List.mem_cons_self
    · rename_i m hm
      split at h
      · cases h
        exact List.mem_cons_of_mem _ (ih hm)
      · cases h
        exact List.mem_cons_self

/-- A victim is an entry of the table, CLEARED or of a lower severity than the raise (R162). -/
theorem findVictim_some {v : Severity} (h : findVictim table v = some e) :
    e ∈ table ∧ (e.state = .cleared ∨ e.severity.below v = true) := by
  unfold findVictim at h
  split at h
  · rename_i x hx
    cases h
    have hmem := List.mem_filter.mp (lowestOldest_mem hx)
    exact ⟨hmem.1, .inl (by simpa using hmem.2)⟩
  · split at h
    · rename_i x hx
      cases h
      have hmem := List.mem_filter.mp (lowestOldest_mem hx)
      exact ⟨hmem.1, .inr (by simpa using (Bool.and_eq_true _ _ ▸ hmem.2).2)⟩
    · have hmem := List.mem_filter.mp (lowestOldest_mem h)
      exact ⟨hmem.1, .inr (by simpa using (Bool.and_eq_true _ _ ▸ hmem.2).2)⟩

end

theorem raiseKey_keeps (k : AlarmKey) (v : Severity) (h : l.holds s) : l.holds (raiseKey k v s) := by
  unfold raiseKey
  split
  · exact h
  · split
    · split
      · exact h
      · exact changeTable_keeps (fun ht => tableOk_replaceEntry ht) h
    · rename_i hnone
      have hnew := (findEntry_eq_none_iff k s.alu.table).mp hnone
      split
      next hroom => exact changeTable_keeps (fun ht => tableOk_append ht hroom hnew) h
      next hfull =>
        split
        · rename_i e hvictim
          refine changeTable_keeps (fun ht => ?_) (evictCause_keeps e (bump_keeps .evictions h))
          replace ht : TableOk s.alu.table := by simpa [LawTable, TableOk] using ht
          refine tableOk_append (tableOk_filter _ ht) ?_ fun x hx => hnew x (List.mem_filter.mp hx).1
          exact Nat.lt_of_lt_of_le (length_dropEntry_lt (findVictim_some hvictim).1) ht.1
        · have hmarked := markKey_keeps k (bump_keeps .raisesDropped h)
          dsimp only
          split
          · exact hmarked
          · refine changeTable_keeps (fun ht => ?_) hmarked
            simpa [LawTable, TableOk] using ht

theorem raiseInternal_keeps (k : AlarmKey) (h : l.holds s) : l.holds (raiseInternal k s) := raiseKey_keeps k _ h

theorem removeEntry_keeps (k : AlarmKey) (h : l.holds s) : l.holds (removeEntry k s) :=
  changeTable_keeps (fun ht => tableOk_filter _ ht) h

theorem clearKey_keeps (k : AlarmKey) (h : l.holds s) : l.holds (clearKey k s) := by
  unfold clearKey
  split
  · split
    · exact changeTable_keeps (fun ht => tableOk_replaceEntry ht) h
    · exact removeEntry_keeps k h
    · exact h
  · exact unmarkKey_keeps k h

theorem ackEntry_keeps (e : AlarmEntry) (h : l.holds s) : l.holds (ackEntry e s) := by
  have hacked := changeTable_keeps (overflow := s.alu.overflow) (fun ht => tableOk_replaceEntry
    (e := { e with state := .acked, lastChange := s.tmu.time.seconds }) ht) h
  unfold ackEntry
  dsimp only
  split
  · exact removeEntry_keeps _ h
  · exact h
  · split
    · split
      · exact setCause_keeps _ _ (removeEntry_keeps _ h)
      · exact hacked
    · exact hacked

theorem resetCardAlarms_keeps (h : l.holds s) : l.holds (resetCardAlarms s) := by
  have hmarks : l.holds { s with alu := { s.alu with
      suppressed := s.alu.suppressed.filter (fun k => !isCardKey k) } } := by cases l <;> exact h
  unfold resetCardAlarms
  dsimp only
  split
  · exact changeTable_keeps (fun ht => tableOk_filter _ ht) hmarks
  · exact hmarks

theorem assertInput_keeps (n : Fin 8) (h : l.holds s) : l.holds (assertInput n s) := by
  unfold assertInput
  dsimp only
  split
  · split
    · exact setInput_keeps n _ h
    · exact raiseKey_keeps _ _ (setCause_keeps n _ (setInput_keeps n _ h))
  · exact h

theorem endInputCause_keeps (n : Fin 8) (h : l.holds s) : l.holds (endInputCause n s) := by
  unfold endInputCause
  split
  · split
    · split
      · exact clearKey_keeps _ (setCause_keeps n _ h)
      · exact h
      · exact h
    · split
      · exact unmarkKey_keeps _ (setCause_keeps n _ h)
      · exact h
  · exact clearKey_keeps _ (setCause_keeps n _ h)

theorem deassertInput_keeps (n : Fin 8) (h : l.holds s) : l.holds (deassertInput n s) := by
  unfold deassertInput
  dsimp only
  split
  · split
    · exact setInput_keeps n _ h
    · exact endInputCause_keeps n (setInput_keeps n _ h)
  · exact h

theorem takeInputSettings_keeps (x : InputSettings) (n : Fin 8) (h : l.holds s) : l.holds (takeInputSettings x n s) :=
  setInput_keeps n _ (clearKey_keeps _ (setCause_keeps n _ h))

end Sys2Proof.Machine
end

section
/-! The transmit scheduler and the receive pool keep every law (R23, R46). -/

namespace Sys2Proof.Machine

open Sys2Proof

variable {l : Law} {s : State}

/-! ### Card queues: what leaves a queue is freed and reported (R23, R43) -/

theorem unitsOf_append (p q : List QueueEntry) : unitsOf (p ++ q) = unitsOf p + unitsOf q := by simp [unitsOf]

theorem unitsOf_congr {p q : List QueueEntry} (h : p.map QueueEntry.payload = q.map QueueEntry.payload) :
    unitsOf p = unitsOf q := by
  have hunits : ∀ l : List QueueEntry, l.map QueueEntry.units = (l.map QueueEntry.payload).map (fun x => unitsFor x.length) :=
    fun l => by rw [List.map_map]; rfl
  rw [unitsOf, unitsOf, hunits, hunits, h]

theorem unitsOf_filter_add (p : QueueEntry → Bool) (q : List QueueEntry) :
    unitsOf (q.filter p) + unitsOf (q.filter (fun e => !p e)) = unitsOf q := by
  induction q with
  | nil => rfl
  | cons e rest ih =>
    by_cases hp : p e = true
    · simp only [List.filter_cons, hp, if_true, Bool.not_true, Bool.false_eq_true, if_false]
      simp only [unitsOf, List.map_cons, List.sum_cons] at ih ⊢
      omega
    · simp only [List.filter_cons, hp, Bool.false_eq_true, if_false, Bool.not_false, if_true]
      simp only [unitsOf, List.map_cons, List.sum_cons] at ih ⊢
      omega

theorem length_filter_add (p : QueueEntry → Bool) (q : List QueueEntry) :
    (q.filter p).length + (q.filter (fun e => !p e)).length = q.length := by
  induction q with
  | nil => rfl
  | cons e rest ih => by_cases hp : p e = true <;> simp [hp] <;> omega

/-- A queue replaced by a part of it, with results for at most the entries that left and their units freed, keeps the
third law, and every other (R23). -/
theorem requeue_keeps {c : CardClass} {q : List QueueEntry} {rs : List ResultEntry} {k : Nat}
    (hlen : q.length + rs.length ≤ (s.queue c).length) (hunits : unitsOf q + k = unitsOf (s.queue c))
    (h : l.holds s) : l.holds (appendResults rs (freeUnits k (s.setQueue c q))) := by
  cases l with
  | queued =>
    cases c <;> simp_all [State.queue, PerClass.get, State.setQueue, PerClass.set, appendResults, freeUnits] <;> omega
  | store =>
    cases c <;> simp_all [State.queue, PerClass.get, State.setQueue, PerClass.set, appendResults, freeUnits] <;> omega
  | _ => exact h

/-- The same where nothing is reported. -/
theorem requeue_unreported_keeps {c : CardClass} {q : List QueueEntry} {k : Nat} (hlen : q.length ≤ (s.queue c).length)
    (hunits : unitsOf q + k = unitsOf (s.queue c)) (h : l.holds s) : l.holds (freeUnits k (s.setQueue c q)) := by
  have hnone := requeue_keeps (rs := []) (by simpa using hlen) hunits h
  simpa only [appendResults, List.append_nil] using hnone

/-- The same where nothing leaves. -/
theorem setQueue_keeps {c : CardClass} {q : List QueueEntry} (hlen : q.length = (s.queue c).length)
    (hunits : unitsOf q = unitsOf (s.queue c)) (h : l.holds s) : l.holds (s.setQueue c q) := by
  have hnone := requeue_unreported_keeps (k := 0) (Nat.le_of_eq hlen) (by simpa using hunits) h
  simpa only [freeUnits, Nat.add_zero] using hnone

/-- The laws that a queue, the store and the results list do not enter. -/
def Law.offQueues (l : Law) : Prop := l ≠ .queued ∧ l ≠ .store

theorem setTxs_keeps_off (hl : l.offQueues) (x : Txs) (h : l.holds s) : l.holds { s with txs := x } := by
  cases l with
  | queued => exact absurd rfl hl.1
  | store => exact absurd rfl hl.2
  | _ => exact h

theorem countResults_keeps (code : ResultCode) (k : Nat) (h : l.holds s) : l.holds (countResults code k s) := by
  unfold countResults
  split
  · exact bumpBy_keeps _ k h
  · exact h

/-! ### Purges (R36 to R40) -/

theorem unitsOf_keptBy (p : QueueEntry → Bool) (code : ResultCode) (q : List QueueEntry) :
    unitsOf (keptBy p code q) = unitsOf (q.filter (fun e => !(p e && !e.inFlight))) := by
  refine unitsOf_congr ?_
  rw [keptBy, List.map_map]
  refine List.map_congr_left fun e _ => ?_
  by_cases hp : p e = true <;> simp [hp, QueueEntry.marked]

theorem purgeQueue_keeps (p : QueueEntry → Bool) (code : ResultCode) (c : CardClass) (h : l.holds s) :
    l.holds (purgeQueue p code c s) := by
  have hlen := length_filter_add (fun e => p e && !e.inFlight) (s.queue c)
  have hunits := unitsOf_filter_add (fun e => p e && !e.inFlight) (s.queue c)
  refine countResults_keeps _ _ (requeue_keeps ?_ ?_ h)
  · simp only [keptBy, purgedBy, List.length_map]
    omega
  · rw [unitsOf_keptBy, purgedBy]
    omega

theorem purgeQueues_keeps (p : QueueEntry → Bool) (code : ResultCode) (h : l.holds s) :
    l.holds (purgeQueues p code s) :=
  purgeQueue_keeps p code .bulk (purgeQueue_keeps p code .deadline (purgeQueue_keeps p code .control h))

theorem purgePeerLeft_keeps (i : Slot) (h : l.holds s) : l.holds (purgePeerLeft i s) := purgeQueues_keeps _ _ h

theorem purgeTimeLost_keeps (h : l.holds s) : l.holds (purgeTimeLost s) := purgeQueue_keeps _ _ _ h

theorem purgeWithdrawn_keeps (h : l.holds s) : l.holds (purgeWithdrawn s) := purgeQueues_keeps _ _ h

/-! ### Late removal (R31) -/

theorem retireLate_keeps_off (hl : l.offQueues) (e : QueueEntry) (h : l.holds s) : l.holds (retireLate e s) := by
  have happended : l.holds (appendResults [e.result .late] (freeUnits e.units s)) := by
    cases l with
    | queued => exact absurd rfl hl.1
    | store => exact absurd rfl hl.2
    | _ => exact h
  have hraised := raiseInternal_keeps keyX3 (bump_keeps .late happended)
  unfold retireLate
  cases l <;> exact hraised

theorem retireAll_keeps_off (hl : l.offQueues) (es : List QueueEntry) (h : l.holds s) : l.holds (retireAll es s) := by
  induction es generalizing s with
  | nil => exact h
  | cons e rest ih => exact ih (retireLate_keeps_off hl e h)

theorem retireLate_results (e : QueueEntry) (s : State) :
    (retireLate e s).cpt.results = s.cpt.results ++ [e.result .late] := by
  simp [retireLate, appendResults]

theorem retireLate_storeFree (e : QueueEntry) (s : State) :
    (retireLate e s).txs.storeFree = s.txs.storeFree + e.units := by
  simp [retireLate, freeUnits]

/-- Entries retired with LATE are reported in their order (R31, R43). -/
theorem retireAll_results (es : List QueueEntry) (s : State) :
    (retireAll es s).cpt.results = s.cpt.results ++ es.map (fun e => e.result .late) := by
  induction es generalizing s with
  | nil => simp [retireAll]
  | cons e rest ih =>
    rw [retireAll, ih, retireLate_results]
    simp

theorem retireAll_storeFree (es : List QueueEntry) (s : State) :
    (retireAll es s).txs.storeFree = s.txs.storeFree + unitsOf es := by
  induction es generalizing s with
  | nil => simp [retireAll, unitsOf]
  | cons e rest ih =>
    rw [retireAll, ih, retireLate_storeFree]
    simp only [unitsOf, List.map_cons, List.sum_cons]
    omega

theorem sweepLate_keeps (h : l.holds s) : l.holds (sweepLate s) := by
  have hlen := length_filter_add s.lateNow (s.queue .deadline)
  have hunits := unitsOf_filter_add s.lateNow (s.queue .deadline)
  unfold sweepLate
  dsimp only
  by_cases hl : l.offQueues
  · exact retireAll_keeps_off hl _ (setTxs_keeps_off hl _ h)
  · cases l with
    | queued =>
      simp only [Law.holds_queued, retireAll_results, retireAll_frame] at h ⊢
      simp [State.queue, State.setQueue, PerClass.get, PerClass.set] at h hlen ⊢
      omega
    | store =>
      simp only [Law.holds_store, retireAll_storeFree, retireAll_frame] at h ⊢
      simp [State.queue, State.setQueue, PerClass.get, PerClass.set] at h hunits ⊢
      omega
    | _ => exact absurd ⟨by simp, by simp⟩ hl

theorem reportDrained_keeps (h : l.holds s) : l.holds (reportDrained s) := by
  unfold reportDrained
  split
  · exact requestGone_keeps _ (by cases l <;> exact h)
  · exact h

/-! ### The entry in flight -/

/-- The entry in flight is one of its queue, and leaves the others in place. -/
theorem flightOf_some {q : List QueueEntry} {e : QueueEntry} (h : flightOf q = some e) :
    ∃ pre post, q = pre ++ e :: post ∧ e.inFlight = true ∧ (∀ y, y ∈ pre → y.inFlight = false)
      ∧ withoutFlight q = pre ++ post := by
  obtain ⟨hflight, pre, post, hq, hpre⟩ := List.find?_eq_some_iff_append.mp h
  have hpre' : ∀ y, y ∈ pre → y.inFlight = false := fun y hy => by simpa using hpre y hy
  refine ⟨pre, post, hq, hflight, hpre', ?_⟩
  rw [withoutFlight, hq, List.eraseP_append_right _ (fun y hy => by simp [hpre' y hy]), List.eraseP_cons_of_pos hflight]

theorem leaveQueue_keeps {c : CardClass} {e : QueueEntry} (he : flightOf (s.queue c) = some e) (h : l.holds s) :
    l.holds (leaveQueue c e s) := by
  obtain ⟨pre, post, hq, -, -, hwithout⟩ := flightOf_some he
  refine requeue_unreported_keeps ?_ ?_ h
  · rw [hwithout, hq]
    simp
  · rw [hwithout, hq]
    simp only [unitsOf, List.map_append, List.sum_append, List.map_cons, List.sum_cons]
    omega

theorem retireFlight_keeps {c : CardClass} {e f : QueueEntry} (code : ResultCode)
    (he : flightOf (s.queue c) = some e) (hf : f.payload = e.payload) (h : l.holds s) :
    l.holds (retireFlight c f code s) := by
  obtain ⟨pre, post, hq, -, -, hwithout⟩ := flightOf_some he
  refine countResults_keeps _ _ (requeue_keeps ?_ ?_ h)
  · rw [hwithout, hq]
    simp only [List.length_append, List.length_cons, List.length_nil]
    omega
  · rw [hwithout, hq]
    simp only [unitsOf, List.map_append, List.sum_append, List.map_cons, List.sum_cons, QueueEntry.units, hf]
    omega

theorem map_payload_changeFlight {f : QueueEntry → QueueEntry} (hf : ∀ e, (f e).payload = e.payload)
    (q : List QueueEntry) : (changeFlight f q).map QueueEntry.payload = q.map QueueEntry.payload := by
  induction q with
  | nil => rfl
  | cons e rest ih =>
    unfold changeFlight
    split
    · simp [hf]
    · simp [ih]

theorem returnFlight_keeps (c : CardClass) (attempts : Nat) (h : l.holds s) : l.holds (returnFlight c attempts s) := by
  have hpayload := map_payload_changeFlight
    (f := fun e => { e with inFlight := false, attempts := attempts }) (fun _ => rfl) (s.queue c)
  have hset := setQueue_keeps (l := l) (by simpa using congrArg List.length hpayload) (unitsOf_congr hpayload) h
  unfold returnFlight
  cases c with
  | deadline => exact sweepLate_keeps hset
  | control | bulk => exact hset

theorem blockPeer_keeps (d : Dest) (h : l.holds s) : l.holds (blockPeer d s) := by
  unfold blockPeer
  split
  · exact setPeer_keeps (fun _ => ⟨countChanges_self _, rfl⟩) h
  · exact h

theorem outcomeMarked_keeps {c : CardClass} {e : QueueEntry} (code : ResultCode) (o : TxOutcome)
    (he : flightOf (s.queue c) = some e) (h : l.holds s) : l.holds (outcomeMarked c e code o s) := by
  have hretired := retireFlight_keeps code he rfl h
  unfold outcomeMarked
  dsimp only
  split
  · exact bump_keeps _ hretired
  · exact hretired

theorem outcomeNoReply_keeps {c : CardClass} {e : QueueEntry} (he : flightOf (s.queue c) = some e) (h : l.holds s) :
    l.holds (outcomeNoReply c e s) := by
  unfold outcomeNoReply
  split
  · exact returnFlight_keeps c _ h
  · have hraised := raiseInternal_keeps keyX4
      (retireFlight_keeps (f := { e with attempts := 3 }) .undeliverable he rfl h)
    cases l <;> exact hraised

theorem cardOutcome_keeps (c : CardClass) (o : TxOutcome) (h : l.holds s) : l.holds (cardOutcome c o s) := by
  unfold cardOutcome
  split
  · exact h
  · rename_i e he
    split
    · exact leaveQueue_keeps he h
    · split
      · exact retireFlight_keeps _ he rfl h
      · split
        · exact outcomeMarked_keeps _ o he h
        · split
          · exact returnFlight_keeps c _ (blockPeer_keeps _ (bump_keeps _ h))
          · exact outcomeNoReply_keeps he h
          all_goals exact returnFlight_keeps c _ h

theorem lostOutcome_keeps (t : Transmission) (o : TxOutcome) (h : l.holds s) : l.holds (lostOutcome t o s) := by
  unfold lostOutcome
  split
  · exact cardOutcome_keeps _ o h
  · exact setSlots_keeps _ h

/-! ### How an own frame ends on the pair (R8 to R11) -/

theorem setBau_keeps {b : Bau} (hsilent : l = .silent → b.tx = none) (h : l.holds s) :
    l.holds { s with bau := b } := by
  cases l with
  | silent => exact hsilent rfl
  | _ => exact h

theorem judgeBroken_keeps (own : Bool) (cause : BrokenCause) (h : l.holds s) : l.holds (judgeBroken own cause s) :=
  bump_keeps _ (setBau_keeps (fun hl => by subst hl; exact h) h)

theorem countCollision_keeps (h : l.holds s) : l.holds (countCollision s) := by
  have hset : l.holds (s.setBau (fun b => { b with collisions := min (s.bau.collisions + 1) 8 })) :=
    setBau_keeps (fun hl => by subst hl; exact h) h
  unfold countCollision
  dsimp only
  split
  · exact raiseInternal_keeps _ hset
  · exact hset

theorem endSent_keeps (hl : l ≠ .silent) (t : Transmission) (h : l.holds s) : l.holds (endSent t s) := by
  have hcleared := clearKey_keeps keyX1 (bump_keeps .framesSent (l := l) (s := s.setBau (fun b => { b with
    view := .window, pointer := s.pointerAfter t.slot, collisions := 0, rx := none
    tx := if t.awaitsReply then some { t with complete := true } else none }))
    (setBau_keeps (fun h => absurd h hl) h))
  unfold endSent
  dsimp only
  generalize clearKey keyX1 _ = sent at hcleared ⊢
  split
  · split
    · exact hcleared
    · exact cardOutcome_keeps _ _ hcleared
  · exact hcleared

theorem endCollided_keeps (t : Transmission) (h : l.holds s) : l.holds (endCollided t s) :=
  countCollision_keeps (judgeBroken_keeps _ _ (lostOutcome_keeps t _ (setBau_keeps (fun _ => rfl) h)))

theorem takeEnding_keeps (h : l.holds s) : l.holds (takeEnding s) := by
  by_cases hl : l = .silent
  · subst hl
    rw [takeEnding_of_silent h]
    exact h
  · unfold takeEnding
    split
    · split
      · exact endSent_keeps hl _ h
      · split
        · exact endCollided_keeps _ h
        · exact h
    · exact h

theorem emptySlots_keeps (keep : InternalKind → Bool) (h : l.holds s) : l.holds (emptySlots keep s) := setSlots_keeps _ h

/-! ### Sequence numbers (R24) -/

theorem map_payload_renumber (i : Slot) (n : Byte) (q : List QueueEntry) :
    (renumber i n q).1.map QueueEntry.payload = q.map QueueEntry.payload := by
  induction q generalizing n with
  | nil => rfl
  | cons e rest ih =>
    unfold renumber
    split <;> simp [ih]

theorem resetSequence_keeps (i : Slot) (h : l.holds s) : l.holds (resetSequence i s) := by
  have hlen : ∀ n q, (renumber i n q).1.length = q.length := fun n q => by
    simpa using congrArg List.length (map_payload_renumber i n q)
  have hunits : ∀ n q, unitsOf (renumber i n q).1 = unitsOf q := fun n q => unitsOf_congr (map_payload_renumber i n q)
  cases l with
  | queued => simpa [resetSequence, State.queue, PerClass.get, hlen] using h
  | store => simpa [resetSequence, State.queue, PerClass.get, hunits] using h
  | _ => exact h

/-! ### Admission, release and card reset (R22, R30, R41) -/

theorem advanceSequence_keeps (c : CardClass) (d : Dest) (h : l.holds s) : l.holds (advanceSequence c d s) := by
  unfold advanceSequence
  split
  · cases l <;> exact h
  · exact h

/-- Condition 6 of R21 is what the third law needs of a SEND. -/
theorem sendFull_false {c : CardClass} {n : Nat} (h : s.sendFull c n = false) :
    unitsFor n ≤ s.txs.storeFree ∧ s.queued + s.cpt.results.length < Config.queuedLimit := by
  simp only [State.sendFull, Bool.or_eq_false_iff, decide_eq_false_iff_not, Nat.not_le, Nat.not_lt] at h
  exact ⟨h.1.2, h.2⟩

theorem admitSend_keeps {c : CardClass} {m : SendRequest} (hroom : s.sendFull c m.payload.length = false)
    (h : l.holds s) : l.holds (admitSend c m s) := by
  obtain ⟨hstore, hqueued⟩ := sendFull_false hroom
  by_cases hl : l.offQueues
  · exact setTxs_keeps_off hl _ (advanceSequence_keeps c m.dest (setTxs_keeps_off hl _ h))
  · cases l with
    | queued =>
      cases c <;> simp [admitSend, State.setQueue, PerClass.set, State.queue, State.queued, PerClass.get] at hqueued ⊢ <;>
        omega
    | store =>
      cases c <;>
        simp [admitSend, State.setQueue, PerClass.set, State.queue, State.entryFor, PerClass.get, unitsOf,
          QueueEntry.units] at h ⊢ <;>
        omega
    | _ => exact absurd ⟨by simp, by simp⟩ hl

theorem releaseOn_keeps (g : Strobe) (h : l.holds s) : l.holds (releaseOn g s) := by
  refine setQueue_keeps (by simp) (unitsOf_congr ?_) h
  rw [List.map_map]
  refine List.map_congr_left fun e _ => ?_
  by_cases hg : e.release = some g <;> simp [hg]

theorem resetQueue_keeps (c : CardClass) (h : l.holds s) : l.holds (resetQueue c s) := by
  have hlen := length_filter_add QueueEntry.inFlight (s.queue c)
  have hunits := unitsOf_filter_add QueueEntry.inFlight (s.queue c)
  have horphaned : unitsOf (orphaned (s.queue c)) = unitsOf ((s.queue c).filter QueueEntry.inFlight) :=
    unitsOf_congr (by rw [orphaned, List.map_map]; rfl)
  refine requeue_unreported_keeps ?_ ?_ h
  · rw [orphaned, List.length_map]
    omega
  · rw [horphaned]
    omega

theorem resetQueues_keeps (h : l.holds s) : l.holds (resetQueues s) :=
  resetQueue_keeps .bulk (resetQueue_keeps .deadline (resetQueue_keeps .control h))

/-! ### The receive pool (R46 to R61) -/

theorem poolHeld_append (p q : List StoredFrame) : poolHeld (p ++ q) = poolHeld p + poolHeld q := by simp [poolHeld]

/-- A pool replaced keeps the laws where its units stay those of the fourth law (R46). -/
theorem setRxp_keeps {r : Rxp} (hpool : LawPool s → r.free + poolHeld r.frames = Config.poolUnits) (h : l.holds s) :
    l.holds { s with rxp := r } := by
  cases l with
  | pool => exact hpool h
  | _ => exact h

theorem testReady_keeps (h : l.holds s) : l.holds (testReady s) := by
  unfold testReady
  split
  · exact request_keeps _ (setRxp_keeps id h)
  · exact h

theorem storeFrame_keeps {f : DataFrame} (hroom : unitsFor f.payload.length ≤ s.rxp.free) (h : l.holds s) :
    l.holds (storeFrame f s) := by
  have hstored : l.holds { s with rxp := { s.rxp with
      frames := s.rxp.frames ++ [s.storedForm f], free := s.rxp.free - (s.storedForm f).units } } := by
    refine setRxp_keeps (fun hpool => ?_) h
    simp only [LawPool, poolHeld_append] at hpool ⊢
    simp only [poolHeld, List.map_cons, List.map_nil, List.sum_cons, List.sum_nil, StoredFrame.units,
      State.storedForm] at hpool ⊢
    omega
  unfold storeFrame
  dsimp only
  split
  · exact bump_keeps _ (bump_keeps _ hstored)
  · exact bump_keeps _ hstored

theorem setReply_keeps (code : ReplyCode) (h : l.holds s) : l.holds (setReply code s) := by cases l <;> exact h

theorem setAccepted_keeps (i : Slot) (c : CardClass) (sequence : Byte) (h : l.holds s) :
    l.holds (setAccepted i c sequence s) := setPeer_keeps (fun _ => ⟨countChanges_self _, rfl⟩) h

theorem countGapOf_keeps (f : DataFrame) (h : l.holds s) : l.holds (countGapOf f s) := by
  unfold countGapOf
  split
  · exact h
  · split
    · exact h
    · exact bumpBy_keeps _ _ (countGap_keeps _ _ h)

theorem takeUnicast_keeps (f : DataFrame) (h : l.holds s) : l.holds (takeUnicast f s) := by
  unfold takeUnicast
  split
  · exact setReply_keeps _ (countDuplicate_keeps _ (bump_keeps _ h))
  · split
    next hroom =>
      refine setReply_keeps _ (setAccepted_keeps _ _ _ (storeFrame_keeps ?_ (countGapOf_keeps f h)))
      simpa using hroom
    next => exact setReply_keeps _ (testReady_keeps (raiseInternal_keeps _ (bump_keeps _ (setRxp_keeps id h))))

theorem takeGroup_keeps (f : DataFrame) (h : l.holds s) : l.holds (takeGroup f s) := by
  unfold takeGroup
  split
  next hroom => exact storeFrame_keeps hroom h
  next => exact bump_keeps _ h

theorem poolTake_keeps (f : DataFrame) (h : l.holds s) : l.holds (poolTake f s) := by
  unfold poolTake
  split
  · split
    · split
      · exact takeUnicast_keeps f h
      · exact takeGroup_keeps f h
    · exact bump_keeps _ h
  · exact h

theorem readyTransmitted_keeps (h : l.holds s) : l.holds (readyTransmitted s) :=
  testReady_keeps (clearKey_keeps _ (setRxp_keeps id h))

theorem readyWithdrawn_keeps (h : l.holds s) : l.holds (readyWithdrawn s) := testReady_keeps (setRxp_keeps id h)

theorem poolSeatLoss_keeps (h : l.holds s) : l.holds (poolSeatLoss s) :=
  clearKey_keeps _ (setRxp_keeps (fun _ => rfl) h)

theorem poolCardReset_keeps (h : l.holds s) : l.holds (poolCardReset s) :=
  testReady_keeps (setRxp_keeps (fun _ => rfl) h)

theorem poolDelivered_keeps (h : l.holds s) : l.holds (poolDelivered s) := by
  unfold poolDelivered
  split
  · rename_i f rest hframes
    split
    · refine testReady_keeps (bump_keeps _ (setRxp_keeps (fun hpool => ?_) h))
      simp only [LawPool, hframes, poolHeld, List.map_cons, List.sum_cons] at hpool ⊢
      omega
    · exact h
  · exact h

theorem markTransfer_keeps (h : l.holds s) : l.holds (markTransfer s) := by
  unfold markTransfer
  split
  · rename_i f rest hframes
    refine setRxp_keeps (fun hpool => ?_) h
    simpa only [LawPool, hframes, poolHeld, List.map_cons, StoredFrame.units] using hpool
  · exact h

end Sys2Proof.Machine
end

section
/-! The servo, the tick, the source selector and the peer table keep every law (R94, R106, R115, R165). -/

namespace Sys2Proof.Machine

open Sys2Proof

variable {l : Law} {s : State}

/-! ### Validity and gate (R94, R97) -/

/-- The time unit replaced: the laws on the gate, the rate and the time read it. -/
theorem setTmu_keeps {x : Tmu} (hrate : l = .rate → Law.rate.holds { s with tmu := x })
    (hgate : l = .gate → x.gateOpen = validIn x.servo s.src.role) (htime : ∀ y, l = .timeIs y → x.time = s.tmu.time)
    (h : l.holds s) : l.holds { s with tmu := x } := by
  cases l with
  | rate => exact hrate rfl
  | gate => exact hgate rfl
  | timeIs y => exact (htime y rfl).trans h
  | _ => exact h

/-- The same where rate word, integral, time, gate and servo state stay. -/
theorem setTmu_keeps_of_same {x : Tmu} (hrate : x.rate = s.tmu.rate) (hintegral : x.integral = s.tmu.integral)
    (hgate : x.gateOpen = s.tmu.gateOpen) (hservo : x.servo = s.tmu.servo) (htime : x.time = s.tmu.time)
    (h : l.holds s) : l.holds { s with tmu := x } := by
  refine setTmu_keeps (fun hl => ?_) (fun hl => ?_) (fun _ _ => htime) h
  · subst hl
    simpa [hrate, hintegral] using h
  · subst hl
    simpa [hgate, hservo] using h

theorem openGate_keeps (hl : l ≠ .gate) (h : l.holds s) : l.holds (openGate s) :=
  setTmu_keeps (fun hr => by subst hr; exact h) (fun hg => absurd hg hl) (fun _ _ => rfl) h

theorem shutGate_keeps (hl : l ≠ .gate) (h : l.holds s) : l.holds (shutGate s) :=
  purgeTimeLost_keeps (setTmu_keeps (fun hr => by subst hr; exact h) (fun hg => absurd hg hl) (fun _ _ => rfl) h)

/-- Validity re-evaluated brings a gate that stood right before the change to what is right after it (R94, R97). -/
theorem reevaluate_gate {before : Bool} (h : s.tmu.gateOpen = before) : LawGate (reevaluate before s) := by
  have hvalid : ∀ t : State, t.tmu.servo = s.tmu.servo → t.src = s.src → t.timeValid = s.timeValid := by
    intro t hservo hsrc
    rw [State.timeValid, State.timeValid, hservo, hsrc]
  unfold reevaluate
  split
  next hsame => exact h.trans hsame
  next =>
    split
    next hon =>
      have hnow := hvalid (openGate s) (by simp) (by simp)
      rw [LawGate, hnow, hon]
      rfl
    next hoff =>
      have hnow := hvalid (shutGate s) (by simp) (by simp)
      rw [LawGate, hnow, Bool.eq_false_iff.mpr hoff]
      simp [shutGate]

theorem reevaluate_keeps (hl : l ≠ .gate) (before : Bool) (h : l.holds s) : l.holds (reevaluate before s) := by
  unfold reevaluate
  split
  · exact h
  · split
    · exact openGate_keeps hl h
    · exact shutGate_keeps hl h

theorem setServo_keeps (v : Servo) (h : l.holds s) : l.holds (setServo v s) := by
  unfold setServo
  split
  · exact h
  · by_cases hl : l = .gate
    · subst hl
      exact reevaluate_gate h
    · exact reevaluate_keeps hl _ (signal_keeps _
        (setTmu_keeps (fun hr => by subst hr; exact h) (fun hg => absurd hg hl) (fun _ _ => rfl) h))

/-- The source selector's fields replaced, its table and selection and the record of T1 staying. -/
theorem setSrc_keeps {x : Src} (htable : x.table = s.src.table) (hsel : x.selection = s.src.selection)
    (hlost : x.sourceLost = s.src.sourceLost) (hrole : l = .gate → x.role = s.src.role) (h : l.holds s) :
    l.holds { s with src := x } := by
  cases l with
  | sources => simpa [htable, hsel] using h
  | sourceLost => simpa [hsel, hlost] using h
  | gate => simpa [hrole rfl] using h
  | _ => exact h

theorem setRole_keeps (r : Role) (h : l.holds s) : l.holds (setRole r s) := by
  unfold setRole
  split
  · exact h
  · dsimp only
    by_cases hl : l = .gate
    · subst hl
      refine reevaluate_gate ?_
      simpa using show s.tmu.gateOpen = s.timeValid from h
    · refine reevaluate_keeps hl _ (clearKey_keeps _ (signal_keeps _ ?_))
      cases r <;> exact setSrc_keeps rfl rfl rfl (fun hg => absurd hg hl) h

/-! ### The servo (R115 to R124) -/

theorem clampRate_le (x : Int) : -Config.rateLimit ≤ clampRate x ∧ clampRate x ≤ Config.rateLimit := by
  simp only [clampRate, Config.rateLimit]
  omega

theorem countClamp_keeps (clamped : Bool) (h : l.holds s) : l.holds (countClamp clamped s) := by
  unfold countClamp
  split
  · split
    · exact h
    · have hcount : l.holds { s with tmu := { s.tmu with rateLimitCount := s.tmu.rateLimitCount + 1 } } :=
        setTmu_keeps_of_same rfl rfl rfl rfl rfl h
      dsimp only
      split
      · exact raiseInternal_keeps _ hcount
      · exact hcount
  · exact clearKey_keeps _ (setTmu_keeps_of_same rfl rfl rfl rfl rfl h)

/-- A servo update clamps rate word and integral (R115). -/
theorem servoUpdate_keeps (e f : Int) (h : l.holds s) : l.holds (servoUpdate e f s) := by
  refine countClamp_keeps _ (setTmu_keeps (fun _ => ⟨?_, ?_⟩) (fun hg => by subst hg; exact h) (fun _ _ => rfl) h)
  · exact clampRate_le _
  · exact clampRate_le _

/-- A step of the counter keeps every law: of the time alone it changes what it is (R88). -/
theorem stepTime_keeps (hl : ∀ x, l ≠ .timeIs x) (e : Int) (h : l.holds s) : l.holds (stepTime e s) :=
  bump_keeps _ (setTmu_keeps (fun hr => by subst hr; exact h) (fun hg => by subst hg; exact h)
    (fun y hy => absurd hy (hl y)) h)

theorem reachLocked_keeps (h : l.holds s) : l.holds (reachLocked s) :=
  setServo_keeps _ (setTmu_keeps_of_same rfl rfl rfl rfl rfl h)

theorem enterAcquire_keeps (h : l.holds s) : l.holds (enterAcquire s) :=
  setServo_keeps _ (setTmu_keeps_of_same rfl rfl rfl rfl rfl h)

theorem acquireSample_keeps (hl : ∀ x, l ≠ .timeIs x) (e f : Int) (h : l.holds s) : l.holds (acquireSample e f s) := by
  unfold acquireSample
  split
  · dsimp only
    generalize (if within e s.tmu.settings.lockThreshold then _ else 0 : Nat) = n
    have hcount : l.holds { servoUpdate e f s with tmu := { (servoUpdate e f s).tmu with lockCount := n } } :=
      setTmu_keeps_of_same rfl rfl rfl rfl rfl (servoUpdate_keeps e f h)
    split
    · exact reachLocked_keeps hcount
    · exact hcount
  · exact stepTime_keeps hl e h

/-- On entering HOLDOVER the rate word becomes the integral, which is within its limits (R115, R121). -/
theorem enterHoldover_keeps (h : l.holds s) : l.holds (enterHoldover s) := by
  have hheld : l.holds { s with tmu := { s.tmu with rate := s.tmu.integral, outlierCount := 0 } } :=
    setTmu_keeps (fun hr => by subst hr; exact ⟨h.2, h.2⟩) (fun hg => by subst hg; exact h) (fun _ _ => rfl) h
  exact setTmu_keeps_of_same rfl rfl rfl rfl rfl (raiseInternal_keeps _ (setServo_keeps _ hheld))

theorem leaveHoldover_keeps (h : l.holds s) : l.holds (leaveHoldover s) :=
  setTmu_keeps_of_same rfl rfl rfl rfl rfl (clearKey_keeps _ (clearKey_keeps _ h))

theorem loseSource_keeps (h : l.holds s) : l.holds (loseSource s) := by
  unfold loseSource
  split
  · exact enterHoldover_keeps h
  · split
    · exact enterHoldover_keeps h
    · exact setServo_keeps _ h
  all_goals exact h

theorem outlierSample_keeps (hl : ∀ x, l ≠ .timeIs x) (e f : Int) (h : l.holds s) : l.holds (outlierSample e f s) := by
  have hcount : l.holds (bump .outliers { s with tmu := { s.tmu with outlierCount := s.tmu.outlierCount + 1 } }) :=
    bump_keeps _ (setTmu_keeps_of_same rfl rfl rfl rfl rfl h)
  unfold outlierSample
  dsimp only
  split
  · exact acquireSample_keeps hl e f (enterAcquire_keeps hcount)
  · exact hcount

theorem judgeSample_keeps (hl : ∀ x, l ≠ .timeIs x) (e f : Int) (h : l.holds s) : l.holds (judgeSample e f s) := by
  unfold judgeSample
  split
  · exact acquireSample_keeps hl e f (enterAcquire_keeps h)
  · exact acquireSample_keeps hl e f h
  · split
    · exact setTmu_keeps_of_same rfl rfl rfl rfl rfl (servoUpdate_keeps e f h)
    · exact outlierSample_keeps hl e f h
  · split
    · exact setTmu_keeps_of_same rfl rfl rfl rfl rfl (servoUpdate_keeps e f (setServo_keeps _ (leaveHoldover_keeps h)))
    · exact acquireSample_keeps hl e f (enterAcquire_keeps (leaveHoldover_keeps h))

theorem takeSample_keeps (hl : ∀ x, l ≠ .timeIs x) (e : Int) (kind : SampleKind) (h : l.holds s) :
    l.holds (takeSample e kind s) :=
  judgeSample_keeps hl e _ (bump_keeps _ (setTmu_keeps_of_same rfl rfl rfl rfl rfl h))

/-! ### The tick and the reference input (R86, R91) -/

theorem SourceEntry.before_tick (a b : SourceEntry) : a.tick.before b.tick = a.before b := rfl

/-- The announce ages do not enter the order of the sources (R106). -/
theorem bestSource_tick (table : List SourceEntry) :
    bestSource (table.map SourceEntry.tick) = (bestSource table).map SourceEntry.tick := by
  induction table with
  | nil => rfl
  | cons e rest ih =>
    rw [List.map_cons, bestSource, ih, bestSource]
    cases bestSource rest with
    | none => rfl
    | some m => by_cases hm : m.before e = true <;> simp [SourceEntry.before_tick, hm]

theorem tickTimers_keeps (h : l.holds s) : l.holds (tickTimers s) := by
  cases l with
  | sources =>
    simp only [Law.holds_sources, tickTimers, bestSource_tick, List.map_map, Option.map_map] at h ⊢
    exact h
  | summary =>
    obtain ⟨hlost, hgone, hstored⟩ := peerView_congr (map_view_mapVector (f := PeerEntry.tick) (fun _ => rfl) s.ptb)
    exact picture_congr (.inl rfl) hlost hgone hstored ⟨rfl, rfl, rfl, rfl, rfl, rfl, rfl⟩ h
  | relays =>
    obtain ⟨hlost, hgone, hstored⟩ := peerView_congr (map_view_mapVector (f := PeerEntry.tick) (fun _ => rfl) s.ptb)
    exact picture_congr (.inr rfl) hlost hgone hstored ⟨rfl, rfl, rfl, rfl, rfl, rfl, rfl⟩ h
  | silent =>
    rw [Law.holds_silent] at h ⊢
    simp [tickTimers, h]
  | _ => exact h

theorem strobeTick_keeps (g : Strobe) (before : FullTime) (advance : Int) (h : l.holds s) :
    l.holds (strobeTick g before advance s) := by
  unfold strobeTick
  dsimp only
  split
  · cases g <;> exact releaseOn_keeps _ (setTmu_keeps_of_same rfl rfl rfl rfl rfl h)
  · exact h

theorem syncTick_keeps (before : FullTime) (advance : Int) (h : l.holds s) : l.holds (syncTick before advance s) := by
  unfold syncTick
  split
  · exact request_keeps _ h
  · exact h

/-- The tick keeps every law: it moves the time (R86). -/
theorem tickState_keeps (hl : ∀ x, l ≠ .timeIs x) (h : l.holds s) : l.holds (tickState s) := by
  have hpins : l.holds (takePins s) := by cases l <;> exact h
  exact syncTick_keeps _ _ (strobeTick_keeps _ _ _ (strobeTick_keeps _ _ _ (setTmu_keeps
    (fun hr => by subst hr; exact tickTimers_keeps hpins) (fun hg => by subst hg; exact tickTimers_keeps hpins)
    (fun y hy => absurd hy (hl y)) (tickTimers_keeps hpins))))

theorem useLabel_keeps (h : l.holds s) : l.holds (useLabel s) := by
  unfold useLabel
  split
  · exact signal_keeps _ (setTmu_keeps_of_same rfl rfl rfl rfl rfl h)
  · exact h

theorem refEdge_keeps (hl : ∀ x, l ≠ .timeIs x) (k : EdgeDelay) (h : l.holds s) : l.holds (refEdge k s) := by
  have hstamp : l.holds { s with tmu := { s.tmu with lastRef := some (s.stamp k) } } :=
    setTmu_keeps_of_same rfl rfl rfl rfl rfl h
  unfold refEdge
  dsimp only
  split
  · exact hstamp
  · exact takeSample_keeps hl _ _ (clearKey_keeps _ (useLabel_keeps (setSrc_keeps rfl rfl rfl (fun _ => rfl) hstamp)))

/-! ### The source selector (R100 to R111) -/

theorem judgeSourceLost_judged (s : State) : LawSourceLost (judgeSourceLost s) := by
  unfold judgeSourceLost LawSourceLost
  dsimp only
  split
  next hsame => exact hsame.symm
  next => split <;> simp

theorem setSourceLost_keeps (hl : l ≠ .sourceLost) (x : Bool) (h : l.holds s) :
    l.holds { s with src := { s.src with sourceLost := x } } := by
  cases l with
  | sourceLost => exact absurd rfl hl
  | _ => exact h

theorem judgeSourceLost_keeps (h : l.holds s) : l.holds (judgeSourceLost s) := by
  by_cases hl : l = .sourceLost
  · subst hl
    exact judgeSourceLost_judged s
  · unfold judgeSourceLost
    dsimp only
    split
    · exact h
    · split
      · exact raiseInternal_keeps _ (setSourceLost_keeps hl _ h)
      · exact clearKey_keeps _ (setSourceLost_keeps hl _ h)

theorem changeSelection_keeps (hl : l ≠ .sources) (hl' : l ≠ .sourceLost) (sel : Option Slot) (h : l.holds s) :
    l.holds (changeSelection sel s) := by
  have hsel : l.holds { s with src := { s.src with selection := sel, syncTimeout := s.syncTimeoutFor sel } } := by
    cases l with
    | sources => exact absurd rfl hl
    | sourceLost => exact absurd rfl hl'
    | _ => exact h
  have hrole := setRole_keeps (State.roleFor (signal .sourceChange
    { s with src := { s.src with selection := sel, syncTimeout := s.syncTimeoutFor sel } }) sel)
    (signal_keeps .sourceChange hsel)
  unfold changeSelection
  dsimp only
  split
  · exact loseSource_keeps hrole
  · exact hrole

/-- A run of selection on a changed table keeps every law, the order of the table being given (R106 to R108). -/
theorem runSelection_setTable_keeps {table : List SourceEntry}
    (hsorted : LawSources s → (table.map SourceEntry.slot).Pairwise (· < ·)) (h : l.holds s) :
    l.holds (runSelection (s.setTable table)) := by
  by_cases hl : l = .sources
  · subst hl
    exact runSelection_lawSources _ (hsorted h)
  · by_cases hl' : l = .sourceLost
    · subst hl'
      exact judgeSourceLost_judged _
    · have htable : l.holds (s.setTable table) := by
        cases l with
        | sources => exact absurd rfl hl
        | _ => exact h
      refine judgeSourceLost_keeps ?_
      unfold selectSource
      dsimp only
      split
      · exact htable
      · exact changeSelection_keeps hl hl' _ htable

theorem dropSource_keeps (i : Slot) (h : l.holds s) : l.holds (dropSource i s) := by
  unfold dropSource
  split
  · exact runSelection_setTable_keeps (fun hs => removeSource_sorted i hs.1) h
  · exact h

theorem updateCandidacy_keeps (h : l.holds s) : l.holds (updateCandidacy s) := by
  unfold updateCandidacy
  split
  · exact h
  · split
    · split
      · exact h
      · exact runSelection_setTable_keeps (fun _ => putSource_sorted _ _) h
    · exact dropSource_keeps _ h

theorem requestAnnounce_keeps (h : l.holds s) : l.holds (requestAnnounce s) :=
  request_keeps _ (setSrc_keeps rfl rfl rfl (fun _ => rfl) h)

theorem setQuality_keeps (b : Byte) (h : l.holds s) : l.holds (setQuality b s) := by
  have hset : l.holds (updateCandidacy { s with src := { s.src with quality := clampQuality b } }) :=
    updateCandidacy_keeps (setSrc_keeps rfl rfl rfl (fun _ => rfl) h)
  unfold setQuality
  split
  · exact h
  · dsimp only
    split
    · exact requestAnnounce_keeps hset
    · exact hset

theorem clearSources_keeps (h : l.holds s) : l.holds (clearSources s) :=
  runSelection_setTable_keeps (s := { s with src := { s.src with announceTimer := none } }) (fun _ => List.Pairwise.nil)
    (setSrc_keeps rfl rfl rfl (fun _ => rfl) h)

theorem sourcesJoined_keeps (h : l.holds s) : l.holds (sourcesJoined s) := by
  have hjudged := judgeSourceLost_keeps (updateCandidacy_keeps h)
  unfold sourcesJoined
  dsimp only
  split
  · exact requestAnnounce_keeps hjudged
  · exact hjudged

theorem sourcesLeft_keeps (h : l.holds s) : l.holds (sourcesLeft s) :=
  judgeSourceLost_keeps (updateCandidacy_keeps (setSrc_keeps rfl rfl rfl (fun _ => rfl) h))

end Sys2Proof.Machine
end

section
/-! The announcements, the peer table and the seating controller keep every law (R67, R104, R127 to R149). -/

namespace Sys2Proof.Machine

open Sys2Proof

/-! ### Source tables in the order of slots (R106) -/

theorem mem_iff_findSource {table : List SourceEntry} (hsorted : (table.map SourceEntry.slot).Pairwise (· < ·))
    (x : SourceEntry) : x ∈ table ↔ findSource x.slot table = some x := by
  refine ⟨fun hx => ?_, fun hx => List.mem_of_find?_eq_some hx⟩
  induction table with
  | nil => cases hx
  | cons a rest ih =>
    rw [List.map_cons, List.pairwise_cons] at hsorted
    obtain ⟨hfirst, hrest⟩ := hsorted
    obtain rfl | hx := List.mem_cons.mp hx
    · simp [findSource]
    · have hne : a.slot ≠ x.slot := Fin.ne_of_lt (hfirst _ (List.mem_map_of_mem hx))
      simpa [findSource, hne] using ih hrest hx

/-- Two tables in the order of slots that show the same entry of every slot are the same table. -/
theorem table_eq_of_findSource {a b : List SourceEntry} (ha : (a.map SourceEntry.slot).Pairwise (· < ·))
    (hb : (b.map SourceEntry.slot).Pairwise (· < ·)) (h : ∀ i, findSource i a = findSource i b) : a = b := by
  have hnodup : ∀ {l : List SourceEntry}, (l.map SourceEntry.slot).Pairwise (· < ·) → l.Nodup := fun hl =>
    (List.pairwise_map.mp hl).imp fun hlt heq => Fin.ne_of_lt hlt (congrArg SourceEntry.slot heq)
  refine List.Perm.eq_of_pairwise (le := fun x y => x.slot < y.slot) ?_ (List.pairwise_map.mp ha) (List.pairwise_map.mp hb) ?_
  · intro x y _ _ hxy hyx
    exact absurd (Fin.lt_trans hxy hyx) (Nat.lt_irrefl _)
  · refine (List.perm_ext_iff_of_nodup (hnodup ha) (hnodup hb)).mpr fun x => ?_
    rw [mem_iff_findSource ha, mem_iff_findSource hb, h]

/-- An entry of a slot with another announce age, every other entry as it is. -/
def SourceEntry.aged (i : Slot) (age : Option Nat) (x : SourceEntry) : SourceEntry :=
  if x.slot = i then { x with age := age } else x

section
variable (i : Slot) (age : Option Nat)

theorem SourceEntry.aged_slot (x : SourceEntry) : (x.aged i age).slot = x.slot := by unfold aged; split <;> rfl

theorem SourceEntry.aged_before (x y : SourceEntry) : (x.aged i age).before (y.aged i age) = x.before y := by
  unfold aged
  split <;> split <;> rfl

theorem bestSource_map_aged (table : List SourceEntry) :
    bestSource (table.map (SourceEntry.aged i age)) = (bestSource table).map (SourceEntry.aged i age) := by
  induction table with
  | nil => rfl
  | cons a rest ih =>
    rw [List.map_cons, bestSource, ih, bestSource]
    cases bestSource rest with
    | none => rfl
    | some m => by_cases hm : m.before a = true <;> simp [SourceEntry.aged_before, hm]

theorem findSource_map_aged (j : Slot) (table : List SourceEntry) :
    findSource j (table.map (SourceEntry.aged i age)) = (findSource j table).map (SourceEntry.aged i age) := by
  rw [findSource, List.find?_map]
  simp only [Function.comp_def, SourceEntry.aged_slot]
  rfl

end

/-- An entry of equal slot, quality and priority put in for the one that stands changes its announce age alone (R104). -/
theorem putSource_same {table : List SourceEntry} {e old : SourceEntry}
    (hsorted : (table.map SourceEntry.slot).Pairwise (· < ·)) (hold : findSource e.slot table = some old)
    (hquality : old.quality = e.quality) (hpriority : old.priority = e.priority) :
    putSource e table = table.map (SourceEntry.aged e.slot e.age) := by
  refine table_eq_of_findSource (putSource_sorted e table) ?_ fun i => ?_
  · simpa only [List.map_map, Function.comp_def, SourceEntry.aged_slot] using hsorted
  · rw [findSource_putSource, findSource_map_aged]
    split
    next hi =>
      subst hi
      simp only [hold, Option.map_some, SourceEntry.aged, findSource_slot hold, if_true, hquality, hpriority]
    next hi =>
      cases hx : findSource i table with
      | none => rfl
      | some x =>
        have hne : x.slot ≠ e.slot := by rw [findSource_slot hx]; exact hi
        simp [SourceEntry.aged, hne]

/-- It leaves the best slot (R106). -/
theorem bestSource_putSource_same {table : List SourceEntry} {e old : SourceEntry}
    (hsorted : (table.map SourceEntry.slot).Pairwise (· < ·)) (hold : findSource e.slot table = some old)
    (hquality : old.quality = e.quality) (hpriority : old.priority = e.priority) :
    (bestSource (putSource e table)).map SourceEntry.slot = (bestSource table).map SourceEntry.slot := by
  rw [putSource_same hsorted hold hquality hpriority, bestSource_map_aged, Option.map_map]
  exact congrArg (fun f => (bestSource table).map f) (funext (SourceEntry.aged_slot _ _))

variable {l : Law} {s : State}

theorem takePresentAnnounce_keeps (i : Slot) (quality : Fin 4) (priority : Byte) (h : l.holds s) :
    l.holds (takePresentAnnounce i quality priority s) := by
  have hrun : l.holds (runSelection (s.setTable (putSource
      { slot := i, quality := quality, priority := priority, age := some 0 } s.src.table))) :=
    runSelection_setTable_keeps (fun _ => putSource_sorted _ _) h
  unfold takePresentAnnounce
  split
  · exact dropSource_keeps i h
  · dsimp only
    split
    · exact hrun
    · rename_i old hold
      split
      next hsame =>
        cases l with
        | sources =>
          refine ⟨putSource_sorted _ _, ?_⟩
          refine Eq.trans ?_ (bestSource_putSource_same h.1 hold hsame.1 hsame.2).symm
          exact h.2
        | _ => exact h
      next => exact hrun

theorem takeAnnounce_keeps (i : Slot) (quality : Fin 4) (priority : Byte) (h : l.holds s) :
    l.holds (takeAnnounce i quality priority s) := by
  unfold takeAnnounce
  split
  · exact takePresentAnnounce_keeps i quality priority h
  · exact h

theorem takeSync_keeps (hl : ∀ x, l ≠ .timeIs x) (i : Slot) (transmit : Nat) (stamp : FullTime) (h : l.holds s) :
    l.holds (takeSync i transmit stamp s) := by
  unfold takeSync
  split
  · exact bump_keeps _ h
  · split
    · exact takeSample_keeps hl _ _ (setSrc_keeps rfl rfl rfl (fun _ => rfl) h)
    · exact bump_keeps _ h

/-! ### The peer table (R64 to R82) -/

theorem purgeDeparted_keeps (i : Slot) (h : l.holds s) : l.holds (purgeDeparted i s) := by
  unfold purgeDeparted
  split
  iterate 3 exact purgePeerLeft_keeps i h
  all_goals exact h

/-- The stored summary of an entry in LOST or GONE goes: of the laws only the alarm picture reads it. -/
theorem dropDeparted_keeps (hl : ¬ l.ofPicture) (i : Slot) (h : l.holds s) : l.holds (dropDeparted i s) := by
  unfold dropDeparted
  split
  iterate 2 exact setPeer_keeps (fun hp => absurd hp hl) h
  all_goals exact h

/-- The hand-offs keep every law; the alarm picture may stand wrong before them where they take it anew, which is where
the entry's change moves the count of LOST or of GONE entries (R67, R80, R165). -/
theorem handOff_keeps {i : Slot} {old : PeerState} {restarted : Bool}
    (h : ¬ l.ofPicture ∨ countChanges old (s.peer i).state = false → l.holds s) :
    l.holds (handOff i old restarted s) := by
  unfold handOff
  dsimp only
  by_cases hsame : (s.peer i).state = old
  · have hs : l.holds s := h (Or.inr (by simp [countChanges, hsame]))
    rw [if_pos hsame]
    split
    · exact signal_keeps _ hs
    · exact hs
  · rw [if_neg hsame]
    refine signal_keeps _ ?_
    by_cases hpicture : l.ofPicture
    · split
      next => exact Law.holds_of_picture hpicture (noticePeerView_picture _)
      next hcount =>
        have hcount := Bool.eq_false_iff.mpr hcount
        have hs := h (.inr hcount)
        have hstays : dropDeparted i s = s := by
          unfold dropDeparted
          split
          · rename_i hgone
            rw [hgone] at hcount hsame
            exact absurd (by cases old <;> simp_all [countChanges]) hsame
          · rename_i hlost
            rw [hlost] at hcount hsame
            exact absurd (by cases old <;> simp_all [countChanges]) hsame
          all_goals rfl
        rw [hstays]
        split
        · exact dropSource_keeps i (purgeDeparted_keeps i hs)
        · exact purgeDeparted_keeps i hs
    · have hpurged := purgeDeparted_keeps i (dropDeparted_keeps hpicture i (h (.inl hpicture)))
      have hdropped : l.holds (if old = .present then dropSource i (purgeDeparted i (dropDeparted i s))
          else purgeDeparted i (dropDeparted i s)) := by
        split
        · exact dropSource_keeps i hpurged
        · exact hpurged
      split
      · exact noticePeerView_keeps hdropped
      · exact hdropped

theorem restartPeer_keeps (i : Slot) (k : FrameKind) (h : l.holds s) : l.holds (restartPeer i k s) := by
  have hreset : l.holds (resetSequence i (s.setPeer i (s.peer i).forgotten)) :=
    resetSequence_keeps i (setPeer_keeps (fun _ => ⟨countChanges_self _, rfl⟩) h)
  unfold restartPeer
  dsimp only
  split
  · exact hreset
  · exact bump_keeps _ hreset

theorem recorded_summary (e : PeerEntry) (n : Nat) (k : FrameKind) (body : List Byte) :
    (e.recorded n k body).summary = e.summary := by cases k <;> rfl

/-- The entry update of a frame heard keeps every law, the alarm picture where the sender's state stays one of those it
does not tell apart (R65, R165). -/
theorem updateEntry_keeps {i : Slot} {k : FrameKind} {body : List Byte}
    (hl : l.ofPicture → countChanges (s.peer i).state (stateAfter k (s.peer i).state) = false) (h : l.holds s) :
    l.holds (updateEntry i k body s) := by
  have hcounted : l.holds (countFrame i (s.setPeer i { s.peer i with age := some 0 })) :=
    countFrame_keeps i (setPeer_keeps (fun _ => ⟨countChanges_self _, rfl⟩) h)
  have hstate : ((countFrame i (s.setPeer i { s.peer i with age := some 0 })).peer i).state = (s.peer i).state := by
    rw [countFrame_peer, if_pos rfl, State.peer_setPeer]
  unfold updateEntry
  dsimp only
  split
  · refine setPeer_keeps (fun hp => ?_) (restartPeer_keeps i k hcounted)
    rw [restartPeer_peer, if_pos rfl]
    exact ⟨by simpa only [PeerEntry.forgotten, hstate] using hl hp, recorded_summary ..⟩
  · refine setPeer_keeps (fun hp => ?_) hcounted
    exact ⟨by simpa only [hstate] using hl hp, recorded_summary ..⟩

theorem updateEntry_state (i : Slot) (k : FrameKind) (body : List Byte) (s : State) :
    ((updateEntry i k body s).peer i).state = stateAfter k (s.peer i).state := by
  rw [updateEntry_peer, if_pos rfl]

/-- A frame from a peer keeps every law that what its kind does with the body keeps, that leaving the entry's state. -/
theorem hearPeer_keeps {i : Slot} {k : FrameKind} {body : List Byte} {act : State → State}
    (hact : ∀ t, l.holds t → l.holds (act t)) (hpeer : ∀ t : State, ((act t).peer i).state = (t.peer i).state)
    (h : l.holds s) : l.holds (hearPeer i k body act s) := by
  refine handOff_keeps fun hcount => hact _ (updateEntry_keeps (fun hp => ?_) h)
  rw [hpeer, updateEntry_state] at hcount
  exact hcount.resolve_left (fun hne => hne hp)

theorem storeSummary_keeps (i : Slot) (body : List Byte) (h : l.holds s) : l.holds (storeSummary i body s) := by
  by_cases hl : l.ofPicture
  · exact Law.holds_of_picture hl (noticePeerView_picture _)
  · exact noticePeerView_keeps (setPeer_keeps (fun hp => absurd hp hl) h)

theorem hearReady_keeps (i : Slot) (h : l.holds s) : l.holds (hearReady i s) := by
  unfold hearReady
  split
  · exact setPeer_keeps (fun _ => ⟨countChanges_self _, rfl⟩) h
  · exact h

theorem loseSilent_keeps (i : Slot) (h : l.holds s) : l.holds (loseSilent i s) := by
  refine handOff_keeps fun hcount => bump_keeps _ (setPeer_keeps (fun hp => ⟨?_, rfl⟩) h)
  have hnew := hcount.resolve_left (fun hne => hne hp)
  simpa only [State.peer, bump_frame, State.setPeer_ptb_getElem, Fin.getElem_fin, if_true] using hnew

theorem forgetPeer_keeps {i : Slot} (hold : (s.peer i).state = .gone ∨ (s.peer i).state = .lost) (h : l.holds s) :
    l.holds (forgetPeer i s) := by
  refine handOff_keeps fun hcount => setPeer_keeps (fun hp => ?_) h
  have hnew := hcount.resolve_left (fun hne => hne hp)
  rw [State.peer_setPeer] at hnew
  obtain hold | hold := hold <;> rw [hold] at hnew <;> cases hnew

theorem clearTable_keeps (h : l.holds s) : l.holds (clearTable s) := by
  have hcleared : l.holds (noticePeerView { s with ptb := Vector.replicate 16 .cleared }) := by
    by_cases hl : l.ofPicture
    · exact Law.holds_of_picture hl (noticePeerView_picture _)
    · exact noticePeerView_keeps (setPtb_keeps (fun hp => absurd hp hl) h)
  unfold clearTable
  dsimp only
  split
  · exact signal_keeps _ hcleared
  · exact hcleared

theorem forgetSequences_keeps (h : l.holds s) : l.holds (forgetSequences s) :=
  setPtb_keeps (fun _ => map_view_mapVector (f := PeerEntry.forgotten) (fun _ => rfl) s.ptb) h

end Sys2Proof.Machine
end

section
/-! Every operation of the seating controller keeps every law of the part. A change of seating state takes the seventh
law's drivers and the judgement of T1 with it (R130, R132, R108). -/

namespace Sys2Proof.Machine

open Sys2Proof

variable {l : Law} {s : State}

/-! ### One change of seating state, block by block -/

theorem enterBase_keeps (hl : l ≠ .sourceLost) (new : Seating) (h : l.holds s) : l.holds (enterBase new s) := by
  refine signal_keeps _ ?_
  cases l with
  | sourceLost => exact absurd rfl hl
  | drive => exact ⟨rfl, rfl⟩
  | _ => exact h

theorem enterQueues_keeps (new : Seating) (h : l.holds s) : l.holds (enterQueues new s) := by
  unfold enterQueues
  split
  · exact purgeWithdrawn_keeps h
  · exact h

theorem enterSlots_keeps (new : Seating) (h : l.holds s) : l.holds (enterSlots new s) := by
  cases new with
  | forced => exact requestGone_keeps _ (emptySlots_keeps _ h)
  | isolated | conflict | unseated => exact emptySlots_keeps _ h
  | listening =>
    have hslots : l.holds (emptySlots (fun k => decide (k = .ready)) s) := emptySlots_keeps _ h
    cases l <;> exact hslots
  | _ => exact h

theorem cutFrame_keeps (t : Transmission) (h : l.holds s) : l.holds (cutFrame t s) :=
  lostOutcome_keeps _ _ (bump_keeps _ (setBau_keeps (fun _ => rfl) h))

theorem enterCut_keeps (new : Seating) (h : l.holds s) : l.holds (enterCut new s) := by
  unfold enterCut
  split
  · split
    · exact cutFrame_keeps _ h
    · exact h
  · exact h

theorem dropAwaited_keeps (h : l.holds s) : l.holds (dropAwaited s) := by
  unfold dropAwaited
  split
  · exact lostOutcome_keeps _ _ (setBau_keeps (fun _ => rfl) h)
  · exact h

/-- A change of the bus access unit that leaves the own frame keeps every law. -/
theorem setBau_tx_keeps {b : Bau} (htx : b.tx = s.bau.tx) (h : l.holds s) : l.holds { s with bau := b } :=
  setBau_keeps (fun hl => by subst hl; exact htx.trans h) h

/-- A reply of a station that no longer takes part stops (R12). -/
theorem stopReply_keeps (new : Seating) (h : l.holds s) :
    l.holds (if takesPart new then s else { s with bau := { s.bau with reply := none } }) := by
  split
  · exact h
  · exact setBau_tx_keeps rfl h

theorem leaveInactive_keeps (h : l.holds s) :
    l.holds (if s.bau.view = .inactive then { s with bau := { s.bau with view := .settle } } else s) := by
  split
  · exact setBau_tx_keeps rfl h
  · exact h

theorem enterBus_keeps (new : Seating) (h : l.holds s) : l.holds (enterBus new s) := by
  have hcut := stopReply_keeps new (enterCut_keeps new h)
  cases new with
  | unseated => exact setBau_tx_keeps rfl (dropAwaited_keeps (takeEnding_keeps hcut))
  | listening => exact setBau_tx_keeps rfl hcut
  | seated => exact leaveInactive_keeps hcut
  | _ => exact hcut

theorem enterPool_keeps (new : Seating) (h : l.holds s) : l.holds (enterPool new s) := by
  cases new with
  | unseated => exact poolSeatLoss_keeps h
  | forced | conflict | isolated => exact readyWithdrawn_keeps h
  | _ => exact h

theorem enterPeers_keeps (new : Seating) (h : l.holds s) : l.holds (enterPeers new s) := by
  cases new with
  | unseated | listening => exact clearTable_keeps h
  | _ => exact h

theorem enterSources_keeps (old new : Seating) (h : l.holds s) : l.holds (enterSources old new s) := by
  have hleft : l.holds (if old = .joined then sourcesLeft s else s) := by
    split
    · exact sourcesLeft_keeps h
    · exact h
  cases new with
  | unseated | listening => exact clearSources_keeps h
  | joined => exact sourcesJoined_keeps h
  | _ => exact hleft

/-- T1 is judged afresh wherever a change of state can change its condition (R108). -/
theorem enterSources_sourceLost {old : Seating} (hlost : old ≠ .joined → s.src.sourceLost = false) :
    LawSourceLost (enterSources old s.sec.state s) := by
  have hjudged := judgeSourceLost_judged
  have hleft : s.sec.state ≠ .joined → LawSourceLost (if old = .joined then sourcesLeft s else s) := by
    intro hnew
    split
    · exact hjudged _
    next hold => simpa [LawSourceLost, hnew] using hlost hold
  have hjoined : LawSourceLost (sourcesJoined s) := by
    unfold sourcesJoined
    dsimp only
    split
    · exact requestAnnounce_keeps (l := .sourceLost) (hjudged _)
    · exact hjudged _
  generalize hnew : s.sec.state = new at hleft ⊢
  cases new with
  | unseated | listening => exact hjudged _
  | joined => exact hjoined
  | _ => exact hleft nofun

theorem requestSummary_keeps (h : l.holds s) : l.holds (requestSummary s) :=
  request_keeps _ (by cases l <;> exact h)

theorem enterSummaries_keeps (new : Seating) (h : l.holds s) : l.holds (enterSummaries new s) := by
  cases new with
  | joined => exact requestSummary_keeps h
  | _ => cases l <;> exact h

theorem leaveAlarms_keeps (old : Seating) (h : l.holds s) : l.holds (leaveAlarms old s) := by
  cases old with
  | conflict | isolated => exact clearKey_keeps _ h
  | _ => exact h

theorem enterState_keeps (new : Seating) (h : l.holds s) : l.holds (enterState new s) := by
  refine leaveAlarms_keeps _ (enterSummaries_keeps _ ?_)
  by_cases hl : l = .sourceLost
  · subst hl
    have hjudged := enterSources_sourceLost (old := s.sec.state) (s := enterPeers new (enterPool new (enterBus new
      (enterSlots new (enterQueues new (enterBase new s))))))
    simp only [enterPeers_frame, enterPool_frame, enterBus_frame, enterSlots_frame, enterQueues_frame,
      enterBase_frame] at hjudged
    exact hjudged fun hold => by simpa [hold] using h
  · exact enterSources_keeps _ _ (enterPeers_keeps _ (enterPool_keeps _ (enterBus_keeps _ (enterSlots_keeps _
      (enterQueues_keeps _ (enterBase_keeps hl _ h))))))

/-! ### Fields of the controller -/

theorem setSec_keeps {c : Sec}
    (hsame : c.state = s.sec.state ∧ c.drven = s.sec.drven ∧ c.rmvok = s.sec.rmvok) (h : l.holds s) :
    l.holds { s with sec := c } := by
  obtain ⟨hstate, hdrven, hrmvok⟩ := hsame
  cases l with
  | drive => simpa [hstate, hdrven, hrmvok] using h
  | sourceLost => simpa [hstate] using h
  | _ => exact h

theorem setStl_keeps (x : Stl) (h : l.holds s) : l.holds { s with stl := x } := by cases l <;> exact h

theorem clearCauses_keeps (h : l.holds s) : l.holds (clearCauses s) := setSec_keeps ⟨rfl, rfl, rfl⟩ h

theorem setPower_keeps (on : Bool) (h : l.holds s) : l.holds (setPower on s) := setSec_keeps ⟨rfl, rfl, rfl⟩ h

theorem losePower_keeps (h : l.holds s) : l.holds (losePower s) := raiseInternal_keeps _ (setPower_keeps _ h)

/-! ### Entries into the states -/

theorem enterListening_keeps (h : l.holds s) : l.holds (enterListening s) :=
  setSec_keeps ⟨rfl, rfl, rfl⟩ (clearKey_keeps _ (clearCauses_keeps (enterState_keeps _ h)))

theorem enterConfig_keeps (h : l.holds s) : l.holds (enterConfig s) := setStl_keeps _ (enterState_keeps _ h)

theorem powerUp_keeps (h : l.holds s) : l.holds (powerUp s) := by
  unfold powerUp
  dsimp only
  split
  · exact enterListening_keeps (clearKey_keeps _ h)
  · exact enterConfig_keeps (clearKey_keeps _ h)

theorem enterPowering_keeps (h : l.holds s) : l.holds (enterPowering s) := by
  have hentered : l.holds ((clearKey keyH3 (clearCauses (setPower true (enterState .powering s)))).setSec
      (fun c => { c with powerGoodTimer := some (Config.ms 100) })) :=
    setSec_keeps ⟨rfl, rfl, rfl⟩ (clearKey_keeps _ (clearCauses_keeps (setPower_keeps _ (enterState_keeps _ h))))
  unfold enterPowering
  dsimp only
  split
  · exact powerUp_keeps hentered
  · exact hentered

theorem startNotice_keeps (h : l.holds s) : l.holds (startNotice s) := signal_keeps _ (setSec_keeps ⟨rfl, rfl, rfl⟩ h)

theorem enterWithdrawn_keeps (h : l.holds s) : l.holds (enterWithdrawn s) := by
  unfold enterWithdrawn
  extract_lets s1 s2
  have hentered : l.holds s2 := by
    refine enterState_keeps _ ?_
    unfold s1
    split
    iterate 4 exact setSec_keeps ⟨rfl, rfl, rfl⟩ h
    all_goals exact h
  split
  · split
    · exact enterPowering_keeps hentered
    · split
      · exact startNotice_keeps hentered
      · exact hentered
  · exact hentered

theorem enterPowerFault_keeps (h : l.holds s) : l.holds (enterPowerFault s) :=
  setSec_keeps ⟨rfl, rfl, rfl⟩ (signal_keeps _ (setPower_keeps _ (enterState_keeps _ h)))

theorem enterConflict_keeps (cause : ConflictCause) (h : l.holds s) : l.holds (enterConflict cause s) :=
  signal_keeps _ (raiseInternal_keeps _ (setSec_keeps ⟨rfl, rfl, rfl⟩ (enterState_keeps _ h)))

theorem enterIsolated_keeps (h : l.holds s) : l.holds (enterIsolated s) :=
  signal_keeps _ (raiseInternal_keeps _ (enterState_keeps _ h))

theorem enterForced_keeps (cause : ForceCause) (h : l.holds s) : l.holds (enterForced cause s) :=
  setSec_keeps ⟨rfl, rfl, rfl⟩ (enterState_keeps _ h)

/-- A change of the scheduler that leaves the queues and the store keeps every law. -/
theorem setTxs_keeps {x : Txs} (hqueues : x.queues = s.txs.queues) (hfree : x.storeFree = s.txs.storeFree)
    (h : l.holds s) : l.holds { s with txs := x } := by
  cases l with
  | queued => simpa [hqueues] using h
  | store => simpa [hqueues, hfree] using h
  | _ => exact h

theorem enterDraining_keeps (cause : WithdrawCause) (h : l.holds s) : l.holds (enterDraining cause s) :=
  reportDrained_keeps (setTxs_keeps rfl rfl
    (setSec_keeps ⟨rfl, rfl, rfl⟩ (requestWithdraw_keeps _ (enterState_keeps _ h))))

theorem enterJoined_keeps (h : l.holds s) : l.holds (enterJoined s) := by
  have hentered := clearCauses_keeps (enterState_keeps .joined h)
  unfold enterJoined
  dsimp only
  split
  · exact hentered
  · exact enterDraining_keeps _ hentered

theorem enterJoining_keeps (h : l.holds s) : l.holds (enterJoining s) := request_keeps _ (enterState_keeps _ h)

theorem sampleStraps_keeps (hl : l ≠ .relays) (h : l.holds s) : l.holds (sampleStraps s) := by
  cases l with
  | relays => exact absurd rfl hl
  | _ => exact h

theorem refreshRelays_keeps (h : l.holds s) : l.holds (refreshRelays s) := by
  cases l with
  | relays => exact ⟨rfl, rfl⟩
  | _ => exact h

/-- The relays follow the collector role that the straps give (R172, R190). -/
theorem enterSeated_keeps (h : l.holds s) : l.holds (enterSeated s) := by
  have hseated : l.holds (refreshRelays (enterState .seated (sampleStraps s))) := by
    by_cases hl : l = .relays
    · subst hl
      exact ⟨rfl, rfl⟩
    · exact refreshRelays_keeps (enterState_keeps _ (sampleStraps_keeps hl h))
  unfold enterSeated
  dsimp only
  split
  · split
    · exact enterPowering_keeps hseated
    · exact hseated
  · exact raiseInternal_keeps _ hseated

theorem leaveCollector_keeps (hl : l ≠ .relays) (h : l.holds s) :
    l.holds { s with alu := { s.alu with collector := false } } := by
  cases l with
  | relays => exact absurd rfl hl
  | _ => exact h

theorem enterUnseated_keeps (h : l.holds s) : l.holds (enterUnseated s) := by
  by_cases hl : l = .relays
  · subst hl
    exact ⟨rfl, rfl⟩
  · exact refreshRelays_keeps (leaveCollector_keeps hl (clearKey_keeps _ (clearKey_keeps _ (clearKey_keeps _
      (clearKey_keeps _ (clearKey_keeps _ (setSec_keeps ⟨rfl, rfl, rfl⟩ (clearCauses_keeps (setPower_keeps _
        (enterState_keeps _ h)))))))))) 

/-! ### Reports and events -/

theorem ownSlotHeard_keeps (h : l.holds s) : l.holds (ownSlotHeard s) := by
  unfold ownSlotHeard
  split
  · exact setSec_keeps ⟨rfl, rfl, rfl⟩ h
  iterate 3 exact enterConflict_keeps _ h
  all_goals exact h

theorem duplicateSuspected_keeps (h : l.holds s) : l.holds (duplicateSuspected s) := by
  unfold duplicateSuspected
  split
  iterate 4 exact enterConflict_keeps _ h
  all_goals exact h

theorem joinTransmitted_keeps (h : l.holds s) : l.holds (joinTransmitted s) := by
  unfold joinTransmitted
  split
  · exact enterJoined_keeps h
  all_goals exact h

theorem goneTransmitted_keeps (h : l.holds s) : l.holds (goneTransmitted s) := by
  unfold goneTransmitted
  split
  · exact enterWithdrawn_keeps h
  · split
    · exact enterPowerFault_keeps h
    · exact enterWithdrawn_keeps h
  all_goals exact h

theorem becomeEjector_keeps (h : l.holds s) : l.holds (becomeEjector s) :=
  signal_keeps _ (setSec_keeps ⟨rfl, rfl, rfl⟩ h)

theorem relatch_keeps (h : l.holds s) : l.holds (relatch s) :=
  enterJoined_keeps (request_keeps _ (setSlots_keeps _ h))

theorem ejectorOpens_keeps (h : l.holds s) : l.holds (ejectorOpens s) := by
  unfold ejectorOpens
  split
  · exact enterSeated_keeps (setPower_keeps _ h)
  iterate 4 exact enterWithdrawn_keeps h
  · exact enterDraining_keeps _ h
  · split
    · exact requestWithdraw_keeps _ (becomeEjector_keeps h)
    · exact h
  · split
    · exact h
    · exact becomeEjector_keeps h
  · split
    · exact startNotice_keeps (becomeEjector_keeps h)
    · exact h
  · exact setSec_keeps ⟨rfl, rfl, rfl⟩ h
  all_goals exact h

theorem ejectorLatches_keeps (h : l.holds s) : l.holds (ejectorLatches s) := by
  unfold ejectorLatches
  split
  · split
    · exact enterPowering_keeps h
    · exact h
  · split
    · exact relatch_keeps h
    · exact h
  iterate 2
    · split
      · exact enterPowering_keeps h
      · exact h
  all_goals exact h

theorem powerLost_keeps (h : l.holds s) : l.holds (powerLost s) := by
  unfold powerLost
  split
  iterate 3 exact enterPowerFault_keeps (losePower_keeps h)
  iterate 2 exact enterForced_keeps _ (losePower_keeps h)
  · split
    · exact setSec_keeps ⟨rfl, rfl, rfl⟩ (losePower_keeps h)
    · exact h
  iterate 3
    · split
      · exact enterPowerFault_keeps (losePower_keeps h)
      · exact h
  all_goals exact h

end Sys2Proof.Machine
end

section
/-! Every operation of the bus access unit, the start loader and the card port keeps every law of the part, and so does
every command. What a command may not keep is said once, in `Law.keptBy`. -/

namespace Sys2Proof.Machine

open Sys2Proof

variable {l : Law} {s : State}

theorem ite_keeps {p : Prop} [Decidable p] {a b : State} (ha : p → l.holds a) (hb : ¬ p → l.holds b) :
    l.holds (if p then a else b) := by
  split
  next hp => exact ha hp
  next hp => exact hb hp

/-! ### Frames heard: the state of the sender's entry is the entry update's (R65) -/

/-- The states of the peer entries are the same. -/
def PeerStatesSame (s t : State) : Prop := ∀ j, (t.peer j).state = (s.peer j).state

theorem PeerStatesSame.trans {t u : State} (h : PeerStatesSame s t) (h' : PeerStatesSame t u) : PeerStatesSame s u :=
  fun j => (h' j).trans (h j)

theorem peerStatesSame_of_ptb {t : State} (h : t.ptb = s.ptb) : PeerStatesSame s t := fun j => by
  rw [State.peer, State.peer, h]

theorem peerStatesSame_setPeer {i : Slot} {e : PeerEntry} (h : e.state = (s.peer i).state) :
    PeerStatesSame s (s.setPeer i e) := fun j => by
  by_cases hj : j = i
  · subst hj
    rw [State.peer_setPeer, h]
  · rw [State.peer_setPeer_ne s e hj]

theorem countGapOf_peerStates (f : DataFrame) (s : State) : PeerStatesSame s (countGapOf f s) := by
  unfold countGapOf
  split
  · exact fun _ => rfl
  · split
    · exact fun _ => rfl
    · have hcount : PeerStatesSame s (s.setPeer f.source { s.peer f.source with
          gaps := satAdd (s.peer f.source).gaps (gapOf f.sequence ‹_›) }) := peerStatesSame_setPeer rfl
      exact hcount.trans (peerStatesSame_of_ptb (by simp [countGap]))

theorem takeDuplicate_peerStates (f : DataFrame) (s : State) : PeerStatesSame s (takeDuplicate f s) := by
  have hbump : PeerStatesSame s (bump .duplicates s) := peerStatesSame_of_ptb (by simp)
  refine hbump.trans ((peerStatesSame_setPeer (i := f.source) (e := { (bump .duplicates s).peer f.source with
    duplicates := satAdd ((bump .duplicates s).peer f.source).duplicates 1 }) rfl).trans (peerStatesSame_of_ptb ?_))
  simp [takeDuplicate, countDuplicate]

theorem acceptUnicast_peerStates (f : DataFrame) (s : State) : PeerStatesSame s (acceptUnicast f s) := by
  have hstore : PeerStatesSame (countGapOf f s) (storeFrame f (countGapOf f s)) := peerStatesSame_of_ptb (by simp)
  have haccept : PeerStatesSame (storeFrame f (countGapOf f s))
      (setAccepted f.source f.cls f.sequence (storeFrame f (countGapOf f s))) := peerStatesSame_setPeer rfl
  exact ((countGapOf_peerStates f s).trans hstore).trans (haccept.trans (peerStatesSame_of_ptb (by simp [acceptUnicast])))

theorem poolTake_peerStates (f : DataFrame) (s : State) : PeerStatesSame s (poolTake f s) := by
  unfold poolTake
  split
  · split
    · split
      · unfold takeUnicast
        split
        · exact takeDuplicate_peerStates f s
        · split
          · exact acceptUnicast_peerStates f s
          · exact peerStatesSame_of_ptb (by simp)
      · exact peerStatesSame_of_ptb (by simp)
    · exact peerStatesSame_of_ptb (by simp)
  · exact fun _ => rfl

theorem storeSummary_peerStates (i : Slot) (body : List Byte) (s : State) :
    PeerStatesSame s (storeSummary i body s) := by
  have hset : PeerStatesSame s (s.setPeer i { s.peer i with summary := some (readSummary body) }) :=
    peerStatesSame_setPeer rfl
  exact hset.trans (peerStatesSame_of_ptb (by simp [storeSummary]))

theorem hearReady_peerStates (i : Slot) (s : State) : PeerStatesSame s (hearReady i s) := by
  unfold hearReady
  split
  · exact peerStatesSame_setPeer rfl
  · exact fun _ => rfl

theorem enterWindow_keeps (h : l.holds s) : l.holds (enterWindow s) := setBau_tx_keeps rfl h

theorem takeGood_keeps {i : Slot} {k : FrameKind} {body : List Byte} {act : State → State}
    (hact : ∀ t, l.holds t → l.holds (act t)) (hpeer : ∀ t, PeerStatesSame t (act t)) (h : l.holds s) :
    l.holds (takeGood i k body act s) := by
  have htaken : l.holds (enterWindow (bump .framesHeard (s.setBau (fun b => { b with pointer := s.pointerAfter i })))) :=
    enterWindow_keeps (bump_keeps _ (setBau_tx_keeps rfl h))
  exact ite_keeps (fun _ => ownSlotHeard_keeps (bump_keeps _ htaken))
    (fun _ => hearPeer_keeps hact (fun t => hpeer t i) htaken)

theorem judgeCut_keeps (rx : Reception) (b : Bool) (h : l.holds s) : l.holds (judgeCut rx b s) := by
  cases rx with
  | ownCollided => exact h
  | _ => exact judgeBroken_keeps _ _ h

theorem endBroken_keeps (rx : Reception) (b : Bool) (h : l.holds s) : l.holds (endBroken rx b s) :=
  enterWindow_keeps (judgeCut_keeps rx b h)

theorem takeBroken_keeps (rx : Reception) (a : Activity) (h : l.holds s) : l.holds (takeBroken rx a s) := by
  unfold takeBroken
  split
  iterate 3 exact endBroken_keeps _ _ h
  split
  · exact h
  · exact enterWindow_keeps (judgeBroken_keeps _ _ h)

theorem hearFrame_keeps {i : Slot} {k : FrameKind} {body : List Byte} {act : FullTime → State → State}
    (hact : ∀ stamp t, l.holds t → l.holds (act stamp t)) (hpeer : ∀ stamp t, PeerStatesSame t (act stamp t))
    (h : l.holds s) : l.holds (hearFrame i k body act s) := by
  unfold hearFrame
  split
  · exact ite_keeps (fun _ => enterWindow_keeps (judgeBroken_keeps _ _ h))
      (fun _ => reportDrained_keeps (takeGood_keeps (hact _) (hpeer _) h))
  iterate 3 exact endBroken_keeps _ _ h
  exact h

/-! ### Own frames -/

theorem beginFrame_keeps (hl : l ≠ .silent) (x : Transmission) (h : l.holds s) : l.holds (beginFrame x s) :=
  setBau_keeps (fun hs => absurd hs hl) h

theorem map_payload_flyAt (n : Nat) (q : List QueueEntry) :
    (flyAt n q).map QueueEntry.payload = q.map QueueEntry.payload := by
  induction q generalizing n with
  | nil => cases n <;> rfl
  | cons e rest ih =>
    cases n with
    | zero => rfl
    | succ n => simp [flyAt, ih]

theorem startCandidate_keeps (hl : l ≠ .silent) (x : Candidate) (own : Slot) (stamp : FullTime) (h : l.holds s) :
    l.holds (startCandidate x own stamp s) := by
  cases x with
  | internal k => exact beginFrame_keeps hl _ (setSlots_keeps _ h)
  | card c place =>
    unfold startCandidate startCard
    dsimp only
    split
    · exact h
    · have hpayload := map_payload_flyAt place (s.queue c)
      exact beginFrame_keeps hl _
        (setQueue_keeps (by simpa using congrArg List.length hpayload) (unitsOf_congr hpayload) h)

theorem claimPosition_keeps (hl : l ≠ .silent) (p : Nat) (k : EdgeDelay) (h : l.holds s) :
    l.holds (claimPosition p k s) := by
  unfold claimPosition
  split
  · exact h
  · refine ite_keeps (fun _ => ?_) (fun _ => h)
    have hswept : l.holds (if p / s.cabinet = 2 then reportDrained (sweepLate s) else s) :=
      ite_keeps (fun _ => reportDrained_keeps (sweepLate_keeps h)) (fun _ => h)
    dsimp only
    split
    · exact hswept
    · exact startCandidate_keeps hl _ _ _ hswept

theorem beginActivity_keeps (rx : Reception) (h : l.holds s) : l.holds (beginActivity rx s) := by
  unfold beginActivity
  split
  iterate 2 exact setBau_tx_keeps rfl h
  all_goals exact h

theorem tellProducer_keeps (k : InternalKind) (h : l.holds s) : l.holds (tellProducer k s) := by
  cases k with
  | join => exact joinTransmitted_keeps (forgetSequences_keeps h)
  | gone => exact goneTransmitted_keeps h
  | withdraw => exact h
  | ready => exact readyTransmitted_keeps h
  | summary | announce | sync => exact bump_keeps _ h

theorem completeFrame_keeps (hl : l ≠ .silent) (x : Transmission) (h : l.holds s) : l.holds (completeFrame x s) := by
  unfold completeFrame
  split
  · exact endSent_keeps hl x h
  · exact ite_keeps (fun _ => tellProducer_keeps _ (setSlots_keeps _ (endSent_keeps hl x h)))
      (fun _ => endSent_keeps hl x h)

theorem collideFrame_keeps (x : Transmission) (h : l.holds s) : l.holds (collideFrame x s) :=
  ite_keeps (fun _ => duplicateSuspected_keeps (endCollided_keeps x h)) (fun _ => endCollided_keeps x h)

theorem countWindow_keeps (x : Option ReplyCode × Bool) (h : l.holds s) : l.holds (countWindow x s) := by
  have hnone : l.holds (if x.1.isNone then bump .noReply s else s) := ite_keeps (fun _ => bump_keeps _ h) (fun _ => h)
  exact ite_keeps (fun _ => bump_keeps _ hnone) (fun _ => hnone)

theorem closeOwnWindow_keeps (x : Transmission) (w : WindowContent) (h : l.holds s) :
    l.holds (closeOwnWindow x w s) := by
  have hcounted : l.holds (countWindow (classifyWindow w) (s.setBau (fun b => { b with tx := none }))) :=
    countWindow_keeps _ (setBau_keeps (fun _ => rfl) h)
  unfold closeOwnWindow
  dsimp only
  split
  · exact cardOutcome_keeps _ _ hcounted
  · exact hcounted

/-! ### The start loader -/

theorem giveInputs_keeps (g : RecordImage) (h : l.holds s) : l.holds (giveInputs g s) := by
  unfold giveInputs
  generalize ([0, 1, 2, 3, 4, 5, 6, 7] : List (Fin 8)) = ns
  induction ns generalizing s with
  | nil => exact h
  | cons n rest ih => exact ih (takeInputSettings_keeps _ _ h)

/-- A card port whose lines are brought to the levels of its events keeps the laws, its events staying in order. -/
theorem setCpt_refreshLines_keeps {c : Cpt} (hresults : c.results.length ≤ s.cpt.results.length)
    (hevents : LawEvents s → c.events.Pairwise (fun a b => a.number < b.number)) (h : l.holds s) :
    l.holds { s with cpt := c.refreshLines } := by
  cases l with
  | queued => exact Nat.le_trans (Nat.add_le_add_left hresults _) h
  | lines => exact ⟨rfl, rfl⟩
  | events => exact hevents h
  | _ => exact h

theorem giveSources_keeps (g : RecordImage) (h : l.holds s) : l.holds (giveSources g s) :=
  setSrc_keeps rfl rfl rfl (fun _ => rfl) h

theorem givePool_keeps (g : RecordImage) (h : l.holds s) : l.holds (givePool g s) :=
  testReady_keeps (setRxp_keeps id h)

theorem giveTime_keeps (g : RecordImage) (h : l.holds s) : l.holds (giveTime g s) :=
  setTmu_keeps_of_same rfl rfl rfl rfl rfl h

theorem giveEventMap_keeps (g : RecordImage) (h : l.holds s) : l.holds (giveEventMap g s) :=
  setCpt_refreshLines_keeps (c := { s.cpt with eventMap := g.eventMap.getD defaultEventMap }) (Nat.le_refl _) id h

theorem handOn_keeps (g : RecordImage) (h : l.holds s) : l.holds (handOn g s) :=
  giveEventMap_keeps g (giveInputs_keeps g (giveTime_keeps g (givePool_keeps g (giveSources_keeps g h))))

theorem setRecordLoaded_keeps (h : l.holds s) : l.holds (s.setSec (fun c => { c with recordLoaded := true })) :=
  setSec_keeps ⟨rfl, rfl, rfl⟩ h

theorem completeLoad_keeps (o : LoadOutcome) (h : l.holds s) : l.holds (completeLoad o s) := by
  have hlistening : l.holds (enterListening ((handOn o.image { s with stl := { s.stl with
      load := none, image := some o.image } }).setSec (fun c => { c with recordLoaded := true }))) :=
    enterListening_keeps (setRecordLoaded_keeps (handOn_keeps _ (setStl_keeps _ h)))
  exact ite_keeps (fun _ => clearKey_keeps _ (raiseInternal_keeps _ hlistening)) (fun _ => hlistening)

/-! ### The card port -/

/-- What a change of the card port leaves so that every law stays. -/
theorem setCpt_keeps {c : Cpt} (hresults : c.results.length ≤ s.cpt.results.length)
    (hsame : c.events = s.cpt.events ∧ c.eventMap = s.cpt.eventMap ∧ c.urgent = s.cpt.urgent
      ∧ c.attention = s.cpt.attention) (h : l.holds s) : l.holds { s with cpt := c } := by
  obtain ⟨hevents, hmap, hurgent, hattention⟩ := hsame
  cases l with
  | queued => exact Nat.le_trans (Nat.add_le_add_left hresults _) h
  | lines => simpa [hevents, hmap, hurgent, hattention] using h
  | events => simpa [hevents] using h
  | _ => exact h

theorem enqueue_keeps (m : Message) (h : l.holds s) : l.holds (enqueue m s) :=
  ite_keeps (fun _ => setCpt_keeps (Nat.le_refl _) ⟨rfl, rfl, rfl, rfl⟩ h) (fun _ => bump_keeps _ h)

theorem takePortEvent_keeps (e : PortEvent) (h : l.holds s) : l.holds (takePortEvent e s) := by
  cases e with
  | message m => exact enqueue_keeps m h
  | linkFault => exact bump_keeps _ h

theorem takePortEvents_keeps (es : List PortEvent) (h : l.holds s) :
    l.holds (es.foldl (fun t e => takePortEvent e t) s) := by
  induction es generalizing s with
  | nil => exact h
  | cons e rest ih => exact ih (takePortEvent_keeps e h)

theorem takeEdges_keeps (edges : List Bool) (h : l.holds s) : l.holds (takeEdges edges s) :=
  ite_keeps (fun _ => h) (fun _ => takePortEvents_keeps _ (setCpt_keeps (Nat.le_refl _) ⟨rfl, rfl, rfl, rfl⟩ h))

theorem handle_keeps {m : Message} {act : State → State} (hact : ∀ t, l.holds t → l.holds (act t)) (h : l.holds s) :
    l.holds (handle m act s) := by
  have hhead : ∀ t, l.holds t → l.holds (takeHead act t) :=
    fun t ht => hact _ (setCpt_keeps (Nat.le_refl _) ⟨rfl, rfl, rfl, rfl⟩ ht)
  exact ite_keeps (fun _ => h) (fun _ => ite_keeps (fun _ => ite_keeps (fun _ => hhead s h) (fun _ => h))
    (fun _ => ite_keeps (fun _ => hhead _ (enqueue_keeps m h)) (fun _ => enqueue_keeps m h)))

theorem reply_keeps (r : Reply) (h : l.holds s) : l.holds (reply r s) :=
  setCpt_keeps (Nat.le_refl _) ⟨rfl, rfl, rfl, rfl⟩ h

theorem refuse_keeps (code : RefusalCode) (kind : Byte) (tag : Option (BitVec 16)) (h : l.holds s) :
    l.holds (refuse code kind tag s) := reply_keeps _ h

theorem sendFull_of_sendJudgement {m : SendRequest} {c : CardClass} (hj : sendJudgement m s = .ok c) :
    s.sendFull c m.payload.length = false := by
  unfold sendJudgement at hj
  repeat' split at hj
  all_goals cases hj
  simp_all

theorem actSend_keeps (m : SendRequest) (h : l.holds s) : l.holds (actSend m s) := by
  refine ite_keeps (fun _ => ?_) (fun _ => refuse_keeps _ _ _ h)
  split
  next hj => exact admitSend_keeps (sendFull_of_sendJudgement hj) h
  next => exact refuse_keeps _ _ _ (bump_keeps _ h)

theorem actRaise_keeps (code severity : Byte) (h : l.holds s) : l.holds (actRaise code severity s) := by
  unfold actRaise
  split
  · exact raiseKey_keeps _ _ h
  · exact refuse_keeps _ _ _ h

theorem actClear_keeps (code : Byte) (h : l.holds s) : l.holds (actClear code s) := by
  unfold actClear
  split
  · exact clearKey_keeps _ h
  · exact refuse_keeps _ _ _ h

theorem actAck_keeps (origin code : Byte) (h : l.holds s) : l.holds (actAck origin code s) := by
  unfold actAck
  split
  · exact ackEntry_keeps _ h
  · exact refuse_keeps _ _ _ h

theorem actForget_keeps (slot : Byte) (h : l.holds s) : l.holds (actForget slot s) := by
  unfold actForget
  split
  · exact refuse_keeps _ _ _ h
  · split
    next hgone => exact reportDrained_keeps (forgetPeer_keeps (.inl hgone) h)
    next hlost => exact reportDrained_keeps (forgetPeer_keeps (.inr hlost) h)
    · exact h
    iterate 2 exact refuse_keeps _ _ _ h

theorem actWithdraw_keeps (h : l.holds s) : l.holds (actWithdraw s) :=
  ite_keeps (fun _ => enterDraining_keeps _ h) (fun _ => refuse_keeps _ _ _ h)

theorem actRejoin_keeps (h : l.holds s) : l.holds (actRejoin s) :=
  ite_keeps (fun _ => enterListening_keeps h) (fun _ => refuse_keeps _ _ _ h)

theorem actRead_keeps (item : ReadItem) (n : Byte) (clear : Bool) (fields : State → List Byte) (h : l.holds s) :
    l.holds (actRead item n clear fields s) :=
  ite_keeps (fun _ => refuse_keeps _ _ _ h) (fun _ => reply_keeps _ h)

theorem actReadPeer_keeps (n : Byte) (clear : Bool) (h : l.holds s) : l.holds (actReadPeer n clear s) :=
  ite_keeps (fun _ => actRead_keeps _ _ _ _ h) (fun _ => refuse_keeps _ _ _ h)

theorem setCounters_keeps (cs : Vector Counter 41) (h : l.holds s) : l.holds { s with counters := cs } := by
  cases l <;> exact h

theorem clearCounters_keeps (h : l.holds s) : l.holds (clearCounters s) :=
  setPtb_keeps (s := { s with counters := Vector.replicate 41 0 })
    (fun _ => map_view_mapVector (f := fun e : PeerEntry => { e with frames := 0, gaps := 0, duplicates := 0 })
      (fun _ => rfl) s.ptb)
    (setCounters_keeps _ h)

theorem actNextEvent_keeps (h : l.holds s) : l.holds (actNextEvent s) := by
  unfold actNextEvent
  split
  · exact reply_keeps _ h
  next e rest hevents =>
    refine reply_keeps _ (setCpt_refreshLines_keeps (Nat.le_refl _) (fun hs => ?_) h)
    exact (List.pairwise_cons.mp (hevents ▸ hs : (e :: rest).Pairwise _)).2

theorem grant_keeps (h : l.holds s) : l.holds (grant s) := by
  unfold grant
  split
  · have hset : ∀ m, l.holds (s.setCpt (fun c => { c with outgoing := some { message := m } })) :=
      fun m => setCpt_keeps (Nat.le_refl _) ⟨rfl, rfl, rfl, rfl⟩ h
    unfold beginSending
    dsimp only
    split
    · exact markTransfer_keeps (hset _)
    iterate 2 exact hset _
  · exact h

theorem resetPort_keeps (h : l.holds s) : l.holds (resetPort s) :=
  setCpt_refreshLines_keeps (Nat.zero_le _) (fun _ => List.Pairwise.nil) h

theorem cardReset_keeps (h : l.holds s) : l.holds (cardReset s) :=
  reportDrained_keeps (resetCardAlarms_keeps (poolCardReset_keeps (resetQueues_keeps (resetPort_keeps h))))

/-! ### Commands -/

theorem collisionDetected_keeps (h : l.holds s) : ∃ t, exec .collisionDetected s = .next t ∧ l.holds t := by
  refine ⟨_, rfl, ?_⟩
  split
  · exact ite_keeps (fun _ => reportDrained_keeps (collideFrame_keeps _ h)) (fun _ => h)
  · exact h

theorem frameCut_keeps (a : Activity) (h : l.holds s) : ∃ t, exec (.frameCut a) s = .next t ∧ l.holds t := by
  refine ⟨_, rfl, ?_⟩
  split
  · exact setBau_tx_keeps rfl (judgeCut_keeps _ _ h)
  · exact h

theorem brokenFrame_keeps (a : Activity) (h : l.holds s) : ∃ t, exec (.brokenFrame a) s = .next t ∧ l.holds t := by
  refine ⟨_, rfl, ?_⟩
  split
  · exact ite_keeps (fun _ => takeBroken_keeps _ _ h) (fun _ => h)
  · exact h

theorem ownFrameComplete_keeps (h : l.holds s) : ∃ t, exec .ownFrameComplete s = .next t ∧ l.holds t := by
  refine ⟨_, rfl, ?_⟩
  split
  next x _ htx =>
    by_cases hl : l = .silent
    · subst hl
      exact absurd (htx.symm.trans h) (by simp)
    · exact ite_keeps (fun _ => reportDrained_keeps (completeFrame_keeps hl x h)) (fun _ => h)
  · exact h

theorem replyWindowOpen_keeps (h : l.holds s) : ∃ t, exec .replyWindowOpen s = .next t ∧ l.holds t := by
  refine ⟨_, rfl, ?_⟩
  split
  · exact ite_keeps (fun _ => h) (fun _ => bump_keeps _ (setBau_tx_keeps rfl h))
  · exact h

theorem replyWindowEnd_keeps (w : WindowContent) (h : l.holds s) :
    ∃ t, exec (.replyWindowEnd w) s = .next t ∧ l.holds t := by
  have hsettled : l.holds (s.setBau (fun b => { b with view := .settle, reply := none })) := setBau_tx_keeps rfl h
  refine ⟨_, rfl, ite_keeps (fun _ => ?_) (fun _ => h)⟩
  dsimp only
  split
  · exact reportDrained_keeps (closeOwnWindow_keeps _ w hsettled)
  · exact hsettled

theorem replySent_keeps (h : l.holds s) : ∃ t, exec .replySent s = .next t ∧ l.holds t := by
  refine ⟨_, rfl, ?_⟩
  split
  · exact setCpt_keeps (Nat.le_refl _) ⟨rfl, rfl, rfl, rfl⟩ h
  all_goals exact h

theorem resultTransferred_keeps (h : l.holds s) : ∃ t, exec .resultTransferred s = .next t ∧ l.holds t := by
  refine ⟨_, rfl, ?_⟩
  split
  · exact setCpt_keeps (by simp) ⟨rfl, rfl, rfl, rfl⟩ h
  all_goals exact h

theorem deliverComplete_keeps (h : l.holds s) : ∃ t, exec .deliverComplete s = .next t ∧ l.holds t := by
  refine ⟨_, rfl, ?_⟩
  split
  · exact poolDelivered_keeps (setCpt_keeps (Nat.le_refl _) ⟨rfl, rfl, rfl, rfl⟩ h)
  all_goals exact h

theorem silenceTimeout_keeps (i : Slot) (h : l.holds s) :
    ∃ t, exec (.silenceTimeout i) s = .next t ∧ l.holds t := by
  refine ⟨_, rfl, ?_⟩
  split
  iterate 2 exact reportDrained_keeps (loseSilent_keeps i h)
  all_goals exact h

theorem strobePulseEnd_keeps (g : Strobe) (h : l.holds s) :
    ∃ t, exec (.strobePulseEnd g) s = .next t ∧ l.holds t := by
  refine ⟨_, rfl, ite_keeps (fun _ => ?_) (fun _ => h)⟩
  cases g <;> exact setTmu_keeps_of_same rfl rfl rfl rfl rfl h

theorem takeAlert_keeps (hl : l ≠ .relays) (level : Bool) (h : l.holds s) :
    l.holds { s with alu := { s.alu with alert := s.alu.alert.take level } } := by
  cases l with
  | relays => exact absurd rfl hl
  | _ => exact h

theorem alertLevelChange_keeps (level : Bool) (h : l.holds s) :
    ∃ t, exec (.alertLevelChange level) s = .next t ∧ l.holds t := by
  refine ⟨_, rfl, ite_keeps (fun _ => ?_) (fun _ => h)⟩
  by_cases hl : l = .relays
  · subst hl
    exact ⟨rfl, rfl⟩
  · exact refreshRelays_keeps (signal_keeps _ (takeAlert_keeps hl level h))

theorem referenceTimeout_keeps (h : l.holds s) : ∃ t, exec .referenceTimeout s = .next t ∧ l.holds t := by
  have hstopped : l.holds (bump .refTimeouts { s with src := { s.src with refTimeout := none } }) :=
    bump_keeps _ (setSrc_keeps rfl rfl rfl (fun _ => rfl) h)
  exact ⟨_, rfl, ite_keeps (fun _ => h) (fun _ => reportDrained_keeps (loseSource_keeps
    (ite_keeps (fun _ => raiseInternal_keeps _ hstopped) (fun _ => hstopped))))⟩

theorem claimPositionBegin_keeps (hl : l ≠ .silent) (k : EdgeDelay) (h : l.holds s) :
    ∃ t, exec (.claimPositionBegin k) s = .next t ∧ l.holds t :=
  ⟨_, rfl, ite_keeps (fun _ => claimPosition_keeps hl _ k (setBau_tx_keeps rfl h)) (fun _ => h)⟩

theorem setTimers_keeps (x : Alu) (htable : x.table = s.alu.table ∧ x.overflow = s.alu.overflow ∧ x.summary = s.alu.summary
    ∧ x.collector = s.alu.collector ∧ x.alert.level = s.alu.alert.level ∧ x.crit = s.alu.crit ∧ x.maj = s.alu.maj)
    (hdrive : x.alertDrive = s.alu.alertDrive) (h : l.holds s) : l.holds { s with alu := x } := by
  by_cases hl : l.ofPicture
  · exact picture_congr (s := s) (t := { s with alu := x }) hl rfl rfl rfl htable h
  · obtain ⟨htable, -⟩ := htable
    cases l with
    | summary => exact absurd (.inl rfl) hl
    | relays => exact absurd (.inr rfl) hl
    | table => simpa [htable] using h
    | alert => simpa [htable, hdrive] using h
    | _ => exact h

/-! ### Every command -/

/-- Which commands keep a law: POWER_ON begins anew, CLAIM_POSITION_BEGIN is what starts own frames, and cabinet time
moves at a TICK and at a sample. -/
def Law.keptBy (l : Law) : Instr → Prop
  | .powerOn _ => False
  | .claimPositionBegin _ => l ≠ .silent
  | .tick | .syncHeard _ _ | .refEdge _ => ∀ x, l ≠ .timeIs x
  | _ => True

theorem exec_keeps_exists {c : Instr} (hc : l.keptBy c) (h : l.holds s) : ∃ t, exec c s = .next t ∧ l.holds t := by
  cases c with
  | powerOn pins => exact hc.elim
  | tick => exact ⟨_, rfl, tickState_keeps hc h⟩
  | strobePulseEnd g => exact strobePulseEnd_keeps g h
  | dueTimePassed => exact ⟨_, rfl, reportDrained_keeps (sweepLate_keeps h)⟩
  | seatSeated straps =>
    exact ⟨_, rfl, ite_keeps (fun _ => enterSeated_keeps (setSec_keeps ⟨rfl, rfl, rfl⟩ h)) (fun _ => h)⟩
  | seatLoss => exact ⟨_, rfl, ite_keeps (fun _ => enterUnseated_keeps (setSec_keeps ⟨rfl, rfl, rfl⟩ h)) (fun _ => h)⟩
  | ejectOpened => exact ⟨_, rfl, ite_keeps (fun _ => ejectorOpens_keeps (setSec_keeps ⟨rfl, rfl, rfl⟩ h)) (fun _ => h)⟩
  | ejectLatched =>
    exact ⟨_, rfl, ite_keeps (fun _ => ejectorLatches_keeps (setSec_keeps ⟨rfl, rfl, rfl⟩ h)) (fun _ => h)⟩
  | pgoodGood =>
    have htaken : l.holds (s.setSec (fun c => { c with pgood := .taken true })) := setSec_keeps ⟨rfl, rfl, rfl⟩ h
    exact ⟨_, rfl, ite_keeps (fun _ => ite_keeps (fun _ => powerUp_keeps htaken) (fun _ => htaken)) (fun _ => h)⟩
  | pgoodLost => exact ⟨_, rfl, ite_keeps (fun _ => powerLost_keeps (setSec_keeps ⟨rfl, rfl, rfl⟩ h)) (fun _ => h)⟩
  | cardReset => exact ⟨_, rfl, ite_keeps (fun _ => cardReset_keeps h) (fun _ => h)⟩
  | cardResetRelease | holdAsserted | holdReleased =>
    exact ⟨_, rfl, ite_keeps (fun _ => setCpt_keeps (Nat.le_refl _) ⟨rfl, rfl, rfl, rfl⟩ h) (fun _ => h)⟩
  | refEdge k => exact ⟨_, rfl, reportDrained_keeps (refEdge_keeps hc k h)⟩
  | inputAsserted n => exact ⟨_, rfl, assertInput_keeps n h⟩
  | inputDeasserted n => exact ⟨_, rfl, deassertInput_keeps n h⟩
  | alertLevelChange level => exact alertLevelChange_keeps level h
  | settleGapComplete => exact ⟨_, rfl, ite_keeps (fun _ => setBau_tx_keeps rfl h) (fun _ => h)⟩
  | claimPositionBegin k => exact claimPositionBegin_keeps hc k h
  | startMarkerReceived m => exact ⟨_, rfl, beginActivity_keeps _ h⟩
  | strayTransition => exact ⟨_, rfl, beginActivity_keeps _ h⟩
  | collisionDetected => exact collisionDetected_keeps h
  | frameCut a => exact frameCut_keeps a h
  | brokenFrame a => exact brokenFrame_keeps a h
  | ownFrameComplete => exact ownFrameComplete_keeps h
  | dataHeard f =>
    exact ⟨_, rfl, hearFrame_keeps (fun _ _ ht => poolTake_keeps f ht) (fun _ => poolTake_peerStates f) h⟩
  | syncHeard i body =>
    exact ⟨_, rfl, hearFrame_keeps (fun stamp _ ht => takeSync_keeps hc i _ stamp ht)
      (fun _ _ => peerStatesSame_of_ptb (by simp)) h⟩
  | announceHeard i body =>
    exact ⟨_, rfl, hearFrame_keeps (fun _ _ ht => takeAnnounce_keeps i _ _ ht)
      (fun _ _ => peerStatesSame_of_ptb (by simp)) h⟩
  | summaryHeard i body =>
    exact ⟨_, rfl, hearFrame_keeps (fun _ _ ht => storeSummary_keeps i body ht)
      (fun _ => storeSummary_peerStates i body) h⟩
  | joinHeard i body | withdrawHeard i body | goneHeard i body =>
    exact ⟨_, rfl, hearFrame_keeps (fun _ _ ht => ht) (fun _ _ _ => rfl) h⟩
  | readyHeard i =>
    exact ⟨_, rfl, hearFrame_keeps (fun _ _ ht => hearReady_keeps i ht) (fun _ => hearReady_peerStates i) h⟩
  | replyWindowOpen => exact replyWindowOpen_keeps h
  | replyWindowEnd w => exact replyWindowEnd_keeps w h
  | silenceTimeout i => exact silenceTimeout_keeps i h
  | blockedTimerExpiry i =>
    exact ⟨_, rfl, ite_keeps (fun _ => h) (fun _ => setPeer_keeps (fun _ => ⟨countChanges_self _, rfl⟩) h)⟩
  | announceTimerExpiry => exact ⟨_, rfl, ite_keeps (fun _ => h) (fun _ => requestAnnounce_keeps h)⟩
  | announceTimeout i =>
    exact ⟨_, rfl, ite_keeps (fun _ => reportDrained_keeps (dropSource_keeps i h)) (fun _ => h)⟩
  | syncTimeout =>
    exact ⟨_, rfl, ite_keeps (fun _ => h) (fun _ => reportDrained_keeps (loseSource_keeps (bump_keeps _
      (setSrc_keeps rfl rfl rfl (fun _ => rfl) h))))⟩
  | referenceTimeout => exact referenceTimeout_keeps h
  | holdoverTimerExpiry =>
    exact ⟨_, rfl, ite_keeps (fun _ => h)
      (fun _ => raiseInternal_keeps _ (setTmu_keeps_of_same rfl rfl rfl rfl rfl h))⟩
  | lateTimerExpiry | undeliverableTimerExpiry =>
    exact ⟨_, rfl, ite_keeps (fun _ => h) (fun _ => clearKey_keeps _ (setTxs_keeps rfl rfl h))⟩
  | powerGoodTimerExpiry =>
    exact ⟨_, rfl, ite_keeps (fun _ => enterPowerFault_keeps (losePower_keeps h)) (fun _ => h)⟩
  | listenTimerExpiry =>
    exact ⟨_, rfl, ite_keeps (fun _ => ite_keeps (fun _ => enterConflict_keeps _ h) (fun _ => enterJoining_keeps h))
      (fun _ => h)⟩
  | drainTimerExpiry =>
    exact ⟨_, rfl, ite_keeps (fun _ => raiseInternal_keeps _ (enterForced_keeps _ h)) (fun _ => h)⟩
  | goneTimerExpiry => exact ⟨_, rfl, ite_keeps (fun _ => enterIsolated_keeps h) (fun _ => h)⟩
  | noticeTimerExpiry =>
    exact ⟨_, rfl, ite_keeps (fun _ => setSec_keeps ⟨rfl, rfl, rfl⟩ (setPower_keeps _ h)) (fun _ => h)⟩
  | summaryIntervalTimerExpiry | summaryHoldOffTimerExpiry =>
    exact ⟨_, rfl, ite_keeps (fun _ => h)
      (fun _ => request_keeps _ (setTimers_keeps _ ⟨rfl, rfl, rfl, rfl, rfl, rfl, rfl⟩ rfl h))⟩
  | loadComplete memory => exact ⟨_, rfl, ite_keeps (fun _ => completeLoad_keeps _ h) (fun _ => h)⟩
  | messageComplete edges => exact ⟨_, rfl, takeEdges_keeps edges h⟩
  | linkFault =>
    exact ⟨_, rfl, ite_keeps (fun _ => h) (fun _ => bump_keeps _ (setCpt_keeps (Nat.le_refl _) ⟨rfl, rfl, rfl, rfl⟩ h))⟩
  | malformedMessage kind tag => exact ⟨_, rfl, handle_keeps (fun _ ht => refuse_keeps _ _ _ ht) h⟩
  | send m => exact ⟨_, rfl, handle_keeps (fun _ ht => actSend_keeps m ht) h⟩
  | raise code severity => exact ⟨_, rfl, handle_keeps (fun _ ht => actRaise_keeps code severity ht) h⟩
  | clear code => exact ⟨_, rfl, handle_keeps (fun _ ht => actClear_keeps code ht) h⟩
  | ack origin code => exact ⟨_, rfl, handle_keeps (fun _ ht => actAck_keeps origin code ht) h⟩
  | forget slot => exact ⟨_, rfl, handle_keeps (fun _ ht => actForget_keeps slot ht) h⟩
  | withdraw => exact ⟨_, rfl, handle_keeps (fun _ ht => actWithdraw_keeps ht) h⟩
  | rejoin => exact ⟨_, rfl, handle_keeps (fun _ ht => actRejoin_keeps ht) h⟩
  | setQuality q => exact ⟨_, rfl, handle_keeps (fun _ ht => reportDrained_keeps (setQuality_keeps q ht)) h⟩
  | labelSecond x =>
    exact ⟨_, rfl, handle_keeps (fun _ ht => setTmu_keeps_of_same rfl rfl rfl rfl rfl ht) h⟩
  | readState n clear | readTime k n clear | readSources n clear | readAlarms n clear =>
    exact ⟨_, rfl, handle_keeps (fun _ ht => actRead_keeps _ n clear _ ht) h⟩
  | readCounters n => exact ⟨_, rfl, handle_keeps (fun _ ht => actRead_keeps _ n false _ ht) h⟩
  | readPeer n clear => exact ⟨_, rfl, handle_keeps (fun _ ht => actReadPeer_keeps n clear ht) h⟩
  | readCountersClear n => exact ⟨_, rfl, handle_keeps (fun _ ht => clearCounters_keeps (reply_keeps _ ht)) h⟩
  | nextEvent => exact ⟨_, rfl, handle_keeps (fun _ ht => actNextEvent_keeps ht) h⟩
  | arbiterGrant => exact ⟨_, rfl, grant_keeps h⟩
  | replySent => exact replySent_keeps h
  | resultTransferred => exact resultTransferred_keeps h
  | deliverComplete => exact deliverComplete_keeps h

/-- Every command keeps every law, as `Law.keptBy` allows. -/
theorem exec_keeps {c : Instr} {t : State} (hc : l.keptBy c) (hexec : exec c s = .next t) (h : l.holds s) :
    l.holds t := by
  obtain ⟨u, hu, hkept⟩ := exec_keeps_exists hc h
  obtain rfl : t = u := Host.Outcome.next.inj (hexec.symm.trans hu)
  exact hkept

end Sys2Proof.Machine
end

section
/-! The step keeps the laws of the part: the statements on the third to the ninth and the twelfth law, and on what a
step may start and when it may step the time. -/

namespace Sys2Proof.Machine

open Sys2Proof

variable {l : Law} {s : State}

/-! ### From a command to a step -/

/-- The laws that are the part's own. -/
def Law.ofPart : Law → Bool
  | .silent | .timeIs _ => false
  | _ => true

theorem powerOn_holds (hl : l.ofPart = true) (pins : PinLevels) (s : State) :
    l.holds { State.powerOn pins with pinsAhead := s.pinsAhead, pending := s.pending } := by
  cases l with
  | queued => exact Nat.zero_le _
  | store | pool | alert | sourceLost | gate | summary => rfl
  | rate =>
    have hzero : -Config.rateLimit ≤ 0 ∧ 0 ≤ Config.rateLimit := by decide
    exact ⟨hzero, hzero⟩
  | drive | lines | relays => exact ⟨rfl, rfl⟩
  | table => exact ⟨Nat.zero_le _, List.nodup_nil⟩
  | sources => exact ⟨List.Pairwise.nil, rfl⟩
  | events => exact List.Pairwise.nil
  | silent | timeIs x => cases hl

theorem exec_keeps_ofPart {c : Instr} {t : State} (hl : l.ofPart = true) (hexec : exec c s = .next t)
    (h : l.holds s) : l.holds t := by
  have hkept : (∀ pins, c ≠ .powerOn pins) → l.keptBy c := by
    intro hpower
    cases c with
    | powerOn pins => exact absurd rfl (hpower pins)
    | claimPositionBegin k => rintro rfl; cases hl
    | tick | syncHeard i body | refEdge k => rintro x rfl; cases hl
    | _ => trivial
  by_cases hpower : ∃ pins, c = .powerOn pins
  · obtain ⟨pins, rfl⟩ := hpower
    obtain rfl := Host.Outcome.next.inj hexec
    exact powerOn_holds hl pins s
  · exact exec_keeps (hkept fun pins hp => hpower ⟨pins, hp⟩) hexec h

theorem withPending_holds (q : List Instr) (h : l.holds s) : l.holds (s.withPending q) := by cases l <;> exact h

/-- A step is idle, or runs the command at the front of the queue. -/
theorem step_cases {t : State} (hstep : step s = .next t) :
    t = s ∨ ∃ c rest, s.pending = c :: rest ∧ exec c (s.withPending rest) = .next t := by
  unfold step at hstep
  split at hstep
  · exact .inl (Host.Outcome.next.inj hstep).symm
  next c rest hpending => exact .inr ⟨c, rest, hpending, hstep⟩

/-- Every step keeps every law of the part. -/
theorem step_keeps {t : State} (hl : l.ofPart = true) (hstep : step s = .next t) (h : l.holds s) : l.holds t := by
  obtain rfl | ⟨c, rest, -, hexec⟩ := step_cases hstep
  · exact h
  · exact exec_keeps_ofPart hl hexec (withPending_holds rest h)

/-! ### Own frames start where they may (R28, R118, R130) -/

theorem mem_of_headCandidate {blocked : Dest → Bool} {seen : List Dest} {q : List QueueEntry} {n : Nat}
    (h : headCandidate blocked seen q = some n) : ∃ e, q[n]? = some e ∧ e.inFlight = false := by
  induction q generalizing seen n with
  | nil => cases h
  | cons e rest ih =>
    unfold headCandidate at h
    split at h
    next hmeets =>
      obtain rfl := Option.some.inj h
      refine ⟨e, rfl, ?_⟩
      simp only [Bool.and_eq_true, Bool.not_eq_true'] at hmeets
      exact hmeets.2
    next =>
      obtain ⟨m, hm, rfl⟩ := Option.map_eq_some_iff.mp h
      exact ih hm

/-- What a candidate of a class is, state by state (R28). -/
theorem candidateOf_some {cls : Nat} {x : Candidate} (h : s.candidateOf cls = some x) :
    (s.sec.state = .joined ∨ s.sec.state = .draining ∨ (s.sec.state = .joining ∧ x = .internal .join)
        ∨ (s.sec.state = .forced ∧ x = .internal .gone))
      ∧ ∀ n, x = .card .deadline n → cls = 2 ∧ s.cardCandidate .deadline = some n := by
  have hfirst : ∀ k, (s.firstPending [k]).map Candidate.internal = some x → x = .internal k := by
    intro k hk
    obtain ⟨j, hj, rfl⟩ := Option.map_eq_some_iff.mp hk
    rw [List.mem_singleton.mp (List.mem_of_find?_eq_some hj)]
  have hinternal : ∀ ks, (s.firstPending ks).map Candidate.internal = some x → ∀ n, x ≠ .card .deadline n := by
    rintro ks hk n rfl
    obtain ⟨j, -, hj⟩ := Option.map_eq_some_iff.mp hk
    cases hj
  have hother : ∀ c, c ≠ .deadline → (s.cardCandidate c).map (Candidate.card c) = some x →
      ∀ n, x ≠ .card .deadline n := by
    rintro c hc hk n rfl
    obtain ⟨j, -, hj⟩ := Option.map_eq_some_iff.mp hk
    cases hj
    exact hc rfl
  unfold State.candidateOf at h
  split at h
  iterate 2
    next hstate =>
      refine ⟨by simp [hstate], fun n hn => ?_⟩
      split at h
      · exact absurd hn (hinternal _ h n)
      · split at h
        · obtain rfl := Option.some.inj h
          cases hn
        · exact absurd hn (hother .control nofun h n)
      · obtain ⟨j, hj, rfl⟩ := Option.map_eq_some_iff.mp h
        cases hn
        exact ⟨rfl, hj⟩
      · exact absurd hn (hother .bulk nofun h n)
      · cases h
  · split at h
    · exact ⟨.inr (.inr (.inl ⟨‹_›, hfirst _ h⟩)), fun n hn => absurd hn (hinternal _ h n)⟩
    · cases h
  · split at h
    · exact ⟨.inr (.inr (.inr ⟨‹_›, hfirst _ h⟩)), fun n hn => absurd hn (hinternal _ h n)⟩
    · cases h
  all_goals cases h

theorem retireAll_queues (es : List QueueEntry) (s : State) : (retireAll es s).txs.queues = s.txs.queues := by
  induction es generalizing s with
  | nil => rfl
  | cons e rest ih => rw [retireAll, ih]; simp

/-- What a removal of late entries leaves in the deadline queue (R31). -/
theorem sweepLate_deadline (s : State) :
    (sweepLate s).queue .deadline = (s.queue .deadline).filter (fun e => !s.lateNow e) := by
  unfold sweepLate
  dsimp only
  rw [State.queue, retireAll_queues]
  exact State.queue_setQueue s .deadline _

/-- A candidate that starts is on the pair with the fields of its kind. -/
theorem startCandidate_tx {y : Candidate} {own : Slot} {stamp : FullTime} {x : Transmission} (hsilent : s.bau.tx = none)
    (h : (startCandidate y own stamp s).bau.tx = some x) :
    (∃ k, y = .internal k ∧ x.source = .internal k)
      ∨ ∃ c n e, y = .card c n ∧ (s.queue c)[n]? = some e ∧ x.source = .card c ∧ x.due = e.due := by
  cases y with
  | internal k =>
    obtain rfl := Option.some.inj h
    exact .inl ⟨k, rfl, rfl⟩
  | card c n =>
    unfold startCandidate startCard at h
    dsimp only at h
    split at h
    · exact absurd (hsilent.symm.trans h) nofun
    next e he =>
      obtain rfl := Option.some.inj h
      exact .inr ⟨c, n, e, rfl, he, rfl, rfl⟩

/-- A deadline candidate is offered only while time is valid, and was not in flight (R29). -/
theorem cardCandidate_deadline {n : Nat} (h : s.cardCandidate .deadline = some n) :
    s.timeValid = true ∧ ∃ e, (s.queue .deadline)[n]? = some e ∧ e.inFlight = false := by
  unfold State.cardCandidate at h
  dsimp only at h
  split at h
  next hvalid => exact ⟨hvalid, mem_of_headCandidate h⟩
  next => cases h

/-- The state in which the candidate of a claim position is sought: at a class-2 position the late entries have left. -/
def sweptAt (p : Nat) (s : State) : State := if p / s.cabinet = 2 then reportDrained (sweepLate s) else s

theorem sweptAt_frame (p : Nat) (s : State) :
    (sweptAt p s).sec = s.sec ∧ (sweptAt p s).tmu = s.tmu ∧ (sweptAt p s).src = s.src ∧ (sweptAt p s).stl = s.stl
      ∧ (sweptAt p s).bau = s.bau := by
  unfold sweptAt
  split <;> simp

theorem not_late_of_sweptAt {p : Nat} {n : Nat} {e : QueueEntry} (hp : p / s.cabinet = 2)
    (he : ((sweptAt p s).queue .deadline)[n]? = some e) (hflight : e.inFlight = false) (d : Nat) (hd : e.due = some d) :
    dueAhead d s.tmu.time.short = true := by
  have hmem : e ∈ (s.queue .deadline).filter (fun e => !s.lateNow e) := by
    rw [← sweepLate_deadline]
    simp only [sweptAt, if_pos hp, State.queue, reportDrained_frame] at he
    exact List.mem_of_getElem? he
  simpa [State.lateNow, hflight, hd, State.duePassed] using (List.mem_filter.mp hmem).2

theorem claimPosition_starts {p : Nat} {k : EdgeDelay} {x : Transmission} (hsilent : s.bau.tx = none)
    (h : (claimPosition p k s).bau.tx = some x) :
    s.sec.drven = true
      ∧ (s.sec.state = .joined ∨ s.sec.state = .draining
          ∨ (s.sec.state = .joining ∧ x.source = .internal .join)
          ∨ (s.sec.state = .forced ∧ x.source = .internal .gone))
      ∧ (x.source = .card .deadline → s.timeValid = true ∧ ∀ d, x.due = some d → dueAhead d s.tmu.time.short = true) := by
  obtain ⟨hsec, htmu, hsrc, hstl, hbau⟩ := sweptAt_frame p s
  have hcabinet : (sweptAt p s).cabinet = s.cabinet := by rw [State.cabinet, State.cabinet, hstl]
  have hvalid : (sweptAt p s).timeValid = s.timeValid := by rw [State.timeValid, State.timeValid, htmu, hsrc]
  have hnone : (sweptAt p s).bau.tx = none := by rw [hbau, hsilent]
  unfold claimPosition at h
  split at h
  · exact absurd (hsilent.symm.trans h) nofun
  next own hown =>
  split at h
  next hposition =>
    change (match (sweptAt p s).candidateOf (p / (sweptAt p s).cabinet) with
      | none => sweptAt p s
      | some x => startCandidate x own ((sweptAt p s).stamp k) (sweptAt p s)).bau.tx = some x at h
    split at h
    · exact absurd (hnone.symm.trans h) nofun
    next y hy =>
      obtain ⟨hstates, hdeadline⟩ := candidateOf_some hy
      rw [hsec] at hstates
      rw [hcabinet] at hdeadline
      simp only [State.ownPosition, Bool.and_eq_true] at hposition
      refine ⟨hposition.1, ?_, ?_⟩
      · obtain ⟨j, rfl, hj⟩ | ⟨c, n, e, rfl, -, -, -⟩ := startCandidate_tx hnone h
        · simpa [hj] using hstates
        · have hjoined : s.sec.state = .joined ∨ s.sec.state = .draining := by simpa using hstates
          exact hjoined.imp_right .inl
      · intro hcard
        obtain ⟨j, rfl, hj⟩ | ⟨c, n, e, rfl, he, hsource, hdue⟩ := startCandidate_tx hnone h
        · cases hj.symm.trans hcard
        · obtain rfl : c = .deadline := by cases hsource.symm.trans hcard; rfl
          obtain ⟨hclass, hcandidate⟩ := hdeadline n rfl
          obtain ⟨hok, e', he', hflight⟩ := cardCandidate_deadline hcandidate
          obtain rfl : e = e' := Option.some.inj (he.symm.trans he')
          exact ⟨hvalid ▸ hok, fun d hd => not_late_of_sweptAt hclass he hflight d (hdue ▸ hd)⟩
  next => exact absurd (hsilent.symm.trans h) nofun

theorem exec_starts {c : Instr} {t : State} {x : Transmission} (hsilent : s.bau.tx = none)
    (hexec : exec c s = .next t) (hx : t.bau.tx = some x) :
    s.sec.drven = true
      ∧ (s.sec.state = .joined ∨ s.sec.state = .draining
          ∨ (s.sec.state = .joining ∧ x.source = .internal .join)
          ∨ (s.sec.state = .forced ∧ x.source = .internal .gone))
      ∧ (x.source = .card .deadline → s.timeValid = true ∧ ∀ d, x.due = some d → dueAhead d s.tmu.time.short = true) := by
  have hother : ¬ Law.silent.keptBy c := fun hc => by
    have hkept : t.bau.tx = none := exec_keeps hc hexec hsilent
    exact absurd (hkept.symm.trans hx) nofun
  cases c with
  | powerOn pins =>
    obtain rfl := Host.Outcome.next.inj hexec
    cases hx
  | claimPositionBegin k =>
    obtain rfl := Host.Outcome.next.inj hexec
    split at hx
    · exact claimPosition_starts (s := s.setBau (fun b => { b with position := s.nextPosition, positionNew := false }))
        hsilent hx
    · exact absurd (hsilent.symm.trans hx) nofun
  | tick | syncHeard i body | refEdge k => exact absurd (fun _ => nofun) hother
  | _ => exact absurd trivial hother

/-! ### Cabinet time is stepped by a sample that leaves ACQUIRE (R88, R118) -/

theorem reevaluate_servo (before : Bool) (s : State) : (reevaluate before s).tmu.servo = s.tmu.servo := by simp

theorem setServo_servo (v : Servo) (s : State) : (setServo v s).tmu.servo = v := by
  unfold setServo
  split
  next hsame => exact hsame
  next => rw [reevaluate_servo]; rfl

/-- Time as it was, or a servo in ACQUIRE: what a sample leaves (R118). -/
def HeldOrAcquire (x : FullTime) (s : State) : Prop := s.tmu.time = x ∨ s.tmu.servo = .acquire

theorem acquireSample_time {x : FullTime} (e f : Int) (hservo : s.tmu.servo = .acquire) (htime : s.tmu.time = x) :
    HeldOrAcquire x (acquireSample e f s) := by
  unfold acquireSample
  split
  · left
    dsimp only
    split <;> split <;> simp [htime]
  · right
    simp [hservo]

theorem enterAcquire_acquireSample_time {x : FullTime} (e f : Int) (htime : s.tmu.time = x) :
    HeldOrAcquire x (acquireSample e f (enterAcquire s)) :=
  acquireSample_time e f (setServo_servo _ _) (by simp [htime])

theorem judgeSample_time {x : FullTime} (e f : Int) (htime : s.tmu.time = x) : HeldOrAcquire x (judgeSample e f s) := by
  unfold judgeSample
  split
  · exact enterAcquire_acquireSample_time e f htime
  next hservo => exact acquireSample_time e f hservo htime
  · split
    · exact .inl (by simp [htime])
    · unfold outlierSample
      dsimp only
      split
      · exact enterAcquire_acquireSample_time e f (by simp [htime])
      · exact .inl (by simp [htime])
  · split
    · exact .inl (by simp [htime])
    · exact enterAcquire_acquireSample_time e f (by simp [htime])

theorem takeSample_time {x : FullTime} (e : Int) (kind : SampleKind) (htime : s.tmu.time = x) :
    HeldOrAcquire x (takeSample e kind s) := judgeSample_time e _ (by simp [htime])

theorem refEdge_time (k : EdgeDelay) (s : State) : HeldOrAcquire s.tmu.time (refEdge k s) := by
  unfold refEdge
  dsimp only
  split
  · exact .inl rfl
  · exact takeSample_time _ .ref (by simp)

theorem takeSync_time {x : FullTime} (i : Slot) (transmit : Nat) (stamp : FullTime) (htime : s.tmu.time = x) :
    HeldOrAcquire x (takeSync i transmit stamp s) := by
  unfold takeSync
  split
  · exact .inl (by simp [htime])
  · split
    · exact takeSample_time _ .sync htime
    · exact .inl (by simp [htime])

/-- The hand-offs of a SYNC heard leave the time unit: its sender only becomes PRESENT (R67). -/
theorem hearPeer_sync_tmu (i : Slot) (body : List Byte) {act : State → State}
    (hpeer : ∀ t, PeerStatesSame t (act t)) (s : State) :
    (hearPeer i .sync body act s).tmu = (act (updateEntry i .sync body s)).tmu := by
  unfold hearPeer
  dsimp only
  by_cases hold : (s.peer i).state = .present
  · have hstate : ((act (updateEntry i .sync body s)).peer i).state = .present := by
      rw [hpeer, updateEntry_state, hold]
      rfl
    have hrestart : restarts .sync (s.peer i).state = false := by rw [hold]; rfl
    rw [hrestart, hold, ← hstate, handOff_same]
  · exact (handOff_of_ne_present i _ _ _ hold).2.1

theorem updateEntry_tmu (i : Slot) (k : FrameKind) (body : List Byte) (s : State) :
    (updateEntry i k body s).tmu = s.tmu := by simp

theorem hearFrame_sync_time (i : Slot) (body : List Byte) (s : State) :
    HeldOrAcquire s.tmu.time (hearFrame i .sync body (fun stamp => takeSync i (syncTime body) stamp) s) := by
  have hkeep : ∀ {t : State}, (Law.timeIs s.tmu.time).holds t → HeldOrAcquire s.tmu.time t := .inl
  have hstart : (Law.timeIs s.tmu.time).holds s := rfl
  unfold hearFrame
  split
  · split
    · exact hkeep (enterWindow_keeps (judgeBroken_keeps _ _ hstart))
    · have htaken : (Law.timeIs s.tmu.time).holds (enterWindow (bump .framesHeard
          (s.setBau (fun b => { b with pointer := s.pointerAfter i })))) :=
        enterWindow_keeps (bump_keeps _ (setBau_tx_keeps rfl hstart))
      unfold takeGood
      dsimp only
      split
      · exact hkeep (reportDrained_keeps (ownSlotHeard_keeps (bump_keeps _ htaken)))
      · unfold HeldOrAcquire
        simp only [reportDrained_frame]
        rw [hearPeer_sync_tmu i body (fun t => peerStatesSame_of_ptb (by simp))]
        exact takeSync_time i _ _ (by rw [updateEntry_tmu]; exact htaken)
  iterate 3 exact hkeep (endBroken_keeps _ _ hstart)
  exact .inl rfl

/-- The commands that may step the time, in the terms of `Law.keptBy`. -/
theorem keptBy_timeIs_or (c : Instr) (x : FullTime) :
    (Law.timeIs x).keptBy c ∨ c = .tick ∨ (∃ pins, c = .powerOn pins) ∨ (∃ i body, c = .syncHeard i body)
      ∨ ∃ k, c = .refEdge k := by
  cases c with
  | powerOn pins => exact .inr (.inr (.inl ⟨pins, rfl⟩))
  | tick => exact .inr (.inl rfl)
  | syncHeard i body => exact .inr (.inr (.inr (.inl ⟨i, body, rfl⟩)))
  | refEdge k => exact .inr (.inr (.inr (.inr ⟨k, rfl⟩)))
  | claimPositionBegin k => exact .inl nofun
  | _ => exact .inl trivial

theorem HeldOrAcquire.acquire_of_ne {x : FullTime} (h : HeldOrAcquire x s) (hne : s.tmu.time ≠ x) :
    s.tmu.servo = .acquire ∧ s.timeValid = false := by
  obtain htime | hservo := h
  · exact absurd htime hne
  · exact ⟨hservo, by rw [State.timeValid, hservo]; rfl⟩

/-! ### The statements -/

/-- Settles O4. -/
theorem queueLawKept : Obligations.QueueLawKept := fun _ _ hqueued hstore hstep =>
  ⟨step_keeps (l := .queued) rfl hstep hqueued, step_keeps (l := .store) rfl hstep hstore⟩

/-- Settles O5. -/
theorem poolLawKept : Obligations.PoolLawKept := fun _ _ h hstep => step_keeps (l := .pool) rfl hstep h

/-- Settles O6. -/
theorem rateLawKept : Obligations.RateLawKept := fun _ _ h hstep => step_keeps (l := .rate) rfl hstep h

/-- Settles O7. -/
theorem driveLawKept : Obligations.DriveLawKept := fun _ _ h hstep => step_keeps (l := .drive) rfl hstep h

/-- Settles O8. -/
theorem alarmTableLawKept : Obligations.AlarmTableLawKept := fun _ _ h hstep => step_keeps (l := .table) rfl hstep h

/-- Settles O9. -/
theorem alertLawKept : Obligations.AlertLawKept := fun _ _ h hstep => step_keeps (l := .alert) rfl hstep h

/-- Settles O10. -/
theorem selectionLawKept : Obligations.SelectionLawKept := fun _ _ hstep =>
  ⟨step_keeps (l := .sources) rfl hstep, step_keeps (l := .sourceLost) rfl hstep⟩

/-- Settles O11. -/
theorem gateAndLinesKept : Obligations.GateAndLinesKept := fun _ _ hstep =>
  ⟨step_keeps (l := .gate) rfl hstep, step_keeps (l := .lines) rfl hstep, step_keeps (l := .events) rfl hstep⟩

/-- Settles O12. -/
theorem summaryAndRelaysKept : Obligations.SummaryAndRelaysKept := fun _ _ hsummary hrelays hstep =>
  ⟨step_keeps (l := .summary) rfl hstep hsummary, step_keeps (l := .relays) rfl hstep hrelays⟩

/-- Settles O14: of the commands only a claim position that begins puts an own frame on the pair. -/
theorem startsOnlyWhereAllowed : Obligations.StartsOnlyWhereAllowed := by
  unfold Obligations.StartsOnlyWhereAllowed
  intro s t x hsilent hstep hx
  obtain rfl | ⟨c, rest, -, hexec⟩ := step_cases hstep
  · exact absurd (hsilent.symm.trans hx) nofun
  · exact exec_starts (s := s.withPending rest) hsilent hexec hx

/-- Settles O15: every command but TICK, POWER_ON and the two that take a sample keeps the time, and a sample that steps
it leaves the servo in ACQUIRE. -/
theorem timeSteppedOnlyInAcquire : Obligations.TimeSteppedOnlyInAcquire := by
  unfold Obligations.TimeSteppedOnlyInAcquire
  intro c s t hexec hne
  obtain hkept | htick | hpower | ⟨i, body, rfl⟩ | ⟨k, rfl⟩ := keptBy_timeIs_or c s.tmu.time
  · exact absurd (exec_keeps (l := .timeIs s.tmu.time) hkept hexec rfl) hne
  · exact .inl htick
  · exact .inr (.inl hpower)
  · obtain rfl := Host.Outcome.next.inj hexec
    exact .inr (.inr ⟨.inl ⟨i, body, rfl⟩, (hearFrame_sync_time i body s).acquire_of_ne hne⟩)
  · obtain rfl := Host.Outcome.next.inj hexec
    have htime : HeldOrAcquire s.tmu.time (reportDrained (refEdge k s)) := by
      simpa [HeldOrAcquire] using refEdge_time k s
    exact .inr (.inr ⟨.inr ⟨k, rfl⟩, htime.acquire_of_ne hne⟩)

end Sys2Proof.Machine
end

section
/-! No drained station in DRAINING goes unreported (R42): a command either ends with the drained report, or leaves the
station outside DRAINING, or leaves the seating state, the card queues and the own frame as they were. -/

namespace Sys2Proof.Machine

open Sys2Proof

variable {s t : State}

/-! ### What keeps the law -/

theorem reportDrained_lawDrained (s : State) : LawDrained (reportDrained s) := by
  unfold reportDrained
  split
  · rintro ⟨-, hreported, -⟩
    cases hreported
  next hnot => exact hnot

theorem lawDrained_of_ne (h : s.sec.state ≠ .draining) : LawDrained s := fun ⟨hstate, _, _⟩ => h hstate

theorem lawDrained_of_sending {x : Transmission} (h : s.bau.tx = some x) : LawDrained s := fun ⟨_, _, hdrained⟩ => by
  simp [State.drained, h] at hdrained

/-- The seating state, the drained report, the card queues and whether an own frame is on the pair are the same. -/
def SameDrain (s t : State) : Prop :=
  t.sec.state = s.sec.state ∧ t.txs.drainedReported = s.txs.drainedReported ∧ t.queued = s.queued
    ∧ t.bau.tx.isNone = s.bau.tx.isNone

theorem SameDrain.lawDrained (hsame : SameDrain s t) (h : LawDrained s) : LawDrained t := by
  obtain ⟨hstate, hreported, hqueued, htx⟩ := hsame
  rwa [LawDrained, State.drained, hstate, hreported, hqueued, htx]

/-- Blocks left as they were leave what the drained report reads. -/
theorem lawDrained_of_blocks (hsame : t.sec.state = s.sec.state ∧ t.txs.drainedReported = s.txs.drainedReported
    ∧ t.txs.queues = s.txs.queues ∧ t.bau.tx = s.bau.tx) (h : LawDrained s) : LawDrained t := by
  obtain ⟨hstate, hreported, hqueues, htx⟩ := hsame
  exact SameDrain.lawDrained ⟨hstate, hreported, by simp only [State.queued, State.queue, hqueues], by rw [htx]⟩ h

theorem ite_lawDrained {p : Prop} [Decidable p] {a b : State} (ha : p → LawDrained a) (hb : ¬ p → LawDrained b) :
    LawDrained (if p then a else b) := by
  split
  next hp => exact ha hp
  next hp => exact hb hp

/-! ### The states a transition ends in (R127 to R149) -/

@[simp] theorem enterState_state (new : Seating) (s : State) : (enterState new s).sec.state = new := by
  simp [enterState, enterBase, signal]

@[simp] theorem enterListening_state (s : State) : (enterListening s).sec.state = .listening := by
  simp [enterListening]

@[simp] theorem enterConfig_state (s : State) : (enterConfig s).sec.state = .config := by simp [enterConfig]

theorem powerUp_state (s : State) : (powerUp s).sec.state = .listening ∨ (powerUp s).sec.state = .config := by
  unfold powerUp
  dsimp only
  split
  · exact .inl (enterListening_state _)
  · exact .inr (enterConfig_state _)

theorem powerUp_state_ne (s : State) : (powerUp s).sec.state ≠ .draining := by
  rcases powerUp_state s with h | h <;> rw [h] <;> decide

theorem enterPowering_state_ne (s : State) : (enterPowering s).sec.state ≠ .draining := by
  unfold enterPowering
  dsimp only
  split
  · exact powerUp_state_ne _
  · simp

theorem enterWithdrawn_state_ne (s : State) : (enterWithdrawn s).sec.state ≠ .draining := by
  unfold enterWithdrawn
  extract_lets s1 s2
  have hstate : s2.sec.state = .withdrawn := enterState_state _ _
  split
  · split
    · exact enterPowering_state_ne _
    · split <;> simp [hstate]
  · simp [hstate]

@[simp] theorem enterPowerFault_state (s : State) : (enterPowerFault s).sec.state = .powerFault := by
  simp [enterPowerFault]

@[simp] theorem enterConflict_state (cause : ConflictCause) (s : State) :
    (enterConflict cause s).sec.state = .conflict := by simp [enterConflict]

@[simp] theorem enterIsolated_state (s : State) : (enterIsolated s).sec.state = .isolated := by simp [enterIsolated]

@[simp] theorem enterForced_state (cause : ForceCause) (s : State) : (enterForced cause s).sec.state = .forced := by
  simp [enterForced]

@[simp] theorem enterJoining_state (s : State) : (enterJoining s).sec.state = .joining := by simp [enterJoining]

@[simp] theorem enterUnseated_state (s : State) : (enterUnseated s).sec.state = .unseated := by simp [enterUnseated]

theorem enterSeated_state_ne (s : State) : (enterSeated s).sec.state ≠ .draining := by
  unfold enterSeated
  dsimp only
  split
  · split
    · exact enterPowering_state_ne _
    · simp
  · simp

theorem enterDraining_lawDrained (cause : WithdrawCause) (s : State) : LawDrained (enterDraining cause s) :=
  reportDrained_lawDrained _

theorem enterJoined_lawDrained (s : State) : LawDrained (enterJoined s) := by
  unfold enterJoined
  exact ite_lawDrained (fun _ => lawDrained_of_ne (by simp)) (fun _ => enterDraining_lawDrained _ _)

theorem ejectorOpens_lawDrained (h : LawDrained s) : LawDrained (ejectorOpens s) := by
  unfold ejectorOpens
  split
  · exact lawDrained_of_ne (enterSeated_state_ne _)
  iterate 4 exact lawDrained_of_ne (enterWithdrawn_state_ne _)
  · exact enterDraining_lawDrained _ _
  · exact ite_lawDrained
      (fun _ => lawDrained_of_blocks (by simp) h) (fun _ => h)
  next hstate => exact ite_lawDrained (fun _ => h) (fun _ => lawDrained_of_ne (by simp [hstate]))
  next hstate => exact ite_lawDrained (fun _ => lawDrained_of_ne (by simp [hstate])) (fun _ => h)
  next hstate => exact lawDrained_of_ne (by simp [hstate])
  all_goals exact h

theorem ejectorLatches_lawDrained (h : LawDrained s) : LawDrained (ejectorLatches s) := by
  unfold ejectorLatches
  split
  · exact ite_lawDrained (fun _ => lawDrained_of_ne (enterPowering_state_ne _)) (fun _ => h)
  · exact ite_lawDrained (fun _ => enterJoined_lawDrained _) (fun _ => h)
  iterate 2 exact ite_lawDrained (fun _ => lawDrained_of_ne (enterPowering_state_ne _)) (fun _ => h)
  all_goals exact h

theorem powerLost_lawDrained (h : LawDrained s) : LawDrained (powerLost s) := by
  unfold powerLost
  split
  iterate 5 exact lawDrained_of_ne (by simp)
  next hstate => exact ite_lawDrained (fun _ => lawDrained_of_ne (by simp [hstate])) (fun _ => h)
  iterate 3 exact ite_lawDrained (fun _ => lawDrained_of_ne (by simp)) (fun _ => h)
  all_goals exact h

/-! ### Frames and the pair -/

theorem hearFrame_lawDrained (i : Slot) (k : FrameKind) (body : List Byte) (act : FullTime → State → State)
    (h : LawDrained s) : LawDrained (hearFrame i k body act s) := by
  have hbroken : ∀ rx b, LawDrained (endBroken rx b s) := fun rx b => by
    cases rx <;> exact lawDrained_of_blocks (by simp [endBroken, enterWindow, judgeCut]) h
  unfold hearFrame
  split
  · exact ite_lawDrained (fun _ => lawDrained_of_blocks (by simp [enterWindow]) h)
      (fun _ => reportDrained_lawDrained _)
  iterate 3 exact hbroken _ _
  exact h

theorem startCandidate_lawDrained (x : Candidate) (own : Slot) (stamp : FullTime) (h : LawDrained s) :
    LawDrained (startCandidate x own stamp s) := by
  cases x with
  | internal k => exact lawDrained_of_sending rfl
  | card c n =>
    unfold startCandidate startCard
    dsimp only
    split
    · exact h
    · exact lawDrained_of_sending rfl

theorem claimPosition_lawDrained (p : Nat) (k : EdgeDelay) (h : LawDrained s) : LawDrained (claimPosition p k s) := by
  have hswept : LawDrained (if p / s.cabinet = 2 then reportDrained (sweepLate s) else s) :=
    ite_lawDrained (fun _ => reportDrained_lawDrained _) (fun _ => h)
  unfold claimPosition
  split
  · exact h
  · refine ite_lawDrained (fun _ => ?_) (fun _ => h)
    dsimp only
    split
    · exact hswept
    · exact startCandidate_lawDrained _ _ _ hswept

theorem beginActivity_lawDrained (rx : Reception) (h : LawDrained s) : LawDrained (beginActivity rx s) := by
  unfold beginActivity
  split <;> exact h

theorem releaseOn_queued (g : Strobe) (s : State) : (releaseOn g s).queued = s.queued := by
  have hother : ∀ c, c ≠ .deadline → (releaseOn g s).queue c = s.queue c :=
    fun c hc => State.queue_setQueue_ne s _ hc
  have hdeadline : ((releaseOn g s).queue .deadline).length = (s.queue .deadline).length := by
    rw [releaseOn, State.queue_setQueue, List.length_map]
  rw [State.queued, State.queued, hother .control nofun, hother .bulk nofun, hdeadline]

theorem strobeTick_sameDrain (g : Strobe) (before : FullTime) (advance : Int) (s : State) :
    SameDrain s (strobeTick g before advance s) := by
  unfold strobeTick
  dsimp only
  split
  · exact ⟨rfl, rfl, releaseOn_queued g _, rfl⟩
  · exact ⟨rfl, rfl, rfl, rfl⟩

theorem tickState_lawDrained (h : LawDrained s) : LawDrained (tickState s) := by
  have htimers : SameDrain s (advanceCounter (tickTimers (takePins s))) := ⟨rfl, rfl, rfl, Option.isNone_map⟩
  have hstrobes : LawDrained (strobeTick .stb s.tmu.time s.tickAdvance (strobeTick .sta s.tmu.time s.tickAdvance
      (advanceCounter (tickTimers (takePins s))))) :=
    (strobeTick_sameDrain _ _ _ _).lawDrained ((strobeTick_sameDrain _ _ _ _).lawDrained (htimers.lawDrained h))
  exact lawDrained_of_blocks (by simp [tickState]) hstrobes

/-! ### The card port -/

theorem enqueue_lawDrained (m : Message) (h : LawDrained s) : LawDrained (enqueue m s) :=
  ite_lawDrained (fun _ => h) (fun _ => lawDrained_of_blocks (by simp) h)

theorem takePortEvents_lawDrained (es : List PortEvent) (h : LawDrained s) :
    LawDrained (es.foldl (fun t e => takePortEvent e t) s) := by
  induction es generalizing s with
  | nil => exact h
  | cons e rest ih =>
    refine ih ?_
    cases e with
    | message m => exact enqueue_lawDrained m h
    | linkFault => exact lawDrained_of_blocks (by simp [takePortEvent]) h

theorem handle_lawDrained {m : Message} {act : State → State} (hact : ∀ t, LawDrained t → LawDrained (act t))
    (h : LawDrained s) : LawDrained (handle m act s) := by
  have hqueued := enqueue_lawDrained m h
  exact ite_lawDrained (fun _ => h) (fun _ => ite_lawDrained (fun _ => ite_lawDrained (fun _ => hact _ h) (fun _ => h))
    (fun _ => ite_lawDrained (fun _ => hact _ hqueued) (fun _ => hqueued)))

theorem admitSend_lawDrained (c : CardClass) (m : SendRequest) (s : State) : LawDrained (admitSend c m s) := by
  rintro ⟨-, -, hdrained⟩
  have hqueued : (admitSend c m s).queued ≠ 0 := by
    unfold admitSend advanceSequence
    dsimp only
    cases c <;> split <;> simp [State.queued, State.queue, State.setQueue, PerClass.get, PerClass.set]
  simp [State.drained, hqueued] at hdrained

theorem refuse_lawDrained (code : RefusalCode) (kind : Byte) (tag : Option (BitVec 16)) (h : LawDrained s) :
    LawDrained (refuse code kind tag s) := h

theorem actSend_lawDrained (m : SendRequest) (h : LawDrained s) : LawDrained (actSend m s) := by
  refine ite_lawDrained (fun _ => ?_) (fun _ => h)
  split
  · exact admitSend_lawDrained _ _ _
  · exact refuse_lawDrained _ _ _ (lawDrained_of_blocks (by simp) h)

theorem actRaise_lawDrained (code severity : Byte) (h : LawDrained s) : LawDrained (actRaise code severity s) := by
  unfold actRaise
  split
  · exact lawDrained_of_blocks (by simp) h
  · exact h

theorem actClear_lawDrained (code : Byte) (h : LawDrained s) : LawDrained (actClear code s) := by
  unfold actClear
  split
  · exact lawDrained_of_blocks (by simp) h
  · exact h

theorem actAck_lawDrained (origin code : Byte) (h : LawDrained s) : LawDrained (actAck origin code s) := by
  unfold actAck
  split
  · exact lawDrained_of_blocks (by simp) h
  · exact h

theorem actForget_lawDrained (slot : Byte) (h : LawDrained s) : LawDrained (actForget slot s) := by
  unfold actForget
  split
  · exact h
  · split
    iterate 2 exact reportDrained_lawDrained _
    iterate 3 exact h

theorem actRead_lawDrained (item : ReadItem) (n : Byte) (clear : Bool) (fields : State → List Byte)
    (h : LawDrained s) : LawDrained (actRead item n clear fields s) := ite_lawDrained (fun _ => h) (fun _ => h)

theorem actNextEvent_lawDrained (h : LawDrained s) : LawDrained (actNextEvent s) := by
  unfold actNextEvent
  split <;> exact h

theorem grant_lawDrained (h : LawDrained s) : LawDrained (grant s) := by
  unfold grant
  split
  · unfold beginSending
    dsimp only
    split
    · exact lawDrained_of_blocks (by simp [State.setCpt]) h
    iterate 2 exact h
  · exact h

/-! ### Every command -/

theorem exec_lawDrained_exists (c : Instr) (h : LawDrained s) : ∃ t, exec c s = .next t ∧ LawDrained t := by
  cases c with
  | powerOn pins => exact ⟨_, rfl, lawDrained_of_ne nofun⟩
  | tick => exact ⟨_, rfl, tickState_lawDrained h⟩
  | strobePulseEnd g => exact ⟨_, rfl, ite_lawDrained (fun _ => h) (fun _ => h)⟩
  | dueTimePassed | refEdge k => exact ⟨_, rfl, reportDrained_lawDrained _⟩
  | seatSeated straps =>
    exact ⟨_, rfl, ite_lawDrained (fun _ => lawDrained_of_ne (enterSeated_state_ne _)) (fun _ => h)⟩
  | seatLoss => exact ⟨_, rfl, ite_lawDrained (fun _ => lawDrained_of_ne (by simp)) (fun _ => h)⟩
  | ejectOpened => exact ⟨_, rfl, ite_lawDrained (fun _ => ejectorOpens_lawDrained h) (fun _ => h)⟩
  | ejectLatched => exact ⟨_, rfl, ite_lawDrained (fun _ => ejectorLatches_lawDrained h) (fun _ => h)⟩
  | pgoodGood =>
    exact ⟨_, rfl, ite_lawDrained (fun _ => ite_lawDrained (fun _ => lawDrained_of_ne (powerUp_state_ne _))
      (fun _ => h)) (fun _ => h)⟩
  | pgoodLost => exact ⟨_, rfl, ite_lawDrained (fun _ => powerLost_lawDrained h) (fun _ => h)⟩
  | cardReset => exact ⟨_, rfl, ite_lawDrained (fun _ => reportDrained_lawDrained _) (fun _ => h)⟩
  | cardResetRelease | holdAsserted | holdReleased | settleGapComplete =>
    exact ⟨_, rfl, ite_lawDrained (fun _ => h) (fun _ => h)⟩
  | inputAsserted n | inputDeasserted n => exact ⟨_, rfl, lawDrained_of_blocks (by simp) h⟩
  | alertLevelChange level =>
    exact ⟨_, rfl, ite_lawDrained (fun _ => lawDrained_of_blocks (by simp) h) (fun _ => h)⟩
  | claimPositionBegin k => exact ⟨_, rfl, ite_lawDrained (fun _ => claimPosition_lawDrained _ k h) (fun _ => h)⟩
  | startMarkerReceived m => exact ⟨_, rfl, beginActivity_lawDrained _ h⟩
  | strayTransition => exact ⟨_, rfl, beginActivity_lawDrained _ h⟩
  | collisionDetected | ownFrameComplete =>
    refine ⟨_, rfl, ?_⟩
    split
    · exact ite_lawDrained (fun _ => reportDrained_lawDrained _) (fun _ => h)
    · exact h
  | frameCut a =>
    refine ⟨_, rfl, ?_⟩
    split
    next rx _ _ hrx => cases rx <;> exact lawDrained_of_blocks (by simp [judgeCut]) h
    · exact h
  | brokenFrame a =>
    refine ⟨_, rfl, ?_⟩
    split
    next rx _ _ hrx =>
      refine ite_lawDrained (fun _ => ?_) (fun _ => h)
      cases rx with
      | marker stamp =>
        unfold takeBroken
        dsimp only
        split
        · exact h
        · exact lawDrained_of_blocks (by simp [enterWindow]) h
      | _ => exact lawDrained_of_blocks (by simp [takeBroken, endBroken, enterWindow, judgeCut]) h
    · exact h
  | dataHeard f => exact ⟨_, rfl, hearFrame_lawDrained _ _ _ _ h⟩
  | syncHeard i body | announceHeard i body | summaryHeard i body | joinHeard i body | withdrawHeard i body
  | goneHeard i body => exact ⟨_, rfl, hearFrame_lawDrained _ _ _ _ h⟩
  | readyHeard i => exact ⟨_, rfl, hearFrame_lawDrained _ _ _ _ h⟩
  | replyWindowOpen =>
    refine ⟨_, rfl, ?_⟩
    split
    · exact ite_lawDrained (fun _ => h) (fun _ => lawDrained_of_blocks (by simp) h)
    · exact h
  | replyWindowEnd w =>
    refine ⟨_, rfl, ite_lawDrained (fun _ => ?_) (fun _ => h)⟩
    dsimp only
    split
    · exact reportDrained_lawDrained _
    · exact h
  | silenceTimeout i =>
    refine ⟨_, rfl, ?_⟩
    split
    iterate 2 exact reportDrained_lawDrained _
    all_goals exact h
  | blockedTimerExpiry i => exact ⟨_, rfl, ite_lawDrained (fun _ => h) (fun _ => h)⟩
  | announceTimerExpiry | holdoverTimerExpiry | lateTimerExpiry | undeliverableTimerExpiry
  | summaryIntervalTimerExpiry | summaryHoldOffTimerExpiry | linkFault =>
    exact ⟨_, rfl, ite_lawDrained (fun _ => h) (fun _ => lawDrained_of_blocks (by simp [State.setCpt]) h)⟩
  | announceTimeout i => exact ⟨_, rfl, ite_lawDrained (fun _ => reportDrained_lawDrained _) (fun _ => h)⟩
  | syncTimeout | referenceTimeout =>
    exact ⟨_, rfl, ite_lawDrained (fun _ => h) (fun _ => reportDrained_lawDrained _)⟩
  | powerGoodTimerExpiry | drainTimerExpiry | goneTimerExpiry =>
    exact ⟨_, rfl, ite_lawDrained (fun _ => lawDrained_of_ne (by simp)) (fun _ => h)⟩
  | listenTimerExpiry =>
    exact ⟨_, rfl, ite_lawDrained (fun _ => ite_lawDrained (fun _ => lawDrained_of_ne (by simp))
      (fun _ => lawDrained_of_ne (by simp))) (fun _ => h)⟩
  | noticeTimerExpiry => exact ⟨_, rfl, ite_lawDrained (fun _ => h) (fun _ => h)⟩
  | loadComplete memory =>
    refine ⟨_, rfl, ite_lawDrained (fun _ => lawDrained_of_ne ?_) (fun _ => h)⟩
    unfold completeLoad
    dsimp only
    split <;> simp
  | messageComplete edges => exact ⟨_, rfl, ite_lawDrained (fun _ => h) (fun _ => takePortEvents_lawDrained _ h)⟩
  | malformedMessage kind tag => exact ⟨_, rfl, handle_lawDrained (fun _ ht => ht) h⟩
  | send m => exact ⟨_, rfl, handle_lawDrained (fun _ ht => actSend_lawDrained m ht) h⟩
  | raise code severity => exact ⟨_, rfl, handle_lawDrained (fun _ ht => actRaise_lawDrained code severity ht) h⟩
  | clear code => exact ⟨_, rfl, handle_lawDrained (fun _ ht => actClear_lawDrained code ht) h⟩
  | ack origin code => exact ⟨_, rfl, handle_lawDrained (fun _ ht => actAck_lawDrained origin code ht) h⟩
  | forget slot => exact ⟨_, rfl, handle_lawDrained (fun _ ht => actForget_lawDrained slot ht) h⟩
  | withdraw =>
    exact ⟨_, rfl, handle_lawDrained (fun _ ht => ite_lawDrained (fun _ => enterDraining_lawDrained _ _)
      (fun _ => ht)) h⟩
  | rejoin =>
    exact ⟨_, rfl, handle_lawDrained (fun _ ht => ite_lawDrained (fun _ => lawDrained_of_ne (by simp))
      (fun _ => ht)) h⟩
  | setQuality q => exact ⟨_, rfl, handle_lawDrained (fun _ _ => reportDrained_lawDrained _) h⟩
  | labelSecond x => exact ⟨_, rfl, handle_lawDrained (fun _ ht => ht) h⟩
  | readState n clear | readTime k n clear | readSources n clear | readAlarms n clear =>
    exact ⟨_, rfl, handle_lawDrained (fun _ ht => actRead_lawDrained _ n clear _ ht) h⟩
  | readCounters n => exact ⟨_, rfl, handle_lawDrained (fun _ ht => actRead_lawDrained _ n false _ ht) h⟩
  | readPeer n clear =>
    exact ⟨_, rfl, handle_lawDrained (fun _ ht => ite_lawDrained (fun _ => actRead_lawDrained _ n clear _ ht)
      (fun _ => ht)) h⟩
  | readCountersClear n => exact ⟨_, rfl, handle_lawDrained (fun _ ht => ht) h⟩
  | nextEvent => exact ⟨_, rfl, handle_lawDrained (fun _ ht => actNextEvent_lawDrained ht) h⟩
  | arbiterGrant => exact ⟨_, rfl, grant_lawDrained h⟩
  | replySent | resultTransferred =>
    refine ⟨_, rfl, ?_⟩
    split <;> exact h
  | deliverComplete =>
    refine ⟨_, rfl, ?_⟩
    split
    · exact lawDrained_of_blocks (by simp [State.setCpt]) h
    all_goals exact h

/-- Settles O13. -/
theorem drainedReportedAtOnce : Obligations.DrainedReportedAtOnce := by
  unfold Obligations.DrainedReportedAtOnce
  intro s t h hstep
  obtain rfl | ⟨c, rest, -, hexec⟩ := step_cases hstep
  · exact h
  · obtain ⟨u, hu, hkept⟩ := exec_lawDrained_exists (s := s.withPending rest) c h
    obtain rfl : t = u := Host.Outcome.next.inj (hexec.symm.trans hu)
    exact hkept

end Sys2Proof.Machine
end

section
/-! How a command's effect is stated: the blocks it leaves, the events it places, the port's handling of a message that
waits behind no other. With these the short statements on power-on, the bus view and the card port are settled. -/

namespace Sys2Proof.Machine

open Sys2Proof

variable {s t : State}

/-- A statement about the eight alarm inputs, number by number. -/
theorem forall_fin_eight {P : Fin 8 → Prop} (h : P 0 ∧ P 1 ∧ P 2 ∧ P 3 ∧ P 4 ∧ P 5 ∧ P 6 ∧ P 7) (n : Fin 8) : P n := by
  obtain ⟨h0, h1, h2, h3, h4, h5, h6, h7⟩ := h
  match n with
  | 0 => exact h0
  | 1 => exact h1
  | 2 => exact h2
  | 3 => exact h3
  | 4 => exact h4
  | 5 => exact h5
  | 6 => exact h6
  | 7 => exact h7

/-! ### Blocks left as they were, events placed -/

/-- The blocks outside a list, one by one. -/
theorem sameOutside_iff {l : List Block} : SameOutside l s t ↔
    (Block.bau ∈ l ∨ t.bau = s.bau) ∧ (Block.txs ∈ l ∨ t.txs = s.txs) ∧ (Block.rxp ∈ l ∨ t.rxp = s.rxp)
      ∧ (Block.ptb ∈ l ∨ t.ptb = s.ptb) ∧ (Block.tmu ∈ l ∨ t.tmu = s.tmu) ∧ (Block.src ∈ l ∨ t.src = s.src)
      ∧ (Block.sec ∈ l ∨ t.sec = s.sec) ∧ (Block.alu ∈ l ∨ t.alu = s.alu) ∧ (Block.cpt ∈ l ∨ t.cpt = s.cpt)
      ∧ (Block.stl ∈ l ∨ t.stl = s.stl) ∧ (Block.counters ∈ l ∨ t.counters = s.counters)
      ∧ (Block.pins ∈ l ∨ t.pins = s.pins ∧ t.pinsAhead = s.pinsAhead)
      ∧ (Block.pending ∈ l ∨ t.pending = s.pending) := by
  have heach : ∀ b : Block, (b ∉ l → b.same s t) ↔ (b ∈ l ∨ b.same s t) := fun b => by
    by_cases hb : b ∈ l <;> simp [hb]
  constructor
  · intro h
    have hor := fun b => (heach b).mp (h b)
    exact ⟨hor .bau, hor .txs, hor .rxp, hor .ptb, hor .tmu, hor .src, hor .sec, hor .alu, hor .cpt, hor .stl,
      hor .counters, hor .pins, hor .pending⟩
  · rintro ⟨hbau, htxs, hrxp, hptb, htmu, hsrc, hsec, halu, hcpt, hstl, hcounters, hpins, hpending⟩ b
    refine (heach b).mpr ?_
    cases b <;> assumption

/-- The fields of the card port that no event placed changes. -/
theorem onlyEventsPlaced_of_fields
    (hsame : t.cpt.bits = s.cpt.bits ∧ t.cpt.parser = s.cpt.parser ∧ t.cpt.incoming = s.cpt.incoming
      ∧ t.cpt.replies = s.cpt.replies ∧ t.cpt.outgoing = s.cpt.outgoing ∧ t.cpt.results = s.cpt.results
      ∧ t.cpt.eventMap = s.cpt.eventMap ∧ t.cpt.hold = s.cpt.hold ∧ t.cpt.crst = s.cpt.crst)
    (hevents : ∀ e, e ∈ s.cpt.events → e ∈ t.cpt.events) : OnlyEventsPlaced s t := by
  obtain ⟨hbits, hparser, hincoming, hreplies, houtgoing, hresults, hmap, hhold, hcrst⟩ := hsame
  exact ⟨Cpt.ext hbits hparser hincoming hreplies houtgoing hresults rfl hmap rfl rfl hhold hcrst, hevents⟩

theorem onlyAlarmsChanged_of_fields (hsame : t.alu.intervalTimer = s.alu.intervalTimer ∧ t.alu.alert = s.alu.alert
    ∧ t.alu.collector = s.alu.collector) : OnlyAlarmsChanged s t := by
  obtain ⟨hinterval, halert, hcollector⟩ := hsame
  exact Alu.ext rfl rfl rfl rfl rfl hinterval rfl rfl halert hcollector rfl rfl

theorem counter_setCpt (f : Cpt → Cpt) (i : CounterId) (s : State) : (s.setCpt f).counter i = s.counter i := rfl

/-! ### A message that waits behind no other is handled at once (R177, R178) -/

theorem handle_of_ready (h : PortReady s) (m : Message) (act : State → State) : handle m act s = act s := by
  obtain ⟨hcrst, hincoming, hreplies⟩ := h
  have hroom : s.cpt.incoming.length < Config.portQueue := by rw [hincoming]; decide
  have hqueued : enqueue m s = s.setCpt (fun c => { c with incoming := [m] }) := by
    rw [enqueue, if_pos hroom, State.setCpt, State.setCpt, hincoming, List.nil_append]
  have hsame : (enqueue m s).setCpt (fun c => { c with incoming := c.incoming.tail }) = s := by
    have hcpt : ({ s.cpt with incoming := [] } : Cpt) = s.cpt := by rw [← hincoming]
    rw [hqueued]
    exact congrArg (fun c => { s with cpt := c }) hcpt
  unfold handle
  simp only [hcrst, hincoming, State.canHandle, hreplies, takeHead, hsame, Bool.false_eq_true, if_false,
    List.head?_nil, reduceCtorEq, decide_true, and_self, if_true]

/-- A REPLY is all that a refusal or an answer adds. -/
theorem reply_eq (r : Reply) (s : State) :
    reply r s = { s with cpt := { s.cpt with replies := s.cpt.replies ++ [r] } } := rfl

/-! ### The card port (R181 to R188) -/

theorem exec_nextEvent (h : PortReady s) : exec .nextEvent s = .next (actNextEvent s) :=
  congrArg _ (handle_of_ready h _ _)

/-- Settles O59. -/
theorem nextEventTaken : Obligations.NextEventTaken := by
  unfold Obligations.NextEventTaken
  refine ⟨fun e rest s hready hlaw hevents => ⟨?_, ?_⟩, fun s hready hevents => ?_⟩
  · rw [LawEvents, hevents] at hlaw
    exact (List.pairwise_cons.mp hlaw).1
  · have hact : actNextEvent s = reply (.event e.number rest.length)
        (s.setCpt (fun c => ({ c with events := rest } : Cpt).refreshLines)) := by rw [actNextEvent, hevents]
    refine ⟨_, (exec_nextEvent hready).trans (congrArg _ hact), rfl, ⟨rfl, rfl⟩, rfl, rfl, ?_⟩
    simp [sameOutside_iff, reply, State.setCpt]
  · rw [exec_nextEvent hready, actNextEvent, hevents]
    rfl

theorem grant_of_granted {m : OutMessage} (hidle : s.cpt.outgoing = none) (hcrst : s.cpt.crst.level = false)
    (hm : s.granted = some m) : grant s = beginSending m s := by
  simp [grant, hidle, hcrst, hm]

theorem finished_eq {m : OutMessage} (h : s.cpt.outgoing = some { message := m, sent := 8 * m.bytes.length }) :
    s.cpt.finished = some m := Cpt.finished_of_whole h rfl

/-- READY is outstanding once its conditions are tested, whenever the refused set and the free units ask for it (R58). -/
theorem testReady_readyOutstanding (hrefused : s.rxp.refused ≠ []) (hfree : s.rxp.readyLevel ≤ s.rxp.free) :
    (testReady s).rxp.readyOutstanding = true := by
  unfold testReady
  split
  · rfl
  next hnot => simpa [State.readyDue, hrefused, hfree] using hnot

theorem poolDelivered_of_inTransfer {f : StoredFrame} {rest : List StoredFrame} (hframes : s.rxp.frames = f :: rest)
    (hf : f.inTransfer = true) : poolDelivered s = testReady (bump .framesDelivered
      { s with rxp := { s.rxp with frames := rest, free := s.rxp.free + f.units } }) := by
  simp [poolDelivered, hframes, hf]

/-- The delivery of the head frame, whose last bit has gone out (R56, R183). -/
theorem exec_deliverComplete {g f : StoredFrame} {rest : List StoredFrame}
    (ho : s.cpt.outgoing = some { message := .deliver g, sent := 8 * (OutMessage.deliver g).bytes.length })
    (hframes : s.rxp.frames = f :: rest) (hf : f.inTransfer = true) :
    exec .deliverComplete s = .next (testReady (bump .framesDelivered
      { s with rxp := { s.rxp with frames := rest, free := s.rxp.free + f.units }
               cpt := { s.cpt with outgoing := none } })) := by
  have hdelivered := poolDelivered_of_inTransfer (s := s.setCpt (fun c => { c with outgoing := none })) hframes hf
  simp only [exec, execDeliverComplete, finished_eq ho]
  exact congrArg _ hdelivered

/-- Settles O60. -/
theorem arbiterAndTransfers : Obligations.ArbiterAndTransfers := by
  unfold Obligations.ArbiterAndTransfers
  refine ⟨fun s hidle hcrst => ⟨fun r rest hreplies => ?_, fun r rest hreplies hresults => ?_,
    fun f rest hreplies hresults hhold hframes hf => ?_, fun hreplies hresults hhold => ?_⟩,
    fun o c s ho hsent hc => ?_, fun r q rest s ho hreplies => ?_, fun r q rest s ho hresults => ?_,
    fun g f rest s ho hframes hf => ?_, fun g s ho hframes => ?_⟩
  · exact congrArg _ (grant_of_granted (m := .reply r) hidle hcrst (by simp [State.granted, hreplies]))
  · exact congrArg _ (grant_of_granted (m := .result r) hidle hcrst
      (by simp [State.granted, hreplies, hresults]))
  · have hgrant := grant_of_granted (m := .deliver f) hidle hcrst
      (by simp [State.granted, State.offeredFrame, hreplies, hresults, hhold, hframes, hf])
    refine congrArg _ (hgrant.trans ?_)
    simp [beginSending, markTransfer, State.setCpt, hframes]
  · simp [exec, execArbiterGrant, grant, State.granted, hidle, hcrst, hreplies, hresults, hhold]
  · have hnone := Cpt.finished_of_not_whole ho hsent
    rcases hc with rfl | rfl | rfl <;> simp [exec, execReplySent, execResultTransferred, execDeliverComplete, hnone]
  · simp [exec, execReplySent, finished_eq ho, State.setCpt, hreplies]
  · simp [exec, execResultTransferred, finished_eq ho, State.setCpt, hresults]
  · refine ⟨_, exec_deliverComplete ho hframes hf, by simp, by simp [StoredFrame.units], by simp, by simp,
      by simp [Counted, State.counter], by simp +contextual [CountersSame, State.counter], fun hrefused hlevel => ?_,
      by simp [sameOutside_iff]⟩
    exact testReady_readyOutstanding (by simpa using hrefused) (by simpa using hlevel)
  · simp [exec, execDeliverComplete, finished_eq ho, State.setCpt, poolDelivered, hframes]

/-! ### Pins of the card port (R183, R188) -/

theorem take_eq (level : Bool) (c : Synchronised) :
    c.take level = { c with pin := level, level := level, count := none } := rfl

theorem exec_cardReset_of_held (h : Held s.cpt.crst.toConditioner true) :
    exec .cardReset s = .next (cardReset s) := by
  have hdue := (Conditioner.due_iff _ _).mpr h
  simp [exec, execCardReset, hdue]

theorem not_due_of_not_held {c : Conditioner} {level : Bool} (h : ¬ Held c level) : c.due level = false := by
  rw [← Bool.not_eq_true, Conditioner.due_iff]
  exact h

/-- The pool emptied is the pool right after seat loss but for what READY keeps (R61). -/
theorem poolCardReset_rxp (s : State) : (poolCardReset s).rxp =
    { s.rxp with frames := [], free := 192, readyOutstanding := (poolCardReset s).rxp.readyOutstanding } := by
  apply Rxp.ext <;> simp [poolCardReset]

theorem resetQueues_queue (c : CardClass) (s : State) : (resetQueues s).queue c = orphaned (s.queue c) := by
  cases c <;> rfl

theorem changeTable_cpt (table : List AlarmEntry) (overflow : Bool) (s : State) :
    (changeTable table overflow s).cpt = (signal .alarmTableChange s).cpt := by
  simp only [changeTable, refreshRelays_frame, refreshSummary_frame, refreshAlert_frame]
  rfl

/-- What a card reset leaves pending: nothing, but ALARM TABLE CHANGE where an entry went (log 22). -/
theorem resetCardAlarms_of_quiet (h : s.cpt.events = []) (hlines : LawLines s) :
    (resetCardAlarms s).cpt.events = (if s.alu.table.any (fun e => isCardKey e.key) then [.alarmTableChange] else [])
      ∧ LawLines (resetCardAlarms s)
      ∧ (resetCardAlarms s).alu.table = s.alu.table.filter (fun e => !isCardKey e.key)
      ∧ (resetCardAlarms s).alu.suppressed = s.alu.suppressed.filter (fun k => !isCardKey k) := by
  unfold resetCardAlarms
  dsimp only
  split
  · refine ⟨?_, ?_, by simp, by simp⟩
    · rw [changeTable_cpt, signal_cpt_events, h]
      rfl
    · rw [LawLines, changeTable_cpt]
      exact ⟨rfl, rfl⟩
  next hnone =>
    have hall : s.alu.table.filter (fun e => !isCardKey e.key) = s.alu.table :=
      List.filter_eq_self.mpr fun e he => by
        simp only [List.any_eq_true, not_exists, not_and, Bool.not_eq_true] at hnone
        simpa using hnone e he
    exact ⟨h, hlines, hall.symm, rfl⟩

/-- The state of a card reset before its alarm table is reset. -/
def cardResetPools (s : State) : State := poolCardReset (resetQueues (resetPort s))

theorem cardResetPools_quiet (s : State) :
    (cardResetPools s).cpt.events = [] ∧ LawLines (cardResetPools s) ∧ (cardResetPools s).alu = s.alu := by
  simp only [cardResetPools, LawLines, poolCardReset_frame, resetQueues_frame]
  exact ⟨rfl, ⟨rfl, rfl⟩, rfl⟩

/-- The port right after a card reset (R176, R188). -/
theorem cardReset_port (s : State) : (cardReset s).cpt.bits = [] ∧ (cardReset s).cpt.parser = .hunt
    ∧ (cardReset s).cpt.incoming = [] ∧ (cardReset s).cpt.replies = [] ∧ (cardReset s).cpt.outgoing = none
    ∧ (cardReset s).cpt.results = []
    ∧ (cardReset s).cpt.crst = { s.cpt.crst with pin := true, level := true, count := none }
    ∧ (cardReset s).cpt.eventMap = s.cpt.eventMap ∧ (cardReset s).cpt.hold = s.cpt.hold := by
  simp [cardReset, resetPort, State.setCpt, Cpt.refreshLines, take_eq]

/-- Settles O54. -/
theorem cardResetAndHold : Obligations.CardResetAndHold := by
  unfold Obligations.CardResetAndHold
  refine ⟨fun s h => ⟨cardReset s, exec_cardReset_of_held h, ?_⟩, fun s h => ?_, fun s h => ?_, fun s h => ?_,
    fun s => ⟨fun h => ?_, fun h => ?_, fun h => ?_, fun h => ?_⟩⟩
  · obtain ⟨hquiet, hquietLines, halu⟩ := cardResetPools_quiet s
    obtain ⟨hevents, hlines, htable, hsuppressed⟩ := resetCardAlarms_of_quiet hquiet hquietLines
    rw [halu] at hevents htable hsuppressed
    have hreset : cardReset s = reportDrained (resetCardAlarms (cardResetPools s)) := rfl
    have hreport : ∀ t, (reportDrained t).cpt = t.cpt ∧ (reportDrained t).alu = t.alu := fun t => by simp
    have hlawLines : LawLines (cardReset s) := by rw [hreset, LawLines, (hreport _).1]; exact hlines
    refine ⟨by rw [hreset, (hreport _).1, hevents], fun hnone => ?_, hlawLines, ?_⟩
    · obtain ⟨hurgent, hattention⟩ := hlawLines
      rw [hnone] at hurgent hattention
      exact ⟨hurgent, hattention⟩
    · have hqueues : (cardReset s).txs.queues = (resetQueues (resetPort s)).txs.queues := by simp [cardReset]
      have hrxp : (cardReset s).rxp = (poolCardReset (resetQueues (resetPort s))).rxp := by simp [cardReset]
      have hkept : (resetQueues (resetPort s)).rxp = s.rxp := by simp [resetPort, State.setCpt]
      obtain ⟨hbits, hparser, hincoming, hreplies, houtgoing, hresults, hcrst, hmap, hhold⟩ := cardReset_port s
      refine ⟨hbits, hparser, hincoming, hreplies, houtgoing, hresults, hcrst, hmap, hhold, fun c => ?_,
        by simp [cardReset, resetPort, State.setCpt], ?_, fun hrefused hlevel => ?_,
        by rw [hreset, (hreport _).2, htable], by rw [hreset, (hreport _).2, hsuppressed],
        by simp [sameOutside_iff, cardReset, resetPort, State.setCpt]⟩
      · rw [State.queue, hqueues]
        exact resetQueues_queue c _
      · rw [hrxp, poolCardReset_rxp, hkept]
      · rw [hrxp]
        exact testReady_readyOutstanding (by simpa [resetPort, State.setCpt] using hrefused)
          (by simpa [resetPort, State.setCpt, Config.poolUnits] using hlevel)
  · simp [exec, execCardResetRelease, (Conditioner.due_iff _ _).mpr h, State.setCpt, take_eq]
  · simp [exec, execHoldAsserted, (Conditioner.due_iff _ _).mpr h, State.setCpt, take_eq]
  · simp [exec, execHoldReleased, (Conditioner.due_iff _ _).mpr h, State.setCpt, take_eq]
  · simp [exec, execCardReset, not_due_of_not_held h]
  · simp [exec, execCardResetRelease, not_due_of_not_held h]
  · simp [exec, execHoldAsserted, not_due_of_not_held h]
  · simp [exec, execHoldReleased, not_due_of_not_held h]

/-! ### Power-on, the front of the queue, the bus view and the alert line -/

/-- Settles O1. -/
theorem stepRunsFrontCommand : Obligations.StepRunsFrontCommand := by
  unfold Obligations.StepRunsFrontCommand
  refine ⟨fun c rest s => rfl, fun s hidle => ?_⟩
  rw [step, hidle]

/-- Settles O2. -/
theorem powerOnValues : Obligations.PowerOnValues := by
  unfold Obligations.PowerOnValues
  intro pins s
  have hsequences : ∀ (i : Slot) (c : CardClass), ((State.powerOn pins).txs.nextSeq[i]).get c = 0 := fun i c => by
    cases c <;> simp [State.powerOn, PerClass.get]
  have hinputs : ∀ n : Fin 8, ((State.powerOn pins).input n).asserted = false ∧ ((State.powerOn pins).input n).cause = false
      ∧ ((State.powerOn pins).input n).settings = InputSettings.default :=
    forall_fin_eight (by refine ⟨?_, ?_, ?_, ?_, ?_, ?_, ?_, ?_⟩ <;> exact ⟨rfl, rfl, rfl⟩)
  refine ⟨_, rfl, rfl, rfl, rfl, ⟨rfl, rfl, rfl, rfl, rfl⟩,
    ⟨rfl, rfl, fun k => by cases k <;> rfl, hsequences, rfl, rfl⟩, ⟨rfl, rfl, rfl, rfl, rfl, rfl⟩,
    fun i => by simp [State.peer, State.powerOn], by simp [State.powerOn]; exact ⟨rfl, rfl, rfl⟩,
    by simp [State.powerOn], by simp [State.powerOn, Conditioner.powerOn],
    ⟨rfl, rfl, rfl, rfl, rfl, rfl, rfl, rfl, rfl, rfl, rfl, hinputs⟩, ⟨rfl, rfl, rfl, rfl, rfl, rfl, rfl, rfl, rfl, rfl, rfl⟩,
    ⟨rfl, rfl, rfl⟩, fun i => by simp [State.counter, State.powerOn]⟩

/-- Settles O3. -/
theorem lawsHoldAtReset : Obligations.LawsHoldAtReset := by
  have hlaw : ∀ l : Law, l.ofPart = true → l.holds State.reset := fun l hl => powerOn_holds hl restPins State.reset
  exact ⟨hlaw .queued rfl, hlaw .store rfl, hlaw .pool rfl, hlaw .rate rfl, hlaw .drive rfl, hlaw .table rfl,
    hlaw .alert rfl, hlaw .sources rfl, hlaw .gate rfl, hlaw .lines rfl, hlaw .events rfl, hlaw .summary rfl,
    hlaw .relays rfl, lawDrained_of_ne nofun, hlaw .sourceLost rfl⟩

/-- Settles O30. -/
theorem busViewMoves : Obligations.BusViewMoves := by
  unfold Obligations.BusViewMoves
  refine ⟨fun s h => congrArg _ (if_pos h), fun m s h => ?_, fun s h => congrArg _ (beginActivity_of_quiet h _)⟩
  refine congrArg _ ((beginActivity_of_quiet h _).trans ?_)
  by_cases hm : m.levels.take 5 = [false, true, true, true, true] <;> simp [PairStart.isMarker, hm, State.setBau]

/-- Settles O35. -/
theorem replyWindowPasses : Obligations.ReplyWindowPasses := by
  unfold Obligations.ReplyWindowPasses
  refine ⟨fun code n s hview hreply hstate => ?_, fun w s hview htx => ?_⟩
  · have htakes : takesPart s.sec.state = true := by rcases hstate with h | h | h <;> rw [h] <;> rfl
    refine ⟨bump .repliesSent (s.setBau (fun b => { b with
      reply := some { code := code, driving := true, left := code.bits.length } })), ?_, ?_, fun hcomplete => ?_, ?_, ?_, ?_,
      ?_⟩
    · simp [exec, execReplyWindowOpen, hview, hreply, htakes]
    · cases code <;> simp [State.setBau] <;> rfl
    · rw [pairDrive_of_silent (by simpa [State.setBau] using hcomplete)]
      cases code <;> simp [State.setBau] <;> rfl
    · simp [Counted, State.counter, State.setBau]
    · simp +contextual [CountersSame, State.counter, State.setBau]
    · exact onlyEventsPlaced_of_fields (by simp [State.setBau]) fun _ he => bump_events _ _ he
    · simp [sameOutside_iff, State.setBau]
  · simp [exec, execReplyWindowEnd, hview, htx, State.setBau]

/-- Settles O27. -/
theorem alertLevelChanges : Obligations.AlertLevelChanges := by
  unfold Obligations.AlertLevelChanges
  refine ⟨fun a s h => ?_, fun a s h => ⟨refreshRelays (signal .alertLineChange
    { s with alu := { s.alu with alert := s.alu.alert.take a } }), ?_, ?_, ?_, ?_, fun hcoll ha => ?_, fun hcoll => ?_, ?_⟩⟩
  · simp [exec, execAlertLevelChange, not_due_of_not_held h]
  · simp [exec, execAlertLevelChange, (Conditioner.due_iff _ _).mpr h]
  · apply Alu.ext <;> simp [signal, take_eq]
  · simp
  · exact onlyEventsPlaced_of_fields (by simp) fun _ he => by simpa using .inr he
  · simp [refreshRelays, State.critDue, signal, hcoll, ha]
  · simp [refreshRelays, State.critDue, State.majDue, signal, hcoll]
  · simp [sameOutside_iff]

end Sys2Proof.Machine
end

section
/-! Raises, acknowledgements and the causes they come from: what each branch of a raise leaves (R159, R162, R163), the
inputs (R153, R155, R156), the card's alarm messages (R157, R161) and the alarm unit's timers. -/

namespace Sys2Proof.Machine

open Sys2Proof

variable {s : State} {k : AlarmKey} {e : AlarmEntry} {v : Severity} {table : List AlarmEntry}

/-! ### The catalogue of keys (spec 8.1) -/

/-- Every key is named by its origin and code. -/
theorem alarmKeyOf_origin_code (k : AlarmKey) : alarmKeyOf k.origin k.code = some k := by
  cases k with
  | input n => revert n; decide
  | card n => revert n; decide
  | timing n => revert n; decide
  | traffic n => revert n; decide
  | seating n => revert n; decide
  | start => decide

theorem origin_code_of_alarmKeyOf {origin code : Byte} (h : alarmKeyOf origin code = some k) :
    k.origin = origin ∧ k.code = code := by
  simpa using List.find?_some h

theorem mem_alarmCatalogue (k : AlarmKey) : k ∈ alarmCatalogue := List.mem_of_find?_eq_some (alarmKeyOf_origin_code k)

theorem mem_markKey_suppressed (k : AlarmKey) (s : State) : k ∈ (markKey k s).alu.suppressed := by
  simp [markKey, mem_alarmCatalogue]

/-! ### The entry a raise finds, and the one it leaves (R159) -/

theorem findEntry_replaceEntry {f : AlarmEntry} (hfind : findEntry k table = some e) (hf : f.key = k) :
    findEntry k (replaceEntry f table) = some f := by
  induction table with
  | nil => cases hfind
  | cons x rest ih =>
    by_cases hx : x.key = k
    · simp [findEntry, replaceEntry, hx, hf]
    · have hrest : findEntry k rest = some e := by simpa [findEntry, hx] using hfind
      simpa [findEntry, replaceEntry, hx, hf] using ih hrest

theorem raiseKey_of_marked (hmark : k ∈ s.alu.suppressed) : raiseKey k v s = s := by simp [raiseKey, hmark]

/-- A further raise of an entry that stands leaves it raised, with some time of change, in its place. -/
theorem raiseKey_of_entry (hmark : k ∉ s.alu.suppressed) (hfind : findEntry k s.alu.table = some e) :
    ∃ change, findEntry k (raiseKey k v s).alu.table = some { e.raised v with lastChange := change }
      ∧ (raiseKey k v s).alu.table.map AlarmEntry.key = s.alu.table.map AlarmEntry.key := by
  by_cases hsame : e.raised v = e
  · have hraise : raiseKey k v s = s := by simp [raiseKey, hmark, hfind, hsame]
    refine ⟨e.lastChange, ?_, by rw [hraise]⟩
    rw [hraise, hsame]
    exact hfind
  · have hraise : raiseKey k v s = changeTable
        (replaceEntry { e.raised v with lastChange := s.tmu.time.seconds } s.alu.table) s.alu.overflow s := by
      simp [raiseKey, hmark, hfind, hsame]
    rw [hraise, changeTable_table]
    exact ⟨_, findEntry_replaceEntry hfind (mem_and_key_of_findEntry hfind).2, map_key_replaceEntry _ _⟩

section
variable (hmark : k ∉ s.alu.suppressed) (hnone : ∀ e, e ∈ s.alu.table → e.key ≠ k)
include hmark hnone

theorem raiseKey_of_room (hroom : s.alu.table.length < Config.alarmEntries) :
    raiseKey k v s = changeTable (s.alu.table ++ [freshEntry k v s.tmu.time.seconds]) s.alu.overflow s := by
  simp [raiseKey, hmark, (findEntry_eq_none_iff k s.alu.table).mpr hnone, hroom]

section
variable (hfull : ¬ s.alu.table.length < Config.alarmEntries)
include hfull

theorem raiseKey_of_victim (hvictim : findVictim s.alu.table v = some e) :
    raiseKey k v s = changeTable (dropEntry e.key s.alu.table ++ [freshEntry k v s.tmu.time.seconds]) s.alu.overflow
      (evictCause e (bump .evictions s)) := by
  simp [raiseKey, hmark, (findEntry_eq_none_iff k s.alu.table).mpr hnone, hfull, hvictim]

theorem raiseKey_of_dropped (hvictim : findVictim s.alu.table v = none) :
    raiseKey k v s = if s.alu.overflow then markKey k (bump .raisesDropped s)
      else changeTable s.alu.table true (markKey k (bump .raisesDropped s)) := by
  simp [raiseKey, hmark, (findEntry_eq_none_iff k s.alu.table).mpr hnone, hfull, hvictim]

/-- A dropped raise leaves its mark and the overflow flag, and the table as it was (R162, R163). -/
theorem raiseKey_dropped_fields (hvictim : findVictim s.alu.table v = none) :
    (raiseKey k v s).alu.table = s.alu.table ∧ (raiseKey k v s).alu.overflow = true
      ∧ k ∈ (raiseKey k v s).alu.suppressed ∧ (raiseKey k v s).alu.inputs = s.alu.inputs
      ∧ (raiseKey k v s).counters = (bump .raisesDropped s).counters := by
  rw [raiseKey_of_dropped hmark hnone hfull hvictim]
  split
  next hover => exact ⟨by simp, by simpa using hover, mem_markKey_suppressed _ _, by simp, by simp⟩
  next => exact ⟨by simp, by simp, by simpa using mem_markKey_suppressed _ _, by simp, by simp⟩

end
end

/-- Where there is no victim, no entry is CLEARED and none is of a lower severity than the raise (R162). -/
theorem findVictim_none (h : findVictim table v = none) {x : AlarmEntry} (hx : x ∈ table) :
    x.state ≠ .cleared ∧ x.severity.below v = false := by
  have hempty : ∀ l : List AlarmEntry, lowestOldest l = none → l = [] := fun l hl => by
    cases l with
    | nil => rfl
    | cons a rest =>
      unfold lowestOldest at hl
      split at hl
      · cases hl
      · split at hl <;> cases hl
  unfold findVictim at h
  split at h
  · cases h
  next hcleared =>
    split at h
    · cases h
    next hacked =>
      have hc := List.filter_eq_nil_iff.mp (hempty _ hcleared) x hx
      have ha := List.filter_eq_nil_iff.mp (hempty _ hacked) x hx
      have hl := List.filter_eq_nil_iff.mp (hempty _ h) x hx
      cases hstate : x.state <;> simp_all

/-- The ways a raise goes, on a key without mark. -/
theorem raiseKey_cases (hmark : k ∉ s.alu.suppressed) (P : State → Prop)
    (entry : ∀ e, findEntry k s.alu.table = some e → P (raiseKey k v s))
    (room : (∀ e, e ∈ s.alu.table → e.key ≠ k) →
      P (changeTable (s.alu.table ++ [freshEntry k v s.tmu.time.seconds]) s.alu.overflow s))
    (evicted : ∀ e, (∀ e, e ∈ s.alu.table → e.key ≠ k) → findVictim s.alu.table v = some e →
      P (changeTable (dropEntry e.key s.alu.table ++ [freshEntry k v s.tmu.time.seconds]) s.alu.overflow
        (evictCause e (bump .evictions s))))
    (dropped : (∀ e, e ∈ s.alu.table → e.key ≠ k) → ¬ s.alu.table.length < Config.alarmEntries →
      findVictim s.alu.table v = none → P (raiseKey k v s)) : P (raiseKey k v s) := by
  cases hfind : findEntry k s.alu.table with
  | some e => exact entry e hfind
  | none =>
    have hnone := (findEntry_eq_none_iff k s.alu.table).mp hfind
    by_cases hroom : s.alu.table.length < Config.alarmEntries
    · rw [raiseKey_of_room hmark hnone hroom]
      exact room hnone
    · cases hvictim : findVictim s.alu.table v with
      | some e =>
        rw [raiseKey_of_victim hmark hnone hroom hvictim]
        exact evicted e hnone hvictim
      | none => exact dropped hnone hroom hvictim

/-- After a raise the key's cause is in the picture, whatever the table held (R159, R162, R163). -/
theorem raised_raiseKey (k : AlarmKey) (v : Severity) (s : State) : Raised k (raiseKey k v s) := by
  by_cases hmark : k ∈ s.alu.suppressed
  · rw [raiseKey_of_marked hmark]
    exact .inr hmark
  have hfresh : ∀ (l : List AlarmEntry) (o : Bool) (t : State),
      Raised k (changeTable (l ++ [freshEntry k v s.tmu.time.seconds]) o t) := fun l o t =>
    .inl ⟨freshEntry k v s.tmu.time.seconds, by simp, rfl, by simp [freshEntry]⟩
  refine raiseKey_cases hmark (Raised k) (fun e hfind => ?_) (fun _ => hfresh ..) (fun _ _ _ => hfresh ..)
    fun hnone hfull hvictim => .inr (raiseKey_dropped_fields hmark hnone hfull hvictim).2.2.1
  obtain ⟨change, hraised, -⟩ := raiseKey_of_entry (v := v) hmark hfind
  obtain ⟨hmem, hkey⟩ := mem_and_key_of_findEntry hraised
  refine .inl ⟨_, hmem, hkey, ?_⟩
  cases hstate : e.state <;> simp [AlarmEntry.raised, hstate]

theorem raiseKey_table_of_entry (hmark : k ∉ s.alu.suppressed) (hfind : findEntry k s.alu.table = some e) :
    (raiseKey k v s).alu.inputs = s.alu.inputs ∧ (raiseKey k v s).counters = s.counters := by
  by_cases hsame : e.raised v = e <;> simp [raiseKey, hmark, hfind, hsame]

/-- A raise counts nothing but what a full table drops or evicts (R162). -/
theorem raiseKey_countersSame (k : AlarmKey) (v : Severity) (s : State) :
    CountersSame [.raisesDropped, .evictions] s (raiseKey k v s) := by
  intro i hi
  obtain ⟨hdropped, hevicted⟩ : i ≠ .raisesDropped ∧ i ≠ .evictions := by simpa using hi
  by_cases hmark : k ∈ s.alu.suppressed
  · rw [raiseKey_of_marked hmark]
  · refine raiseKey_cases hmark (fun t => t.counter i = s.counter i) (fun e hfind => ?_) (fun _ => ?_) (fun _ _ _ => ?_)
      fun hnone hfull hvictim => ?_
    · exact counter_congr (raiseKey_table_of_entry hmark hfind).2 i
    · simp [State.counter]
    · simp [State.counter, hevicted]
    · rw [counter_congr (raiseKey_dropped_fields hmark hnone hfull hvictim).2.2.2.2 i, counter_bump, if_neg hdropped]

/-- The evicted input, if one is, is another than the one raised (R156, R162). -/
theorem evictCause_input_ne {n : Fin 8} (hkey : e.key ≠ .input n) (s : State) : (evictCause e s).input n = s.input n := by
  unfold evictCause
  split
  · rfl
  · split
    next m hm =>
      split
      · exact State.input_setInput_ne s _ fun hn => hkey (hn ▸ hm)
      · rfl
    next => rfl

theorem raiseKey_input (n : Fin 8) (v : Severity) (s : State) : (raiseKey (.input n) v s).input n = s.input n := by
  by_cases hmark : AlarmKey.input n ∈ s.alu.suppressed
  · rw [raiseKey_of_marked hmark]
  · refine raiseKey_cases hmark (fun t => t.input n = s.input n) (fun e hfind => ?_) (fun _ => ?_) (fun e hnone hvictim => ?_)
      fun hnone hfull hvictim => ?_
    · rw [State.input, (raiseKey_table_of_entry hmark hfind).1, State.input]
    · simp [State.input]
    · have hinput := evictCause_input_ne (hnone e (findVictim_some hvictim).1) (bump .evictions s)
      simpa [State.input] using hinput
    · rw [State.input, (raiseKey_dropped_fields hmark hnone hfull hvictim).2.2.2.1, State.input]

/-- Settles O24: by the entry the table holds of the key, and without one by the room in the table and the victim. -/
theorem raiseOfKey : Obligations.RaiseOfKey := by
  unfold Obligations.RaiseOfKey
  rintro k v s ⟨-, hnodup⟩
  refine ⟨raiseKey_of_marked, fun hmark hnone hroom => ?_, fun e hmark he hkey => ?_, fun hmark hnone hfull => ?_⟩
  · rw [raiseKey_of_room hmark hnone hroom, changeTable_table, changeTable_overflow]
    exact ⟨rfl, rfl⟩
  · subst hkey
    obtain ⟨change, hraised, hkeys⟩ := raiseKey_of_entry (v := v) hmark (findEntry_key_of_mem hnodup he)
    exact ⟨_, hraised, hkeys, rfl, rfl, rfl, rfl⟩
  · have hroom : ¬ s.alu.table.length < Config.alarmEntries := by
      rw [hfull]
      decide
    refine ⟨fun x hvictim => ?_, fun hvictim => ?_⟩
    · obtain ⟨hmem, hlower⟩ := findVictim_some hvictim
      refine ⟨hmem, hlower, ?_, ?_⟩
      · rw [raiseKey_of_victim hmark hnone hroom hvictim, changeTable_table, dropEntry]
      · rw [raiseKey_of_victim hmark hnone hroom hvictim, Counted, State.counter]
        simp [State.counter]
    · obtain ⟨htable, hover, hmarked, -, hcounters⟩ := raiseKey_dropped_fields hmark hnone hroom hvictim
      refine ⟨fun x hx => findVictim_none hvictim hx, htable, hover, hmarked, ?_⟩
      rw [Counted, counter_congr hcounters, counter_bump, if_pos rfl]

/-! ### After a clear the key is in no live entry (R160) -/

theorem cleared_of_clearKey (hlaw : LawTable s) :
    ∀ e, e ∈ (clearKey k s).alu.table → e.key = k → e.state = .cleared := by
  intro e he hkey
  cases hfind : findEntry k s.alu.table with
  | none =>
    have hnone := (findEntry_eq_none_iff k s.alu.table).mp hfind
    rw [clearKey_of_no_entry hnone] at he
    exact absurd hkey (hnone e (by simpa using he))
  | some x =>
    obtain ⟨hmem, hxkey⟩ := mem_and_key_of_findEntry hfind
    cases hstate : x.state with
    | active =>
      rw [clearKey_of_active hfind hstate, changeTable_table, replaceEntry, List.mem_map] at he
      obtain ⟨y, -, rfl⟩ := he
      by_cases hy : y.key = x.key
      · simp [hy]
      · simp only [hy, if_false] at hkey
        exact absurd (hkey.trans hxkey.symm) hy
    | acked =>
      rw [clearKey_of_acked hfind hstate, removeEntry, changeTable_table, dropEntry] at he
      exact absurd hkey (by simpa using (List.mem_filter.mp he).2)
    | cleared =>
      rw [clearKey_of_cleared hfind hstate] at he
      rw [entry_eq_of_key_eq hlaw.2 he hmem (hkey.trans hxkey.symm)]
      exact hstate

/-! ### Timers of the alarm unit (R31, R35, R167, R168) -/

/-- An expiry acts while its timer runs (log 7). -/
theorem ite_of_runs {α : Type} {timer : Timer} (h : timer.isSome = true) (a b : α) :
    (if timer.isNone then a else b) = b := by
  cases timer with
  | none => cases h
  | some n => rfl

/-- Settles O28. -/
theorem alarmTimersExpire : Obligations.AlarmTimersExpire := by
  unfold Obligations.AlarmTimersExpire
  have hclear : ∀ (k : AlarmKey) (x : Txs) (s : State), LawTable s →
      (clearKey k { s with txs := x }).txs = x
      ∧ (∀ e, e ∈ (clearKey k { s with txs := x }).alu.table → e.key = k → e.state = .cleared)
      ∧ OnlyAlarmsChanged s (clearKey k { s with txs := x }) ∧ OnlyEventsPlaced s (clearKey k { s with txs := x })
      ∧ SameOutside [.txs, .alu, .cpt] s (clearKey k { s with txs := x }) := fun k x s hlaw =>
    ⟨by simp, cleared_of_clearKey (s := { s with txs := x }) hlaw, onlyAlarmsChanged_of_fields (by simp),
      onlyEventsPlaced_of_fields (by simp) fun _ he => clearKey_events _ _ he, by simp [sameOutside_iff]⟩
  refine ⟨fun s hlaw hruns => ?_, fun s hlaw hruns => ?_, fun s hruns => ?_, fun s hruns => ?_⟩
  · exact ⟨_, congrArg Host.Outcome.next (ite_of_runs hruns _ _), hclear keyX3 _ s hlaw⟩
  · exact ⟨_, congrArg Host.Outcome.next (ite_of_runs hruns _ _), hclear keyX4 _ s hlaw⟩
  · exact congrArg _ (ite_of_runs hruns _ _)
  · exact congrArg _ (ite_of_runs hruns _ _)

/-! ### Inputs (R153, R155, R156) -/

theorem due_of_inputHeld {x : AlarmInput} {level : Bool} (h : InputHeld x level) : x.due level = true :=
  (AlarmInput.due_iff x level).mpr h

theorem not_due_of_not_inputHeld {x : AlarmInput} {level : Bool} (h : ¬ InputHeld x level) : x.due level = false := by
  rw [← Bool.not_eq_true, AlarmInput.due_iff]
  exact h

/-- The input with its debounced level taken. -/
def AlarmInput.taken (level : Bool) (x : AlarmInput) : AlarmInput := { x with asserted := level, count := none }

theorem setInput_sameOutside (n : Fin 8) (x : AlarmInput) (s : State) :
    (∀ m, m ≠ n → (s.setInput n x).input m = s.input m)
      ∧ (s.setInput n x).alu = { s.alu with inputs := (s.setInput n x).alu.inputs } ∧ SameOutside [.alu] s (s.setInput n x) :=
  ⟨fun _ hm => State.input_setInput_ne s x hm, rfl, by simp [sameOutside_iff, State.setInput]⟩

/-- An input's level and cause taken together, with what a clear of its key leaves of it. -/
theorem clearKey_setCause_setInput (n : Fin 8) (x : AlarmInput) (s : State) :
    let t := clearKey (.input n) (setCause n false (s.setInput n x))
    t.input n = { x with cause := false } ∧ (∀ m, m ≠ n → t.input m = s.input m) ∧ OnlyAlarmsChanged s t
      ∧ OnlyEventsPlaced s t ∧ SameOutside [.alu, .cpt] s t := by
  intro t
  have hinput : ∀ m, t.input m = (setCause n false (s.setInput n x)).input m := fun m => by
    simp [t, State.input]
  refine ⟨by rw [hinput]; simp [setCause], fun m hm => ?_, onlyAlarmsChanged_of_fields ?_, onlyEventsPlaced_of_fields ?_
    fun a ha => clearKey_events _ _ ?_, ?_⟩
  · rw [hinput, setCause, State.input_setInput_ne _ _ hm, State.input_setInput_ne _ _ hm]
  · simp [t, setCause, State.setInput]
  · simp [t, setCause, State.setInput]
  · exact ha
  · simp [t, sameOutside_iff, setCause, State.setInput]

section
variable {n : Fin 8}

theorem deassertInput_of_held (h : InputHeld (s.input n) false) (hmasked : (s.input n).settings.masked = false) :
    deassertInput n s = endInputCause n (s.setInput n ((s.input n).taken false)) := by
  simp [deassertInput, due_of_inputHeld h, hmasked, AlarmInput.taken]

theorem endInputCause_of_level (h : (s.input n).settings.latched = false) :
    endInputCause n s = clearKey (.input n) (setCause n false s) := by
  simp [endInputCause, h]

theorem endInputCause_of_active (hfind : findEntry (.input n) s.alu.table = some e) (hstate : e.state = .active)
    (h : (s.input n).settings.latched = true) : endInputCause n s = s := by
  simp [endInputCause, h, hfind, hstate]

theorem endInputCause_of_acked (hfind : findEntry (.input n) s.alu.table = some e) (hstate : e.state = .acked)
    (h : (s.input n).settings.latched = true) : endInputCause n s = clearKey (.input n) (setCause n false s) := by
  simp [endInputCause, h, hfind, hstate]

end

/-- Settles O26. -/
theorem inputEvents : Obligations.InputEvents := by
  unfold Obligations.InputEvents
  refine ⟨fun n s h => ⟨fun hmasked => ?unmasked, fun hmasked => ?masked⟩, fun n s => ⟨fun h => ?_, fun h => ?_⟩,
    fun n s hlaw h hmasked => ⟨fun hlevel => ?level, fun hlatched e he hkey => ?latched⟩⟩
  case unmasked =>
    have hinput := raiseKey_input n (s.input n).settings.severity (setCause n true (s.setInput n ((s.input n).taken true)))
    refine ⟨raiseKey (.input n) (s.input n).settings.severity (setCause n true (s.setInput n ((s.input n).taken true))),
      ?_, ?_, ?_, ?_, raised_raiseKey _ _ _, onlyAlarmsChanged_of_fields ?_, onlyEventsPlaced_of_fields ?_
      fun a ha => raiseKey_events _ _ _ ha, raiseKey_countersSame _ _ _, ?_⟩
    · simp [exec, execInputAsserted, assertInput, due_of_inputHeld h, hmasked, AlarmInput.taken]
    · rw [hinput]; simp [setCause, AlarmInput.taken]
    · rw [hinput]; simp [setCause]
    · rw [hinput]; simp [setCause, AlarmInput.taken]
    · simp [setCause, State.setInput]
    · simp [setCause, State.setInput]
    · simp [sameOutside_iff, setCause, State.setInput]
  case masked =>
    refine ⟨s.setInput n ((s.input n).taken true), ?_, ?_, ?_, ?_, setInput_sameOutside n _ s⟩
    · simp [exec, execInputAsserted, assertInput, due_of_inputHeld h, hmasked, AlarmInput.taken]
    all_goals simp [AlarmInput.taken]
  · simp [exec, execInputAsserted, assertInput, not_due_of_not_inputHeld h]
  · simp [exec, execInputDeasserted, deassertInput, not_due_of_not_inputHeld h]
  all_goals simp only [exec, execInputDeasserted, deassertInput_of_held h hmasked]
  case level =>
    rw [endInputCause_of_level (by simpa [AlarmInput.taken] using hlevel)]
    obtain ⟨hn, hothers, honly⟩ := clearKey_setCause_setInput n ((s.input n).taken false) s
    refine ⟨_, rfl, by rw [hn]; rfl, by rw [hn], hothers, cleared_of_clearKey ?_, honly⟩
    simpa [LawTable, State.setInput] using hlaw
  case latched =>
    have hfind : findEntry (.input n) (s.setInput n ((s.input n).taken false)).alu.table = some e :=
      hkey ▸ findEntry_key_of_mem hlaw.2 he
    have hlatched' : ((s.setInput n ((s.input n).taken false)).input n).settings.latched = true := by
      simpa [AlarmInput.taken] using hlatched
    refine ⟨fun hactive => ?_, fun hacked => ?_⟩
    · rw [endInputCause_of_active hfind hactive hlatched']
      exact ⟨_, rfl, by simp [AlarmInput.taken], by simp [AlarmInput.taken], setInput_sameOutside n _ s⟩
    · rw [endInputCause_of_acked hfind hacked hlatched']
      obtain ⟨hn, hothers, honly⟩ := clearKey_setCause_setInput n ((s.input n).taken false) s
      refine ⟨_, rfl, by rw [hn]; rfl, by rw [hn], hothers, ?_, honly⟩
      rw [clearKey_of_acked (by simpa using hfind) hacked, removeEntry, changeTable_table]
      simp [dropEntry, State.setInput]

/-! ### The card's alarm messages (R156, R157, R161) -/

theorem severityOf_eq_none_iff (b : Byte) : severityOf b = none ↔ ¬ (1 ≤ b.toNat ∧ b.toNat ≤ 4) := by
  unfold severityOf
  split <;> simp_all
  omega

theorem ackedEntry_of_mem (hlaw : LawTable s) {origin code : Byte} (he : e ∈ s.alu.table) (horigin : e.key.origin = origin)
    (hcode : e.key.code = code) : s.ackedEntry origin code = some e := by
  subst horigin hcode
  simp [State.ackedEntry, alarmKeyOf_origin_code, findEntry_key_of_mem hlaw.2 he]

theorem ackedEntry_of_none {origin code : Byte}
    (h : ∀ e, e ∈ s.alu.table → ¬ (e.key.origin = origin ∧ e.key.code = code)) : s.ackedEntry origin code = none := by
  cases hkey : alarmKeyOf origin code with
  | none => simp [State.ackedEntry, hkey]
  | some k =>
    have hnone : findEntry k s.alu.table = none :=
      (findEntry_eq_none_iff k s.alu.table).mpr fun e he hek => h e he (hek ▸ origin_code_of_alarmKeyOf hkey)
    simp [State.ackedEntry, hkey, hnone]

/-- An ACTIVE entry becomes ACKED, but that of a LATCHED input at its deasserted level (R156, R161). -/
theorem ackEntry_of_active (hstate : e.state = .active)
    (hinput : ∀ n : Fin 8, e.key = .input n → (s.input n).settings.latched = false ∨ (s.input n).asserted = true) :
    ackEntry e s =
      changeTable (replaceEntry { e with state := .acked, lastChange := s.tmu.time.seconds } s.alu.table) s.alu.overflow s := by
  unfold ackEntry
  rw [hstate]
  dsimp only
  split
  next n hkey => rcases hinput n hkey with h | h <;> simp [h]
  next => rfl

theorem ackEntry_of_latched {n : Fin 8} (hstate : e.state = .active) (hkey : e.key = .input n)
    (hlatched : (s.input n).settings.latched = true) (hlevel : (s.input n).asserted = false) :
    ackEntry e s = setCause n false (removeEntry e.key s) := by
  simp [ackEntry, hstate, hkey, hlatched, hlevel]

theorem ackEntry_outside (e : AlarmEntry) (s : State) : OnlyAlarmsChanged s (ackEntry e s)
    ∧ OnlyEventsPlaced s (ackEntry e s) ∧ SameOutside [.alu, .cpt] s (ackEntry e s) :=
  ⟨onlyAlarmsChanged_of_fields (by simp), onlyEventsPlaced_of_fields (by simp) fun _ ha => ackEntry_events _ _ ha,
    by simp [sameOutside_iff]⟩

/-- Settles O29. -/
theorem cardAlarmMessages : Obligations.CardAlarmMessages := by
  unfold Obligations.CardAlarmMessages
  refine ⟨fun code severity s hready => ⟨fun hcode hlow hhigh => ?_, fun hbad => ?_⟩,
    fun code s hlaw hready => ⟨fun hcode => ?_, fun hcode => ?_⟩,
    fun origin code s hlaw hready => ⟨fun e he horigin hcode => ?ack, fun hnone => ?_⟩⟩
  · obtain ⟨v, hv⟩ : ∃ v, severityOf severity = some v := by
      cases hv : severityOf severity with
      | none => exact absurd ⟨hlow, hhigh⟩ ((severityOf_eq_none_iff severity).mp hv)
      | some v => exact ⟨v, rfl⟩
    refine ⟨raiseKey (.card (Fin.ofNat 32 code.toNat)) v s, ?_, raised_raiseKey _ _ _, onlyAlarmsChanged_of_fields (by simp),
      onlyEventsPlaced_of_fields (by simp) fun _ ha => raiseKey_events _ _ _ ha, raiseKey_countersSame _ _ _,
      by simp [sameOutside_iff]⟩
    simp [exec, execRaise, handle_of_ready hready, actRaise, cardKeyOf, hcode, hv]
  · have hact : actRaise code severity s = refuse .badRequest 0x02 none s := by
      by_cases hcode : code.toNat < 32
      · have hv := (severityOf_eq_none_iff severity).mpr fun h => hbad ⟨hcode, h⟩
        simp [actRaise, hv]
      · simp [actRaise, cardKeyOf, hcode]
    exact congrArg _ ((handle_of_ready hready _ _).trans hact)
  · refine ⟨clearKey (.card (Fin.ofNat 32 code.toNat)) s, ?_, cleared_of_clearKey hlaw, onlyAlarmsChanged_of_fields (by simp),
      onlyEventsPlaced_of_fields (by simp) fun _ ha => clearKey_events _ _ ha, by simp [sameOutside_iff]⟩
    simp [exec, execClear, handle_of_ready hready, actClear, cardKeyOf, hcode]
  · have hact : actClear code s = refuse .badRequest 0x03 none s := by
      simp [actClear, cardKeyOf, Nat.not_lt.mpr hcode]
    exact congrArg _ ((handle_of_ready hready _ _).trans hact)
  case ack =>
    have hact : exec (.ack origin code) s = .next (ackEntry e s) := by
      refine congrArg _ ((handle_of_ready hready _ _).trans ?_)
      rw [actAck, ackedEntry_of_mem hlaw he horigin hcode]
    have houtside := ackEntry_outside e s
    rw [hact]
    refine ⟨fun hacked => ?_, fun n hactive hkey hlatched hlevel => ⟨_, rfl, ?_⟩, fun hactive hinput => ⟨_, rfl, ?_⟩,
      fun hcleared => ⟨_, rfl, ?_⟩⟩
    · simp [ackEntry, hacked]
    · rw [ackEntry_of_latched hactive hkey hlatched hlevel] at houtside ⊢
      refine ⟨by simp [removeEntry, dropEntry], by simp [removeEntry], by simp [setCause, State.input, removeEntry], fun m hm => ?_,
        houtside⟩
      rw [setCause, State.input_setInput_ne _ _ hm]
      simp [State.input]
    · rw [ackEntry_of_active hactive hinput] at houtside ⊢
      refine ⟨?_, by simp, houtside⟩
      rw [changeTable_table]
      exact replaceEntry_eq_map hlaw.2 he
        (f := fun x => { x with state := .acked, lastChange := s.tmu.time.seconds }) rfl
    · have hremove : ackEntry e s = removeEntry e.key s := by simp [ackEntry, hcleared]
      rw [hremove] at houtside ⊢
      exact ⟨changeTable_table _ _ _, changeTable_overflow _ _ _, houtside⟩
  · have hact : actAck origin code s = refuse .badRequest 0x04 none s := by simp [actAck, ackedEntry_of_none hnone]
    exact congrArg _ ((handle_of_ready hready _ _).trans hact)

end Sys2Proof.Machine
end

section
/-! The tick (R86), the strobes it starts (R96), and the edges and frames that give no sample (R91, R111). -/

namespace Sys2Proof.Machine

open Sys2Proof

variable {s : State}

/-! ### A frame being sent, one tick on (R8) -/

/-- A difference is where the level compared and the level sampled stand against one another. -/
theorem differsAt_iff {x : Transmission} {pair : List Bool} {j : Nat} (hj : j < 4) :
    DiffersAt x pair j ↔ ∃ a b, (x.compared.drop x.driven)[j]? = some (some a)
      ∧ (pair.take Config.halvesPerTick)[j]? = some b ∧ a ≠ b := by
  have hpair : (pair.take Config.halvesPerTick)[j]? = pair[j]? := by
    rw [List.getElem?_take, if_pos (show j < Config.halvesPerTick from hj)]
  rw [hpair, List.getElem?_drop, compared_getElem, DiffersAt]
  constructor
  · rintro ⟨hstart, hend, hsome, hne⟩
    obtain ⟨b, hb⟩ := Option.ne_none_iff_exists'.mp hsome
    obtain ⟨d, hd⟩ : ∃ d, x.drive[x.driven + j]? = some d := ⟨_, List.getElem?_eq_getElem (by omega)⟩
    refine ⟨d.level, b, by simp [hd, hend, Nat.not_lt.mpr hstart], hb, ?_⟩
    rintro rfl
    exact hne (by simp [hb, hd])
  · rintro ⟨a, b, ha, hb, hab⟩
    by_cases hstart : x.driven + j < 8
    · simp [hstart] at ha
    · by_cases hend : x.driven + j + 1 < x.drive.length
      · simp only [hstart, hend, if_false, if_true, Option.map_eq_some_iff, Option.some.injEq] at ha
        obtain ⟨d, hd, rfl⟩ := ha
        refine ⟨Nat.not_lt.mp hstart, hend, by simp [hb], ?_⟩
        rw [hb, hd]
        simpa using Ne.symm hab
      · simp [hstart, hend] at ha

/-- What a tick leaves of a frame that is being sent, with the pair it samples (R8, log 36). -/
theorem tick_of_sending {x : Transmission} (pair : List Bool) (hc : x.complete = false) (hd : x.differed = false) :
    ((x.tick pair).differed = true ↔ ∃ j, j < 4 ∧ DiffersAt x pair j)
      ∧ ((x.tick pair).differed = false → (x.tick pair).driven = min (x.driven + 4) (x.drive.length - 1))
      ∧ ∀ j, j < 4 → DiffersAt x pair j → (∀ k, k < j → ¬ DiffersAt x pair k) → (x.tick pair).driven = x.driven + j + 1 := by
  cases hfirst : firstDifference (x.compared.drop x.driven) (pair.take Config.halvesPerTick) with
  | none =>
    have hall := firstDifference_of_none hfirst
    have hnone : ∀ j, j < 4 → ¬ DiffersAt x pair j := fun j hj h => by
      obtain ⟨a, b, ha, hb, hab⟩ := (differsAt_iff hj).mp h
      exact hab (hall j a b ha hb)
    have htick : x.tick pair = { x with driven := min (x.driven + Config.halvesPerTick) (x.drive.length - 1) } := by
      simp [Transmission.tick, hc, hd, hfirst]
    rw [htick]
    exact ⟨⟨fun h => absurd (hd.symm.trans h) nofun, fun ⟨j, hj, h⟩ => absurd h (hnone j hj)⟩, fun _ => rfl,
      fun j hj h => absurd h (hnone j hj)⟩
  | some place =>
    obtain ⟨⟨a, b, ha, hb, hab⟩, hbefore⟩ := firstDifference_of_some hfirst
    have hplace : place < 4 := by
      obtain ⟨hlt, -⟩ := List.getElem?_eq_some_iff.mp hb
      exact Nat.lt_of_lt_of_le hlt (List.length_take_le _ _)
    have hdiffers : DiffersAt x pair place := (differsAt_iff hplace).mpr ⟨a, b, ha, hb, hab⟩
    have htick : x.tick pair = { x with driven := x.driven + place + 1, differed := true } := by
      simp [Transmission.tick, hc, hd, hfirst]
    rw [htick]
    refine ⟨⟨fun _ => ⟨place, hplace, hdiffers⟩, fun _ => rfl⟩, nofun, fun j hj h hfirstj => ?_⟩
    obtain hlt | rfl | hgt := Nat.lt_trichotomy j place
    · obtain ⟨a', b', ha', hb', hab'⟩ := (differsAt_iff hj).mp h
      exact absurd (hbefore j hlt a' b' ha' hb') hab'
    · rfl
    · exact absurd hdiffers (hfirstj place hgt)

theorem tick_of_stopped {x : Transmission} (pair : List Bool) (h : x.complete = true ∨ x.differed = true) :
    x.tick pair = x := by
  rcases h with h | h <;> simp [Transmission.tick, h]

/-! ### The state a tick leaves (R86) -/

/-- The state of a tick before its strobes and its SYNC. -/
def tickedState (s : State) : State := advanceCounter (tickTimers (takePins s))

theorem exec_tick (s : State) : exec .tick s = .next (tickState s) := rfl

theorem tickState_eq (s : State) : tickState s = syncTick s.tmu.time s.tickAdvance
    (strobeTick .stb s.tmu.time s.tickAdvance (strobeTick .sta s.tmu.time s.tickAdvance (tickedState s))) := rfl

/-- What of a tick's state the strobes and the SYNC slot leave as the timers and the counter left it. -/
theorem tickState_fields (s : State) : (tickState s).bau = (tickedState s).bau
    ∧ (tickState s).txs.lateTimer = (tickedState s).txs.lateTimer
    ∧ (tickState s).txs.undeliverableTimer = (tickedState s).txs.undeliverableTimer
    ∧ (tickState s).rxp = (tickedState s).rxp ∧ (tickState s).ptb = (tickedState s).ptb
    ∧ (tickState s).src = (tickedState s).src ∧ (tickState s).sec = (tickedState s).sec
    ∧ (tickState s).alu = (tickedState s).alu ∧ (tickState s).cpt = (tickedState s).cpt
    ∧ (tickState s).stl = (tickedState s).stl ∧ (tickState s).counters = (tickedState s).counters
    ∧ (tickState s).pins = (tickedState s).pins ∧ (tickState s).pinsAhead = (tickedState s).pinsAhead
    ∧ (tickState s).pending = (tickedState s).pending := by
  simp [tickState_eq]

theorem tickState_tmu (s : State) : (tickState s).tmu.time = (tickedState s).tmu.time
    ∧ (tickState s).tmu.residue = (tickedState s).tmu.residue ∧ (tickState s).tmu.rate = (tickedState s).tmu.rate
    ∧ (tickState s).tmu.integral = (tickedState s).tmu.integral ∧ (tickState s).tmu.servo = (tickedState s).tmu.servo
    ∧ (tickState s).tmu.everLocked = (tickedState s).tmu.everLocked
    ∧ (tickState s).tmu.settings = (tickedState s).tmu.settings ∧ (tickState s).tmu.label = (tickedState s).tmu.label
    ∧ (tickState s).tmu.lastRef = (tickedState s).tmu.lastRef
    ∧ (tickState s).tmu.lastError = (tickedState s).tmu.lastError
    ∧ (tickState s).tmu.gateOpen = (tickedState s).tmu.gateOpen
    ∧ (tickState s).tmu.holdoverTimer = (tickedState s).tmu.holdoverTimer := by
  simp [tickState_eq]

theorem syncTick_slots (before : FullTime) (advance : Int) (s : State) : (syncTick before advance s).txs.slots =
    if s.syncDue && crosses before advance Config.syncIntervalNs 0
      then { s.txs.slots with sync := s.txs.slots.sync.requested } else s.txs.slots := by
  unfold syncTick
  split <;> rfl

theorem tickState_slots (s : State) : (tickState s).txs.slots =
    if s.syncDue && crosses s.tmu.time s.tickAdvance Config.syncIntervalNs 0
      then { s.txs.slots with sync := s.txs.slots.sync.requested } else s.txs.slots := by
  have hdue : ∀ g t, (strobeTick g s.tmu.time s.tickAdvance t).syncDue = t.syncDue := fun g t => by simp [State.syncDue]
  have hslots : ∀ g t, (strobeTick g s.tmu.time s.tickAdvance t).txs.slots = t.txs.slots := fun g t => by simp
  rw [tickState_eq, syncTick_slots, hdue, hdue, hslots, hslots]
  rfl

theorem tickedState_input (s : State) (n : Fin 8) :
    (tickedState s).input n = (s.input n).sample (s.pinsNext.inputsHigh.getLsbD n.val) :=
  forall_fin_eight (P := fun n => (tickedState s).input n = (s.input n).sample (s.pinsNext.inputsHigh.getLsbD n.val))
    ⟨rfl, rfl, rfl, rfl, rfl, rfl, rfl, rfl⟩ n

/-- A tick's correction lies within ±64 of nothing while residue and rate word are in their ranges (R86). -/
theorem tickUnits_range {residue rate : Int} (h0 : 0 ≤ residue) (hresidue : residue < 2097152)
    (hlow : -134217728 ≤ rate) (hhigh : rate ≤ 134217728) :
    524224 ≤ 524288 + (residue + rate) / 2097152 ∧ 524288 + (residue + rate) / 2097152 ≤ 524352 := by
  omega

/-- Settles O18: what `tickedState` holds, field by field, and what of it the strobes and the SYNC slot leave. -/
theorem tickAdvancesTime : Obligations.TickAdvancesTime := by
  unfold Obligations.TickAdvancesTime
  intro s
  obtain ⟨hbau, hlate, hund, hrxp, hptb, hsrc, hsec, halu, hcpt, hstl, hcounters, hpins, hahead, hpending⟩ :=
    tickState_fields s
  obtain ⟨htime, hresidue, hrate, hintegral, hservo, hever, hsettings, hlabel, href, herror, hgate, hhold⟩ :=
    tickState_tmu s
  have hinput : ∀ n, (tickState s).input n = (s.input n).sample (s.pinsNext.inputsHigh.getLsbD n.val) := fun n => by
    rw [State.input, halu]
    exact tickedState_input s n
  have htx : (tickState s).bau.tx = s.bau.tx.map (Transmission.tick s.pinsNext.pair) := by rw [hbau]; rfl
  have hreply : (tickState s).bau.reply = s.bau.reply.bind ReplyDrive.tick := by rw [hbau]; rfl
  have hpinsNow : (tickState s).pins = s.pinsNext := hpins
  have hnonneg : 0 ≤ ((s.tmu.residue : Int) + s.tmu.rate) % 2097152 := Int.emod_nonneg _ (by decide)
  refine ⟨tickState s, exec_tick s, htime, ?residue, hrate, hintegral, hservo, hever, hsettings, hlabel, href, herror,
    hgate, ?bau, fun h => by rw [htx, h]; rfl, fun x hx hstop => ?stopped, fun x hx hc hd => ?sending,
    fun h => by rw [hreply, h]; rfl, fun r hr hidle => ?idle, fun r hr hdriving => ?driving, hpinsNow, hahead,
    ?seat, ?eject, ?pgood, ?alert, ?hold, ?crst, fun n => ?inputs, hlate, hund, hhold, hsrc, ?sec, ?alu,
    fun i => ?peer, ?slots, ?cpt, ?stl, ?same,
    fun hr hlow hhigh => tickUnits_range (Int.natCast_nonneg _) (by omega) hlow hhigh⟩
  case residue =>
    rw [hresidue]
    exact Int.toNat_of_nonneg hnonneg
  case bau => rw [hbau]; rfl
  case stopped => rw [htx, hx, Option.map_some, tick_of_stopped _ hstop]
  case sending =>
    refine ⟨x.tick s.pinsNext.pair, by rw [htx, hx]; rfl, tick_fields _ _, ?_⟩
    rw [hpinsNow]
    exact tick_of_sending _ hc hd
  case idle => rw [hreply, hr]; simp [ReplyDrive.tick, hidle]
  case driving => rw [hreply, hr]; simp [ReplyDrive.tick, hdriving, Config.bitsPerTick]
  case seat => rw [hpinsNow, hsec]; exact Conditioner.sample_sampled _ _ _ _
  case eject => rw [hpinsNow, hsec]; exact Conditioner.sample_sampled (Config.ms 20) (Config.ms 20) _ _
  case pgood => rw [hpinsNow, hsec]; exact Conditioner.sample_sampled _ _ _ _
  case alert => rw [hpinsNow, halu]; exact Synchronised.sample_sampled _ _ _
  case hold => rw [hpinsNow, hcpt]; exact Synchronised.sample_sampled _ _ _
  case crst => rw [hpinsNow, hcpt]; exact Synchronised.sample_sampled _ _ _
  case inputs =>
    rw [hinput, hpinsNow]
    refine ⟨rfl, ?_⟩
    have hcount := filterCount_sampled (Config.ms (s.input n).settings.debounceMs)
      (((s.input n).stage == (s.input n).settings.activeHigh) == (s.input n).asserted) (s.input n).count
    rw [beq_iff_eq] at hcount
    exact hcount
  case sec => rw [hsec]; rfl
  case alu => rw [halu]; rfl
  case peer =>
    rw [State.peer, hptb]
    simp [tickedState, advanceCounter, tickTimers, mapVector, State.peer, PeerEntry.tick]
    exact ⟨rfl, rfl⟩
  case slots =>
    rw [tickState_slots]
    congr 1
    simp [State.syncDue, crosses, Config.syncIntervalNs, Config.unitsPerNs, and_assoc]
    exact fun _ _ _ => Iff.rfl
  case cpt => rw [hcpt]; rfl
  case stl => rw [hstl, hpinsNow]; rfl
  case same =>
    simp only [sameOutside_iff, List.mem_cons, true_or, or_true, true_and]
    exact ⟨.inr hrxp, .inr hcounters, .inr hpending⟩

end Sys2Proof.Machine
end

section
/-! Strobe pulses (R96), the reference edge and SYNC samples (R91, R111 to R121), with what the servo counts, and what a
good frame of any kind leaves that has no transition of its own (R65 to R68). -/

namespace Sys2Proof.Machine

open Sys2Proof

variable {s : State}

/-! ### Strobes (R96) -/

theorem strobeTick_of_crossing {g : Strobe} {before : FullTime} {advance : Int}
    (h : s.tmu.gateOpen = true ∧ crosses before advance (periodNs (s.tmu.strobe g).settings.period)
      (s.tmu.strobe g).settings.offset = true) : strobeTick g before advance s = startPulse g s := by
  simp [strobeTick, h]

theorem strobeTick_of_not_crossing {g : Strobe} {before : FullTime} {advance : Int}
    (h : ¬ (s.tmu.gateOpen = true ∧ crosses before advance (periodNs (s.tmu.strobe g).settings.period)
      (s.tmu.strobe g).settings.offset = true)) : strobeTick g before advance s = s := by
  simp [strobeTick, h]

@[simp] theorem strobe_setStrobe (m : Tmu) (g : Strobe) (x : StrobeGen) : (m.setStrobe g x).strobe g = x := by
  cases g <;> rfl

theorem strobe_setStrobe_ne (m : Tmu) {g h : Strobe} (x : StrobeGen) (hne : h ≠ g) :
    (m.setStrobe g x).strobe h = m.strobe h := by
  cases g with
  | sta => cases h with
    | sta => exact absurd rfl hne
    | stb => rfl
  | stb => cases h with
    | sta => rfl
    | stb => exact absurd rfl hne

theorem startPulse_tmu (g : Strobe) (s : State) : (startPulse g s).tmu =
    s.tmu.setStrobe g { s.tmu.strobe g with output := true, left := (s.tmu.strobe g).settings.width } := by
  simp [startPulse, releaseOn, State.setQueue]

/-- A generator's tick moves no other generator. -/
theorem strobeTick_strobe_ne {g h : Strobe} (hne : h ≠ g) (before : FullTime) (advance : Int) (s : State) :
    (strobeTick g before advance s).tmu.strobe h = s.tmu.strobe h := by
  unfold strobeTick
  dsimp only
  split
  · rw [startPulse_tmu, strobe_setStrobe_ne _ _ hne]
  · rfl

/-- The entries a strobe releases stay released. -/
def ReleasedOn (g : Strobe) (s : State) : Prop :=
  ∀ e, e ∈ s.queue .deadline → e.release = some g → e.released = true

theorem releasedOn_startPulse (g : Strobe) (s : State) : ReleasedOn g (startPulse g s) := by
  intro e he hg
  rw [startPulse, releaseOn, State.queue_setQueue, List.mem_map] at he
  obtain ⟨x, -, rfl⟩ := he
  split at hg
  next hx => rw [if_pos hx]
  next hx => exact absurd hg hx

theorem ReleasedOn.strobeTick {g : Strobe} (h : ReleasedOn g s) (g' : Strobe) (before : FullTime) (advance : Int) :
    ReleasedOn g (strobeTick g' before advance s) := by
  unfold Machine.strobeTick
  dsimp only
  split
  · intro e he hg
    rw [startPulse, releaseOn, State.queue_setQueue, List.mem_map] at he
    obtain ⟨x, hx, rfl⟩ := he
    split at hg
    next hmatch => rw [if_pos hmatch]
    next hmatch =>
      rw [if_neg hmatch]
      exact h x hx hg
  · exact h

theorem tickedState_strobe (g : Strobe) (s : State) : (tickedState s).tmu.strobe g = (s.tmu.strobe g).tick := by
  cases g <;> rfl

@[simp] theorem StrobeGen.tick_settings (x : StrobeGen) : x.tick.settings = x.settings := by
  unfold StrobeGen.tick
  split <;> rfl

/-- A generator and the entries waiting on it, after a tick in which it alone may start a pulse. -/
theorem strobeTick_strobe {g : Strobe} {before : FullTime} {advance : Int} {x : StrobeGen}
    (hx : s.tmu.strobe g = x.tick) :
    (s.tmu.gateOpen = true ∧ crosses before advance (periodNs x.settings.period) x.settings.offset = true →
        (strobeTick g before advance s).tmu.strobe g = { x with output := true, left := x.settings.width }
          ∧ ReleasedOn g (strobeTick g before advance s))
      ∧ (¬ (s.tmu.gateOpen = true ∧ crosses before advance (periodNs x.settings.period) x.settings.offset = true) →
        (strobeTick g before advance s).tmu.strobe g = x.tick) := by
  have hsettings : (s.tmu.strobe g).settings = x.settings := by rw [hx, StrobeGen.tick_settings]
  refine ⟨fun hcross => ?_, fun hquiet => ?_⟩
  · rw [strobeTick_of_crossing (by rwa [hsettings]), startPulse_tmu, strobe_setStrobe]
    refine ⟨?_, releasedOn_startPulse g s⟩
    rw [hx]
    unfold StrobeGen.tick
    split <;> rfl
  · rw [strobeTick_of_not_crossing (by rwa [hsettings]), hx]

theorem strobePulseEnd_eq (g : Strobe) (s : State) : exec (.strobePulseEnd g) s =
    .next (if (s.tmu.strobe g).left = 0 then { s with tmu := s.tmu.setStrobe g (s.tmu.strobe g).low } else s) := rfl

theorem low_of_left_zero {x : StrobeGen} (h : x.left = 0) : x.low = { x with output := false } := by
  simp [StrobeGen.low, h]

/-- Settles O19. -/
theorem strobePulses : Obligations.StrobePulses := by
  unfold Obligations.StrobePulses
  refine ⟨fun g s t hstep => ?_, fun s h => ?_, fun s h => ?_, fun g s h => ?_⟩
  · obtain rfl : tickState s = t := by simpa [exec_tick] using hstep
    have hsync : ∀ u, (syncTick s.tmu.time s.tickAdvance u).tmu = u.tmu
        ∧ (syncTick s.tmu.time s.tickAdvance u).queue .deadline = u.queue .deadline := fun u => by simp [State.queue]
    have hgate : ∀ u, (strobeTick .sta s.tmu.time s.tickAdvance u).tmu.gateOpen = u.tmu.gateOpen := fun u => by simp
    rw [tickState_eq]
    simp only [(hsync _).1, (hsync _).2]
    cases g with
    | sta =>
      obtain ⟨hcrossing, hquiet⟩ :=
        strobeTick_strobe (before := s.tmu.time) (advance := s.tickAdvance) (tickedState_strobe .sta s)
      rw [strobeTick_strobe_ne (h := .sta) (g := .stb) nofun]
      split
      next h => exact ⟨(hcrossing h).1, (hcrossing h).2.strobeTick _ _ _⟩
      next h => exact hquiet h
    | stb =>
      obtain ⟨hcrossing, hquiet⟩ := strobeTick_strobe (before := s.tmu.time) (advance := s.tickAdvance)
        (s := strobeTick .sta s.tmu.time s.tickAdvance (tickedState s))
        ((strobeTick_strobe_ne (h := .stb) (g := .sta) nofun _ _ _).trans (tickedState_strobe .stb s))
      rw [hgate] at hcrossing hquiet
      split
      next h => exact hcrossing h
      next h => exact hquiet h
  · rw [strobePulseEnd_eq, if_pos (show (s.tmu.strobe .sta).left = 0 from h), low_of_left_zero (x := s.tmu.strobe .sta) h]
    rfl
  · rw [strobePulseEnd_eq, if_pos (show (s.tmu.strobe .stb).left = 0 from h), low_of_left_zero (x := s.tmu.strobe .stb) h]
    rfl
  · rw [strobePulseEnd_eq, if_neg h]

/-! ### What the servo counts -/

@[simp] theorem purgeTimeLost_counters (s : State) : (purgeTimeLost s).counters = s.counters := by
  simp [purgeTimeLost, purgeQueue, countResults, resultCounter]

@[simp] theorem reevaluate_counters (before : Bool) (s : State) : (reevaluate before s).counters = s.counters := by
  unfold reevaluate
  split
  · rfl
  · split <;> simp [shutGate]

@[simp] theorem setServo_counters (v : Servo) (s : State) : (setServo v s).counters = s.counters := by
  unfold setServo
  split <;> simp

theorem enterAcquire_counters (s : State) : (enterAcquire s).counters = s.counters := by simp [enterAcquire]

theorem leaveHoldover_counters (s : State) : (leaveHoldover s).counters = s.counters := by simp [leaveHoldover]

theorem CountersSame.trans {l : List CounterId} {s t u : State} (h : CountersSame l s t) (h' : CountersSame l t u) :
    CountersSame l s u := fun i hi => (h' i hi).trans (h i hi)

theorem countersSame_of_eq {l : List CounterId} {s t : State} (h : t.counters = s.counters) : CountersSame l s t :=
  fun i _ => counter_congr h i

theorem servoUpdate_countersSame (e f : Int) (s : State) :
    CountersSame [.raisesDropped, .evictions] s (servoUpdate e f s) := by
  unfold servoUpdate countClamp
  dsimp only
  split
  · split
    · exact countersSame_of_eq rfl
    · split
      · exact raiseKey_countersSame _ _ _
      · exact countersSame_of_eq rfl
  · exact countersSame_of_eq (by simp)

/-- A sample counts steps and outliers, and what a full alarm table loses. -/
theorem acquireSample_countersSame (e f : Int) (s : State) :
    CountersSame [.steps, .raisesDropped, .evictions] s (acquireSample e f s) := by
  intro i hi
  obtain ⟨hsteps, hlost⟩ : i ≠ .steps ∧ i ∉ [CounterId.raisesDropped, CounterId.evictions] := by simpa using hi
  have hupdate := servoUpdate_countersSame e f s i hlost
  unfold acquireSample
  split
  · dsimp only
    generalize (if within e s.tmu.settings.lockThreshold then _ else 0 : Nat) = n
    split
    · exact (counter_congr (by simp [reachLocked]) i).trans hupdate
    · exact hupdate
  · exact (counter_bump .steps i _).trans (if_neg hsteps)

theorem judgeSample_countersSame (e f : Int) (s : State) :
    CountersSame [.steps, .outliers, .raisesDropped, .evictions] s (judgeSample e f s) := by
  have hwiden : ∀ {l : List CounterId} {t u : State}, (∀ i, i ∈ l → i ∈ [CounterId.steps, .outliers, .raisesDropped, .evictions]) →
      CountersSame l t u → CountersSame [.steps, .outliers, .raisesDropped, .evictions] t u :=
    fun hl h i hi => h i fun hmem => hi (hl i hmem)
  have hacquire : ∀ t, CountersSame [.steps, .outliers, .raisesDropped, .evictions] t (acquireSample e f t) :=
    fun t => hwiden (by simp) (acquireSample_countersSame e f t)
  have hupdate : ∀ t, CountersSame [.steps, .outliers, .raisesDropped, .evictions] t (servoUpdate e f t) :=
    fun t => hwiden (by simp) (servoUpdate_countersSame e f t)
  unfold judgeSample
  split
  · exact (countersSame_of_eq (enterAcquire_counters s)).trans (hacquire _)
  · exact hacquire s
  · split
    · exact hupdate s
    · have houtlier : CountersSame [.steps, .outliers, .raisesDropped, .evictions] s
          (bump .outliers { s with tmu := { s.tmu with outlierCount := s.tmu.outlierCount + 1 } }) := fun i hi => by
        refine (counter_bump .outliers i _).trans (if_neg ?_)
        rintro rfl
        simp at hi
      unfold outlierSample
      dsimp only
      split
      · exact houtlier.trans ((countersSame_of_eq (enterAcquire_counters _)).trans (hacquire _))
      · exact houtlier
  · split
    · exact (countersSame_of_eq (leaveHoldover_counters s)).trans ((countersSame_of_eq (setServo_counters _ _)).trans (hupdate _))
    · exact (countersSame_of_eq (leaveHoldover_counters s)).trans
        ((countersSame_of_eq (enterAcquire_counters _)).trans (hacquire _))

/-- A sample formed is counted once, whatever the servo does with it (R113). -/
theorem takeSample_counted (e : Int) (kind : SampleKind) (s : State) : Counted .samples s (takeSample e kind s) := by
  refine (judgeSample_countersSame e _ _ .samples (by simp)).trans ?_
  exact (counter_bump .samples .samples _).trans (if_pos rfl)

theorem takeSample_lastError (e : Int) (kind : SampleKind) (s : State) :
    (takeSample e kind s).tmu.lastError = some (e, kind) := by
  simp [takeSample]

/-! ### The reference edge (R91, R93) -/

theorem reportDrained_counted {i : CounterId} {t : State} (h : Counted i s t) : Counted i s (reportDrained t) :=
  (counter_congr (by simp) i).trans h

@[simp] theorem useLabel_label (s : State) : (useLabel s).tmu.label = none := by
  unfold useLabel
  split
  · rfl
  next hnone => simpa using hnone

/-- Settles O20. -/
theorem refEdgeTaken : Obligations.RefEdgeTaken := by
  unfold Obligations.RefEdgeTaken
  refine ⟨fun k s hrole hlaw => ?_, fun k s hrole => ?_⟩
  · have hedge : refEdge k s = { s with tmu := { s.tmu with lastRef := some (s.stamp k) } } := by simp [refEdge, hrole]
    refine congrArg Host.Outcome.next ?_
    rw [hedge]
    exact reportDrained_of_lawDrained hlaw rfl rfl rfl rfl
  · have hedge : refEdge k s = takeReference (s.stamp k) { s with tmu := { s.tmu with lastRef := some (s.stamp k) } } := by
      simp [refEdge, hrole]
    refine ⟨reportDrained (refEdge k s), rfl, ?_, ?_, ?_, ?_, reportDrained_counted ?_, ?_⟩
    · rw [hedge]; simp
    · rw [hedge]; simp [takeReference, takeSample, judgeSample_frame]
    · rw [hedge]; simp [takeReference, takeSample_lastError, State.labelFor]
    · rw [hedge]; simp [takeReference, Config.ms]; rfl
    · rw [hedge]
      exact (takeSample_counted _ _ _).trans (congrArg (satAdd · 1) (counter_congr (by simp) .samples))
    · simp [sameOutside_iff]

end Sys2Proof.Machine
end

section
/-! Good frames from a peer whose state they leave (R65 to R68): what the bus and the sender's entry take of any of them,
then SYNC that gives no sample (R111), ANNOUNCE (R104), SUMMARY and READY (R78, R79), and DATA (R47 to R54). -/

namespace Sys2Proof.Machine

open Sys2Proof

variable {s t : State} {i : Slot} {k : FrameKind} {body : List Byte} {stamp : FullTime}

/-! ### What any good frame leaves before its kind acts on the body (R6, R16, R65) -/

/-- The state once the bus and the sender's entry have taken a frame. -/
def heardFrom (i : Slot) (k : FrameKind) (body : List Byte) (s : State) : State := updateEntry i k body (heardState s i)

/-- An entry that took a frame: its age and FRAMES (R65). -/
def PeerEntry.heard (e : PeerEntry) : PeerEntry := { e with age := some 0, frames := satAdd e.frames 1 }

/-- A kind of frame that has no transition of its own. -/
def FrameKind.plain (k : FrameKind) : Prop := k ≠ .join ∧ k ≠ .withdraw ∧ k ≠ .gone

theorem heardFrom_frame (i : Slot) (k : FrameKind) (body : List Byte) (s : State) :
    (heardFrom i k body s).bau = heardBus s i ∧ (heardFrom i k body s).rxp = s.rxp ∧ (heardFrom i k body s).tmu = s.tmu
      ∧ (heardFrom i k body s).src = s.src ∧ (heardFrom i k body s).sec = s.sec ∧ (heardFrom i k body s).alu = s.alu
      ∧ (heardFrom i k body s).stl = s.stl ∧ (heardFrom i k body s).pins = s.pins
      ∧ (heardFrom i k body s).pinsAhead = s.pinsAhead ∧ (heardFrom i k body s).pending = s.pending := by
  simp [heardFrom, heardState]

theorem heardFrom_onlyEventsPlaced (i : Slot) (k : FrameKind) (body : List Byte) (s : State) :
    OnlyEventsPlaced s (heardFrom i k body s) :=
  onlyEventsPlaced_trans (heardState_onlyEventsPlaced s i) (updateEntry_onlyEventsPlaced _ _ _ _)

theorem heardFrom_ownSlot (i : Slot) (k : FrameKind) (body : List Byte) (s : State) :
    (heardFrom i k body s).ownSlot = s.ownSlot ∧ (heardFrom i k body s).cabinet = s.cabinet := by
  obtain ⟨-, -, -, -, -, -, hstl, -⟩ := heardFrom_frame i k body s
  simp [State.ownSlot, State.cabinet, hstl]

/-- The entries after a frame from a slot that it does not restart. -/
theorem heardFrom_peer_of_no_restart (hr : restarts k (s.peer i).state = false) (j : Slot) :
    (heardFrom i k body s).peer j = if j = i then
      { (s.peer i).heard.recorded s.cabinet k body with state := stateAfter k (s.peer i).state } else s.peer j := by
  have hcab : (heardState s i).cabinet = s.cabinet := by simp [State.cabinet, heardState]
  rw [heardFrom, updateEntry_peer, heardState_peer, heardState_peer, hr, hcab]
  rfl

theorem heardFrom_quiet_of_no_restart (hr : restarts k (s.peer i).state = false) :
    (heardFrom i k body s).txs = s.txs ∧ (heardFrom i k body s).counters = (bump .framesHeard s).counters := by
  have hr' : restarts k ((heardState s i).peer i).state = false := by rwa [heardState_peer]
  obtain ⟨htxs, hcounters⟩ := updateEntry_no_restart i k body (heardState s i) hr'
  exact ⟨htxs.trans (by simp [heardState]), hcounters.trans rfl⟩

section
variable (hk : k.plain) (hp : (s.peer i).state = .present ∨ (s.peer i).state = .draining)
include hk hp

theorem heardFrom_peer (j : Slot) : (heardFrom i k body s).peer j = if j = i then (s.peer i).heard else s.peer j := by
  obtain ⟨hstate, hrestart⟩ := stateAfter_stays hk hp
  rw [heardFrom_peer_of_no_restart hrestart, hstate]
  obtain ⟨hjoin, hwithdraw, hgone⟩ := hk
  cases k with
  | join => exact absurd rfl hjoin
  | withdraw => exact absurd rfl hwithdraw
  | gone => exact absurd rfl hgone
  | _ => rfl

theorem heardFrom_quiet :
    (heardFrom i k body s).txs = s.txs ∧ (heardFrom i k body s).counters = (bump .framesHeard s).counters :=
  heardFrom_quiet_of_no_restart (stateAfter_stays hk hp).2

theorem heardFrom_sameOutside : SameOutside [.bau, .ptb, .cpt, .counters] s (heardFrom i k body s) := by
  obtain ⟨-, hrxp, htmu, hsrc, hsec, halu, hstl, hpins, hahead, hpending⟩ := heardFrom_frame i k body s
  simp [sameOutside_iff, hrxp, htmu, hsrc, hsec, halu, hstl, hpins, hahead, hpending, (heardFrom_quiet hk hp).1]

theorem heardFrom_counter (j : CounterId) : (heardFrom i k body s).counter j =
    if j = .framesHeard then satAdd (s.counter .framesHeard) 1 else s.counter j :=
  (counter_congr (heardFrom_quiet hk hp).2 j).trans (counter_bump .framesHeard j s)

/-- A frame that moves no entry's state hands nothing on: its kind acts on the body, and drained is reported (R67). -/
theorem hearFrame_of_stays (hh : Hearing s i stamp) {act : FullTime → State → State}
    (hact : ∀ t, PeerStatesSame t (act stamp t)) :
    hearFrame i k body act s = reportDrained (act stamp (heardFrom i k body s)) := by
  have hrestart := (stateAfter_stays hk hp).2
  have hsame : ((act stamp (heardFrom i k body s)).peer i).state = (s.peer i).state := by
    rw [hact, heardFrom_peer hk hp, if_pos rfl]
    rfl
  rw [← heardState_peer s i] at hrestart hsame
  rw [hearFrame_of_hearing hh, hearPeer_of_stays hrestart hsame]
  rfl

end

/-- A drained report finds nothing new where the queues, the pair and the seating state are as they were. -/
theorem reportDrained_of_same (h : LawDrained s) (htxs : t.txs = s.txs) (hsec : t.sec.state = s.sec.state)
    (htx : t.bau.tx = s.bau.tx) : reportDrained t = t :=
  reportDrained_of_lawDrained h hsec (by rw [htxs]) (by simp only [State.queued, State.queue, htxs]) htx

@[simp] theorem reportDrained_peer (t : State) (j : Slot) : (reportDrained t).peer j = t.peer j := by simp [State.peer]

@[simp] theorem reportDrained_counter (t : State) (j : CounterId) : (reportDrained t).counter j = t.counter j :=
  counter_congr (by simp) j

@[simp] theorem bump_peer (c : CounterId) (t : State) (j : Slot) : (bump c t).peer j = t.peer j := by simp [State.peer]

theorem otherPeersSame_iff : OtherPeersSame i s t ↔ ∀ j, j ≠ i → t.peer j = s.peer j := Iff.rfl

/-! ### A SYNC that forms no sample (R100, R111) -/

theorem takeSync_of_ignored {transmit : Nat}
    (h : s.ownSlot = none ∨ s.src.role = .source ∨ s.src.selection ≠ some i) :
    takeSync i transmit stamp s = bump .syncsIgnored s := by
  unfold takeSync
  cases hown : s.ownSlot with
  | none => rfl
  | some own =>
    refine if_neg fun ⟨hrole, hsel⟩ => ?_
    rcases h with h | h | h
    · exact absurd (hown.symm.trans h) nofun
    · exact absurd (hrole.symm.trans h) nofun
    · exact h hsel

/-- Settles O22. -/
theorem syncIgnored : Obligations.SyncIgnored := by
  unfold Obligations.SyncIgnored
  intro i body stamp s hh hignored hp
  have hk : FrameKind.sync.plain := ⟨nofun, nofun, nofun⟩
  obtain ⟨hbau, hrxp, htmu, hsrc, hsec, halu, hstl, hpins, hahead, hpending⟩ := heardFrom_frame i .sync body s
  have htake : takeSync i (syncTime body) stamp (heardFrom i .sync body s)
      = bump .syncsIgnored (heardFrom i .sync body s) := by
    apply takeSync_of_ignored
    rw [(heardFrom_ownSlot i .sync body s).1, hsrc]
    exact hignored
  have hframe : hearFrame i .sync body (fun stamp => takeSync i (syncTime body) stamp) s
      = reportDrained (bump .syncsIgnored (heardFrom i .sync body s)) := by
    rw [hearFrame_of_stays hk hp hh fun t => peerStatesSame_of_ptb (by simp), htake]
  refine ⟨_, congrArg Host.Outcome.next hframe, ?_, ?_, fun j hj => ?_, by simp [hbau], ?_, fun j hj => ?_, ?_, ?_⟩
  · simp [Counted, counter_bump, heardFrom_counter hk hp]
  · simp [Counted, counter_bump, heardFrom_counter hk hp]
  · simp only [List.mem_cons, List.not_mem_nil, or_false, not_or] at hj
    simp [counter_bump, heardFrom_counter hk hp, hj]
  · simp [heardFrom_peer hk hp, PeerEntry.heard]
  · simp [heardFrom_peer hk hp, hj]
  · exact onlyEventsPlaced_trans (heardFrom_onlyEventsPlaced i .sync body s)
      (onlyEventsPlaced_of_fields (by simp) fun _ he => by simpa using bump_events _ _ he)
  · simp [sameOutside_iff, hrxp, htmu, hsrc, hsec, halu, hstl, hpins, hahead, hpending]

/-! ### ANNOUNCE (R104, R106) -/

/-- The table an ANNOUNCE of a quality below 3 leaves is the one with the sender's entry put in. -/
theorem takePresentAnnounce_table {quality : Fin 4} (hq : quality.val ≠ 3) (priority : Byte) (s : State) :
    (takePresentAnnounce i quality priority s).src.table =
      putSource { slot := i, quality := quality, priority := priority, age := some 0 } s.src.table := by
  rw [takePresentAnnounce, if_neg hq]
  dsimp only
  split
  · simp [State.setTable]
  · split <;> simp [State.setTable]

/-- The entries of the source table after an ANNOUNCE: quality 3 removes the sender's (R104). -/
theorem takePresentAnnounce_findSource (i j : Slot) (quality : Fin 4) (priority : Byte) (s : State) :
    findSource j (takePresentAnnounce i quality priority s).src.table = if j = i then
      (if quality.val = 3 then none else some { slot := i, quality := quality, priority := priority, age := some 0 })
      else findSource j s.src.table := by
  by_cases hq : quality.val = 3
  · simp [takePresentAnnounce, hq, dropSource_findSource]
  · rw [takePresentAnnounce_table hq, findSource_putSource, if_neg hq]

theorem takeAnnounce_of_present {quality : Fin 4} {priority : Byte} {own : Slot} (hown : s.ownSlot = some own)
    (hp : (s.peer i).state = .present) :
    takeAnnounce i quality priority s = takePresentAnnounce i quality priority s := by
  simp [takeAnnounce, hown, hp]

theorem takeAnnounce_of_not_present {quality : Fin 4} {priority : Byte} (hp : (s.peer i).state ≠ .present) :
    takeAnnounce i quality priority s = s := by
  simp [takeAnnounce, hp]

/-- Settles O43. -/
theorem announceHeard : Obligations.AnnounceHeard := by
  unfold Obligations.AnnounceHeard
  have hk : FrameKind.announce.plain := ⟨nofun, nofun, nofun⟩
  refine ⟨fun i own body stamp s hh hown hp hlaw => ?_, fun i body stamp s hh hp hdrained => ?_⟩
  · obtain ⟨hbau, hrxp, htmu, hsrc, hsec, halu, hstl, hpins, hahead, hpending⟩ := heardFrom_frame i .announce body s
    have hpeer := heardFrom_peer (body := body) hk (.inl hp)
    have htake : takeAnnounce i (announceQuality body) (announcePriority body) (heardFrom i .announce body s)
        = takePresentAnnounce i (announceQuality body) (announcePriority body) (heardFrom i .announce body s) := by
      refine takeAnnounce_of_present (own := own) ?_ ?_
      · rw [(heardFrom_ownSlot i .announce body s).1, hown]
      · rw [hpeer, if_pos rfl]
        exact hp
    have hframe : hearFrame i .announce body (fun _ => takeAnnounce i (announceQuality body) (announcePriority body)) s
        = reportDrained (takePresentAnnounce i (announceQuality body) (announcePriority body) (heardFrom i .announce body s)) := by
      rw [hearFrame_of_stays hk (.inl hp) hh fun t => peerStatesSame_of_ptb (by simp), htake]
    have hsources : LawSources (heardFrom i .announce body s) := lawSources_congr (by rw [hsrc]) (by rw [hsrc]) hlaw
    have hafter : LawSources (takePresentAnnounce i (announceQuality body) (announcePriority body) (heardFrom i .announce body s)) :=
      takePresentAnnounce_keeps (l := .sources) i _ _ hsources
    have hfind : ∀ j, findSource j (reportDrained (takePresentAnnounce i (announceQuality body) (announcePriority body)
        (heardFrom i .announce body s))).src.table = if j = i then (if (announceQuality body).val = 3 then none else
          some { slot := i, quality := announceQuality body, priority := announcePriority body, age := some 0 })
        else findSource j s.src.table := fun j => by
      simp only [reportDrained_frame, takePresentAnnounce_findSource, hsrc]
    have hpeerAfter : ∀ j, (reportDrained (takePresentAnnounce i (announceQuality body) (announcePriority body)
        (heardFrom i .announce body s))).peer j = if j = i then (s.peer i).heard else s.peer j := fun j => by
      rw [← hpeer]
      simp [State.peer]
    refine ⟨_, congrArg Host.Outcome.next hframe, by simp [hbau], ?_, fun j hj => ?_, fun hq => ?_, fun q hq hbyte => ?_,
      fun j hj => ?_, ?_, by simp [htmu], ?_⟩
    · rw [hpeerAfter, if_pos rfl, PeerEntry.heard]
    · rw [hpeerAfter, if_neg hj]
    · have hq3 : (announceQuality body).val = 3 := by rw [announceQuality, hq]; rfl
      rw [hfind, if_pos rfl, if_pos hq3]
    · have hquality : announceQuality body = q := by
        rw [announceQuality, hbyte]
        exact Fin.ext (by simp)
      rw [hfind, if_pos rfl, hquality, if_neg (by omega)]
      rfl
    · rw [hfind, if_neg hj]
    · obtain ⟨-, hselection⟩ := hafter
      simpa [LawSelection] using hselection
    · simp [sameOutside_iff, hrxp, hsec, hstl, hpins, hahead, hpending]
  · obtain ⟨hbau, -⟩ := heardFrom_frame i .announce body s
    have hpeer := heardFrom_peer (body := body) hk (.inr hp)
    have htake : takeAnnounce i (announceQuality body) (announcePriority body) (heardFrom i .announce body s)
        = heardFrom i .announce body s := by
      refine takeAnnounce_of_not_present ?_
      rw [hpeer, if_pos rfl]
      exact fun h => absurd (hp.symm.trans h) nofun
    have hframe : hearFrame i .announce body (fun _ => takeAnnounce i (announceQuality body) (announcePriority body)) s
        = heardFrom i .announce body s := by
      rw [hearFrame_of_stays hk (.inr hp) hh fun t => peerStatesSame_of_ptb (by simp), htake]
      exact reportDrained_of_same hdrained (heardFrom_quiet hk (.inr hp)).1 (by simp [heardFrom_frame]) (by rw [hbau]; rfl)
    exact ⟨_, congrArg Host.Outcome.next hframe, hbau, (hpeer i).trans (if_pos rfl), fun j hj => (hpeer j).trans (if_neg hj),
      heardFrom_sameOutside hk (.inr hp)⟩

end Sys2Proof.Machine
end

section
/-! DATA heard by the receive pool: a unicast frame that is a duplicate, stored or refused (R49 to R51), and a group frame
stored or dropped (R54). -/

namespace Sys2Proof.Machine

open Sys2Proof

variable {s t : State} {f : DataFrame} {stamp : FullTime}

/-! ### Counters and entries of the pool's operations -/

theorem lateMark_congr (htmu : t.tmu = s.tmu) (hsrc : t.src = s.src) (f : DataFrame) : t.lateMark f = s.lateMark f := by
  have hdue : t.duePassed = s.duePassed := funext fun d => by rw [State.duePassed, State.duePassed, htmu]
  simp [State.lateMark, State.timeValid, hdue, htmu, hsrc]

/-- A frame stored: the pool's fields (R50). -/
theorem storeFrame_rxp (f : DataFrame) (s : State) : (storeFrame f s).rxp =
    { s.rxp with frames := s.rxp.frames ++ [s.storedForm f], free := s.rxp.free - unitsFor f.payload.length } := by
  unfold storeFrame
  dsimp only
  split <;> simp [StoredFrame.units, State.storedForm]

/-- FRAMES STORED adds 1, and of a late frame LATE ARRIVALS (R53). -/
theorem storeFrame_counter (f : DataFrame) (s : State) (j : CounterId) : (storeFrame f s).counter j =
    if j = .framesStored then satAdd (s.counter .framesStored) 1
    else if j = .lateArrivals ∧ s.lateMark f = true then satAdd (s.counter .lateArrivals) 1 else s.counter j := by
  have hlate : (s.storedForm f).late = s.lateMark f := rfl
  have hcounter : ∀ r : Rxp, ∀ x, State.counter { s with rxp := r } x = s.counter x := fun _ _ => rfl
  unfold storeFrame
  dsimp only
  rw [hlate]
  split
  next h =>
    by_cases hj : j = .lateArrivals <;> simp [counter_bump, hcounter, h, hj]
  next h => simp [counter_bump, hcounter, h]

/-- GAP FRAMES after the gap of a frame is counted (R50). -/
theorem countGapOf_counter (f : DataFrame) (s : State) (j : CounterId) : (countGapOf f s).counter j =
    if j = .gapFrames then (match (s.peer f.source).sequence.get f.cls with
      | none => s.counter .gapFrames
      | some last => satAdd (s.counter .gapFrames) (f.sequence - last - 1).toNat)
    else s.counter j := by
  unfold countGapOf
  cases hlast : (s.peer f.source).sequence.get f.cls with
  | none => by_cases hj : j = .gapFrames <;> simp [hj]
  | some last =>
    by_cases hgap : gapOf f.sequence last = 0
    · have hzero : (f.sequence - last - 1).toNat = 0 := hgap
      by_cases hj : j = .gapFrames <;> simp only [hgap, hzero, hj, if_true, if_false, satAdd_zero]
    · simp only [hgap, if_false, counter_bumpBy]
      have hsame : ∀ x, (countGap f.source (gapOf f.sequence last) s).counter x = s.counter x :=
        fun x => counter_congr (by simp) x
      rw [hsame, hsame]
      rfl

/-- The gap counter of an entry's sender (R50). -/
def PeerEntry.gapsAfter (e : PeerEntry) (f : DataFrame) : Counter :=
  match e.sequence.get f.cls with
  | none => e.gaps
  | some last => satAdd e.gaps (f.sequence - last - 1).toNat

theorem signalIfSaturated_peer (o n : Counter) (s : State) (j : Slot) : (signalIfSaturated o n s).peer j = s.peer j := by
  simp [State.peer]

theorem countGapOf_peer (f : DataFrame) (s : State) (j : Slot) : (countGapOf f s).peer j =
    if j = f.source then { s.peer f.source with gaps := (s.peer f.source).gapsAfter f } else s.peer j := by
  unfold countGapOf
  rw [PeerEntry.gapsAfter]
  cases hlast : (s.peer f.source).sequence.get f.cls with
  | none => by_cases hj : j = f.source <;> simp [hj]
  | some last =>
    by_cases hgap : gapOf f.sequence last = 0
    · have hzero : (f.sequence - last - 1).toNat = 0 := hgap
      by_cases hj : j = f.source <;> simp only [hgap, hzero, hj, if_true, if_false, satAdd_zero]
    · have hpeer : ∀ u k, (bumpBy .gapFrames k u).peer j = u.peer j := fun u k => by simp [State.peer]
      simp only [hgap, if_false]
      rw [hpeer, countGap, signalIfSaturated_peer]
      by_cases hj : j = f.source
      · subst hj
        simp [gapOf]
      · simp [hj, State.peer_setPeer_ne]

theorem setAccepted_peer (i j : Slot) (c : CardClass) (n : Byte) (s : State) : (setAccepted i c n s).peer j =
    if j = i then { s.peer i with sequence := (s.peer i).sequence.set c (some n) } else s.peer j := by
  by_cases hj : j = i
  · subst hj
    simp [setAccepted]
  · simp [setAccepted, hj, State.peer_setPeer_ne]

theorem countDuplicate_peer (i j : Slot) (s : State) : (countDuplicate i s).peer j =
    if j = i then { s.peer i with duplicates := satAdd (s.peer i).duplicates 1 } else s.peer j := by
  rw [countDuplicate, signalIfSaturated_peer]
  by_cases hj : j = i
  · subst hj
    simp
  · simp [hj, State.peer_setPeer_ne]

/-! ### The unicast decision (R49 to R51) -/

theorem takeDuplicate_fields (f : DataFrame) (s : State) :
    (takeDuplicate f s).bau = { s.bau with reply := some { code := .accept, driving := false } }
      ∧ (∀ j, (takeDuplicate f s).peer j = if j = f.source then
          { s.peer f.source with duplicates := satAdd (s.peer f.source).duplicates 1 } else s.peer j)
      ∧ ∀ j, (takeDuplicate f s).counter j = if j = .duplicates then satAdd (s.counter .duplicates) 1 else s.counter j := by
  refine ⟨by simp [takeDuplicate, setReply], fun j => ?_, fun j => ?_⟩
  · have hpeer := countDuplicate_peer f.source j (bump .duplicates s)
    simp only [bump_peer] at hpeer
    exact hpeer
  · have hcounter : (takeDuplicate f s).counter j = (bump .duplicates s).counter j := counter_congr (by simp [takeDuplicate]) j
    rw [hcounter, counter_bump]

theorem acceptUnicast_fields (f : DataFrame) (s : State) :
    (acceptUnicast f s).bau = { s.bau with reply := some { code := .accept, driving := false } }
      ∧ (acceptUnicast f s).rxp = { s.rxp with
          frames := s.rxp.frames ++ [s.storedForm f], free := s.rxp.free - unitsFor f.payload.length }
      ∧ (∀ j, (acceptUnicast f s).peer j = if j = f.source then
          { s.peer f.source with
              gaps := (s.peer f.source).gapsAfter f
              sequence := (s.peer f.source).sequence.set f.cls (some f.sequence) } else s.peer j)
      ∧ ∀ j, (acceptUnicast f s).counter j = (storeFrame f (countGapOf f s)).counter j := by
  have hstored : (countGapOf f s).storedForm f = s.storedForm f := by
    simp [State.storedForm, lateMark_congr (s := s) (t := countGapOf f s) (by simp) (by simp)]
  have hstorePeer : ∀ u j, (storeFrame f u).peer j = u.peer j := fun u j => by simp [State.peer]
  refine ⟨by simp [acceptUnicast, setReply], ?_, fun j => ?_, fun j => counter_congr (by simp [acceptUnicast]) j⟩
  · simp [acceptUnicast, storeFrame_rxp, hstored]
  · have haccept := setAccepted_peer f.source j f.cls f.sequence (storeFrame f (countGapOf f s))
    rw [hstorePeer, hstorePeer, countGapOf_peer, if_pos rfl, countGapOf_peer] at haccept
    refine Eq.trans (by simp [acceptUnicast, setReply, State.peer]) (haccept.trans ?_)
    by_cases hj : j = f.source <;> simp [hj]

theorem mem_allSlots (i : Slot) : i ∈ allSlots := by
  revert i
  decide

theorem mem_insertSlot (i : Slot) (l : List Slot) (j : Slot) : j ∈ insertSlot i l ↔ j = i ∨ j ∈ l := by
  simp [insertSlot, mem_allSlots]

/-- A unicast frame refused: its sender joins the refused set, X2 is raised, READY may be requested (R51, R58). -/
theorem refuseUnicast_fields (f : DataFrame) (s : State) :
    (refuseUnicast f s).bau = { s.bau with reply := some { code := .full, driving := false } }
      ∧ (refuseUnicast f s).rxp.refused = insertSlot f.source s.rxp.refused
      ∧ Raised keyX2 (refuseUnicast f s)
      ∧ ∀ j, j ∉ [CounterId.raisesDropped, CounterId.evictions] →
          (refuseUnicast f s).counter j = if j = .fullSent then satAdd (s.counter .fullSent) 1 else s.counter j := by
  refine ⟨by simp [refuseUnicast, setReply], by simp [refuseUnicast], ?_, fun j hj => ?_⟩
  · have hraised := raised_raiseKey keyX2 (catalogueSeverity keyX2)
      (bump .fullSent { s with rxp := { s.rxp with refused := insertSlot f.source s.rxp.refused } })
    simpa [Raised, refuseUnicast, raiseInternal] using hraised
  · have hcounter : (refuseUnicast f s).counter j = (raiseInternal keyX2
        (bump .fullSent { s with rxp := { s.rxp with refused := insertSlot f.source s.rxp.refused } })).counter j :=
      counter_congr (by simp [refuseUnicast]) j
    rw [hcounter, raiseInternal, raiseKey_countersSame _ _ _ j hj, counter_bump]
    rfl

/-! ### The frame and the decision together -/

/-- DATA_HEARD from a PRESENT or DRAINING peer is the pool's decision on the frame heard, and the drained report. -/
theorem exec_dataHeard_of_stays (hh : Hearing s f.source stamp)
    (hp : (s.peer f.source).state = .present ∨ (s.peer f.source).state = .draining) :
    exec (.dataHeard f) s = .next (reportDrained (poolTake f (heardFrom f.source .data f.payload s))) := by
  have hk : FrameKind.data.plain := ⟨nofun, nofun, nofun⟩
  rw [exec_dataHeard, hearFrame_of_stays hk hp hh fun t => poolTake_peerStates f t]

theorem addressed_heardFrom (f : DataFrame) (s : State) :
    (heardFrom f.source .data f.payload s).addressed f.dest = s.addressed f.dest := by
  obtain ⟨-, hrxp, -, -, -, -, hstl, -⟩ := heardFrom_frame f.source .data f.payload s
  exact addressed_congr hrxp hstl f.dest

theorem takesPart_of_receives {x : Seating} (h : x = .joining ∨ x = .joined ∨ x = .draining) : takesPart x = true := by
  rcases h with rfl | rfl | rfl <;> rfl

theorem not_takesPart {x : Seating} (h : ¬ (x = .joining ∨ x = .joined ∨ x = .draining)) : takesPart x = false := by
  cases x <;> simp_all [takesPart]

section
variable (ha : s.addressed f.dest = true)
include ha

theorem poolTake_heardFrom_unicast (hdest : f.dest.val < 16)
    (hstate : s.sec.state = .joining ∨ s.sec.state = .joined ∨ s.sec.state = .draining) :
    poolTake f (heardFrom f.source .data f.payload s) = takeUnicast f (heardFrom f.source .data f.payload s) := by
  obtain ⟨-, -, -, -, hsec, -⟩ := heardFrom_frame f.source .data f.payload s
  simp [poolTake, addressed_heardFrom, ha, hsec, takesPart_of_receives hstate, hdest]

theorem poolTake_heardFrom_group (hdest : 16 ≤ f.dest.val)
    (hstate : s.sec.state = .joining ∨ s.sec.state = .joined ∨ s.sec.state = .draining) :
    poolTake f (heardFrom f.source .data f.payload s) = takeGroup f (heardFrom f.source .data f.payload s) := by
  obtain ⟨-, -, -, -, hsec, -⟩ := heardFrom_frame f.source .data f.payload s
  simp [poolTake, addressed_heardFrom, ha, hsec, takesPart_of_receives hstate, Nat.not_lt.mpr hdest]

theorem poolTake_heardFrom_notReceiving
    (hstate : ¬ (s.sec.state = .joining ∨ s.sec.state = .joined ∨ s.sec.state = .draining)) :
    poolTake f (heardFrom f.source .data f.payload s) = bump .notReceiving (heardFrom f.source .data f.payload s) := by
  obtain ⟨-, -, -, -, hsec, -⟩ := heardFrom_frame f.source .data f.payload s
  simp [poolTake, addressed_heardFrom, ha, hsec, not_takesPart hstate]

end

/-- Settles O37. -/
theorem dataHeardUnicast : Obligations.DataHeardUnicast := by
  unfold Obligations.DataHeardUnicast
  intro f own stamp s hh hown hdest hstate hp hdrained
  have hk : FrameKind.data.plain := ⟨nofun, nofun, nofun⟩
  obtain ⟨hbau, hrxp, htmu, hsrc, hsec, halu, hstl, hpins, hahead, hpending⟩ := heardFrom_frame f.source .data f.payload s
  have htxs := (heardFrom_quiet (body := f.payload) hk hp).1
  have hpeer := heardFrom_peer (body := f.payload) hk hp
  have hsender := (hpeer f.source).trans (if_pos rfl)
  have hcounter := heardFrom_counter (body := f.payload) hk hp
  have ha : s.addressed f.dest = true := (addressed_iff s f.dest).mpr (.inl ⟨own, hown, hdest⟩)
  have hexec := exec_dataHeard_of_stays hh hp
  rw [poolTake_heardFrom_unicast ha (by omega) hstate] at hexec
  have hsequence : ((heardFrom f.source .data f.payload s).peer f.source).sequence = (s.peer f.source).sequence := by
    rw [hsender]
    rfl
  have hevents : OnlyEventsPlaced s (takeUnicast f (heardFrom f.source .data f.payload s)) :=
    onlyEventsPlaced_trans (heardFrom_onlyEventsPlaced _ _ _ _)
      (onlyEventsPlaced_of_fields (by simp) fun _ he => takeUnicast_events _ _ he)
  refine ⟨fun hdup => ?_, fun hnew hroom => ?_, fun hnew hfull => ?_⟩
  · have htake : takeUnicast f (heardFrom f.source .data f.payload s) = takeDuplicate f (heardFrom f.source .data f.payload s) := by
      rw [takeUnicast, hsequence, if_pos hdup]
    rw [htake] at hexec hevents
    obtain ⟨hbau', hpeer', hcounter'⟩ := takeDuplicate_fields f (heardFrom f.source .data f.payload s)
    rw [reportDrained_of_same hdrained (by simp [htxs]) (by simp [hsec]) (by rw [hbau', hbau]; rfl)] at hexec
    refine ⟨_, hexec, by rw [hbau', hbau], ?_, fun j hj => ?_, ?_, ?_, fun j hj => ?_, hevents, ?_⟩
    · rw [hpeer', if_pos rfl, hsender, PeerEntry.heard]
    · rw [hpeer', if_neg hj, hpeer, if_neg hj]
    · simp [Counted, hcounter', hcounter]
    · simp [Counted, hcounter', hcounter]
    · simp only [List.mem_cons, List.not_mem_nil, or_false, not_or] at hj
      rw [hcounter', if_neg hj.2, hcounter, if_neg hj.1]
    · simp [sameOutside_iff, hrxp, htmu, hsrc, hsec, halu, hstl, hpins, hahead, hpending, htxs]
  · have htake : takeUnicast f (heardFrom f.source .data f.payload s) = acceptUnicast f (heardFrom f.source .data f.payload s) := by
      rw [takeUnicast, hsequence, if_neg hnew, hrxp, if_pos hroom]
    rw [htake] at hexec hevents
    obtain ⟨hbau', hrxp', hpeer', hcounter'⟩ := acceptUnicast_fields f (heardFrom f.source .data f.payload s)
    rw [reportDrained_of_same hdrained (by simp [htxs]) (by simp [hsec]) (by rw [hbau', hbau]; rfl)] at hexec
    have hgaps : (heardFrom f.source .data f.payload s).counter .gapFrames = s.counter .gapFrames := by rw [hcounter]; rfl
    simp only [storeFrame_counter, countGapOf_counter, hsequence, hgaps, hcounter] at hcounter'
    refine ⟨_, hexec, by rw [hbau', hbau], ?_, ?_, fun j hj => ?_, ?_, ?_, ?_, fun j hj => ?_, hevents, ?_⟩
    · rw [hrxp', hrxp, State.storedForm, lateMark_congr htmu hsrc]
    · rw [hpeer', if_pos rfl, hsender]
      rfl
    · rw [hpeer', if_neg hj, hpeer, if_neg hj]
    · simp [Counted, hcounter']
    · simp [Counted, hcounter']
    · simp [hcounter'] <;> rfl
    · simp only [List.mem_cons, List.not_mem_nil, or_false, not_or] at hj
      rw [hcounter']
      simp [hj]
    · simp [sameOutside_iff, htmu, hsrc, hsec, halu, hstl, hpins, hahead, hpending, htxs]
  · have htake : takeUnicast f (heardFrom f.source .data f.payload s) = refuseUnicast f (heardFrom f.source .data f.payload s) := by
      rw [takeUnicast, hsequence, if_neg hnew, hrxp, if_neg (Nat.not_le.mpr hfull)]
    rw [htake] at hexec hevents
    obtain ⟨hbau', hrefused', hraised', hcounter'⟩ := refuseUnicast_fields f (heardFrom f.source .data f.payload s)
    have hpeer' : ∀ j, (reportDrained (refuseUnicast f (heardFrom f.source .data f.payload s))).peer j
        = if j = f.source then (s.peer f.source).heard else s.peer j := fun j => by
      rw [← hpeer]
      simp [State.peer]
    refine ⟨_, hexec, by simp [hbau', hbau], by simp [hrxp], by simp [hrxp], fun i => ?_, ?_, fun j hj => ?_, ?_, ?_, ?_,
      fun j hj => ?_, onlyAlarmsChanged_of_fields (by simp [halu]), ?_, ?_⟩
    · simp only [reportDrained_frame, hrefused', hrxp, mem_insertSlot]
    · rw [hpeer', if_pos rfl, PeerEntry.heard]
    · rw [hpeer', if_neg hj]
    · simp [Counted, hcounter', hcounter]
    · simp [Counted, hcounter', hcounter]
    · simpa [Raised] using hraised'
    · simp only [List.mem_cons, List.not_mem_nil, or_false, not_or] at hj
      rw [reportDrained_counter, hcounter' j (by simp [hj]), if_neg hj.2.1, hcounter, if_neg hj.1]
    · exact onlyEventsPlaced_trans hevents (onlyEventsPlaced_of_fields (by simp) fun _ he => by simpa using he)
    · simp [sameOutside_iff, htmu, hsrc, hsec, hstl, hpins, hahead, hpending]

end Sys2Proof.Machine
end

section
/-! The card link and its messages (R175 to R180, R199): numbers in bytes, the parser on a message's own bytes, the edges
of the link in both directions, and the messages SEND, FORGET, SET QUALITY and LABEL SECOND. -/

namespace Sys2Proof.Machine

open Sys2Proof

variable {s : State}

/-! ### Numbers in bytes, most significant first (spec 11) -/

@[simp] theorem length_beBytes (n v : Nat) : (beBytes n v).length = n := by
  induction n with
  | zero => rfl
  | succ n ih => simp [beBytes, ih]

theorem foldl_beBytes (n v acc : Nat) :
    (beBytes n v).foldl (fun acc b => 256 * acc + b.toNat) acc = acc * 256 ^ n + v % 256 ^ n := by
  induction n generalizing acc with
  | zero => simp [beBytes, Nat.mod_one]
  | succ n ih =>
    have hshift : 256 * acc * 256 ^ n = acc * 256 ^ (n + 1) := by
      rw [Nat.pow_succ, Nat.mul_comm 256 acc, Nat.mul_assoc, Nat.mul_comm 256]
    rw [beBytes, List.foldl_cons, ih, Nat.mod_pow_succ, BitVec.toNat_ofNat, Nat.add_mul, hshift, Nat.add_assoc,
      Nat.add_comm (_ * 256 ^ n), Nat.mul_comm (_ % 2 ^ 8)]

theorem beNat_beBytes (n v : Nat) : beNat (beBytes n v) = v % 256 ^ n := by
  rw [beNat, foldl_beBytes, Nat.zero_mul, Nat.zero_add]

/-- A number read where it stands in a body. -/
theorem numAt_of_eq {body before after : List Byte} {i n v : Nat} (hbody : body = before ++ beBytes n v ++ after)
    (hi : before.length = i) (hv : v < 256 ^ n) : numAt body i n = v := by
  have hdrop : body.drop i = beBytes n v ++ after := by rw [hbody, List.append_assoc, ← hi, List.drop_left]
  rw [numAt, hdrop, List.append_assoc, List.take_append_of_le_length (by simp), List.take_of_length_le (by simp),
    beNat_beBytes, Nat.mod_eq_of_lt hv]

/-! ### The parser on the bytes of a message (R177) -/

theorem feedAll_body {kind : Byte} {rest : List Byte} (hrest : rest ≠ []) (got : List Byte) :
    (Parser.body kind rest.length got).feedAll rest = (.hunt, [.message (readMessage kind (got ++ rest))]) := by
  induction rest generalizing got with
  | nil => exact absurd rfl hrest
  | cons b bs ih =>
    cases bs with
    | nil => simp [Parser.feedAll, Parser.feed]
    | cons c cs =>
      have hnext := ih (List.cons_ne_nil c cs) (got ++ [b])
      rw [Parser.feedAll]
      simp only [Parser.feed, List.length_cons, Nat.succ_le_iff, Nat.lt_one_iff, Nat.add_eq_zero_iff, Nat.add_one_sub_one,
        Nat.one_ne_zero, and_false, if_false] at hnext ⊢
      rw [hnext]
      simp

theorem feedAll_header (kind hi lo : Byte) (body : List Byte) :
    Parser.hunt.feedAll (startCode :: kind :: hi :: lo :: body) =
      (((judgeHeader kind (beNat [hi, lo])).1.feedAll body).1,
        (judgeHeader kind (beNat [hi, lo])).2.toList ++ ((judgeHeader kind (beNat [hi, lo])).1.feedAll body).2) := by
  simp [Parser.feedAll, Parser.feed]

/-- A message of a known kind and an allowed length is taken whole (R177). -/
theorem feedAll_linkBytes {kind : Byte} {body : List Byte} (hallowed : kindAllowsLength kind body.length = true)
    (hlimit : body.length ≤ Config.linkLimit) :
    Parser.hunt.feedAll (linkBytes kind body) = (.hunt, [.message (readMessage kind body)]) := by
  have hlen : beNat (beBytes 2 body.length) = body.length := by
    rw [beNat_beBytes]
    exact Nat.mod_eq_of_lt (Nat.lt_of_le_of_lt hlimit (by decide))
  refine (feedAll_header kind (BitVec.ofNat 8 (body.length / 256 ^ 1)) (BitVec.ofNat 8 (body.length / 256 ^ 0)) body).trans ?_
  rw [show beNat [BitVec.ofNat 8 (body.length / 256 ^ 1), BitVec.ofNat 8 (body.length / 256 ^ 0)] = body.length from hlen,
    judgeHeader, if_neg (Nat.not_lt.mpr hlimit), if_pos hallowed]
  cases body with
  | nil => rfl
  | cons b bs =>
    rw [if_neg (by simp)]
    simp only [feedAll_body (List.cons_ne_nil b bs)]
    rfl

theorem flags_bits (m : SendRequest) : m.flags.getLsbD 0 = m.due.isSome ∧ m.flags.getLsbD 1 = m.release.isSome
    ∧ (m.release = some .stb → m.flags.getLsbD 2 = true) ∧ (m.release = some .sta → m.flags.getLsbD 2 = false) := by
  unfold SendRequest.flags
  cases hdue : m.due.isSome <;> cases hrelease : m.release with
  | none => simp
  | some g => cases g <;> simp

/-- The fields of a SEND are read back from its body (R199). -/
theorem readSend_body (m : SendRequest) : readSend (Message.send m).body = m := by
  obtain ⟨hdue, hrelease, hstb, hsta⟩ := flags_bits m
  have hbody : (Message.send m).body = [BitVec.ofNat 8 m.cls.toNat, BitVec.ofNat 8 m.dest.val] ++ beBytes 2 m.tag.toNat
      ++ [m.flags] ++ beBytes 4 ((m.due.getD 0).toNat) ++ beBytes 2 m.lengthField.toNat ++ m.payload := rfl
  have hflags : byteAt (Message.send m).body 4 = m.flags := by simp [hbody, byteAt, beBytes]
  have htag : numAt (Message.send m).body 2 2 = m.tag.toNat :=
    numAt_of_eq (before := [BitVec.ofNat 8 m.cls.toNat, BitVec.ofNat 8 m.dest.val])
      (after := [m.flags] ++ beBytes 4 ((m.due.getD 0).toNat) ++ beBytes 2 m.lengthField.toNat ++ m.payload)
      (by simp [hbody]) rfl m.tag.isLt
  have hdueAt : numAt (Message.send m).body 5 4 = (m.due.getD 0).toNat :=
    numAt_of_eq (before := [BitVec.ofNat 8 m.cls.toNat, BitVec.ofNat 8 m.dest.val] ++ beBytes 2 m.tag.toNat ++ [m.flags])
      (after := beBytes 2 m.lengthField.toNat ++ m.payload) (by simp [hbody]) rfl (m.due.getD 0).isLt
  have hlengthAt : numAt (Message.send m).body 9 2 = m.lengthField.toNat :=
    numAt_of_eq (before := [BitVec.ofNat 8 m.cls.toNat, BitVec.ofNat 8 m.dest.val] ++ beBytes 2 m.tag.toNat ++ [m.flags]
      ++ beBytes 4 ((m.due.getD 0).toNat)) (after := m.payload) (by simp [hbody]) rfl m.lengthField.isLt
  have hcls : BitVec.ofNat 2 (byteAt (Message.send m).body 0).toNat = m.cls := by
    have hlt : m.cls.toNat < 256 := Nat.lt_of_lt_of_le m.cls.isLt (by decide)
    simp [hbody, byteAt, Nat.mod_eq_of_lt hlt]
  have hdest : Fin.ofNat 32 (byteAt (Message.send m).body 1).toNat = m.dest := by
    have hlt : m.dest.val < 256 := Nat.lt_of_lt_of_le m.dest.isLt (by decide)
    simp [hbody, byteAt, Nat.mod_eq_of_lt hlt]
  have hpayload : (Message.send m).body.drop 11 = m.payload := by simp [hbody, beBytes]
  have hdueRead : (if m.due.isSome then some (BitVec.ofNat 32 (m.due.getD 0).toNat) else none) = m.due := by
    cases m.due <;> simp
  have hreleaseRead : (if m.release.isSome then some (if m.flags.getLsbD 2 then Strobe.stb else .sta) else none) = m.release := by
    cases hcase : m.release with
    | none => rfl
    | some g => cases g with
      | sta => rw [hsta hcase]; rfl
      | stb => rw [hstb hcase]; rfl
  rw [readSend, hflags, hdue, hrelease, hdueAt, hdueRead, hreleaseRead, htag, hlengthAt, hcls, hdest, hpayload,
    BitVec.ofNat_toNat, BitVec.ofNat_toNat, BitVec.setWidth_eq, BitVec.setWidth_eq]

theorem readMessage_read (item : ReadItem) (n flags : Byte) :
    readMessage 0x0A [item.byte, n, flags] = .read item n (flags.getLsbD 0) := by
  cases item <;> rfl

/-- A message is read back from its kind and body (R199). -/
theorem readMessage_body {m : Message} (hm : ∀ kind tag, m ≠ .malformed kind tag) : readMessage m.kind m.body = m := by
  cases m with
  | send m => exact congrArg Message.send (readSend_body m)
  | labelSecond x =>
    have hnum : numAt (beBytes 4 x.val) 0 4 = x.val := numAt_of_eq (before := []) (after := []) (by simp) rfl x.isLt
    change Message.labelSecond (Fin.ofNat 4294967296 (numAt (beBytes 4 x.val) 0 4)) = _
    rw [hnum]
    exact congrArg Message.labelSecond (Fin.ext (Nat.mod_eq_of_lt x.isLt))
  | read item n clear =>
    have hflag : (flagByte clear).getLsbD 0 = clear := by cases clear <;> rfl
    exact (readMessage_read item n (flagByte clear)).trans (by rw [hflag])
  | malformed kind tag => exact absurd rfl (hm kind tag)
  | _ => rfl

/-- A message the card can send, sent as its bytes, is parsed as itself (R177, R199). -/
theorem feedAll_bytes {m : Message} (hm : ∀ kind tag, m ≠ .malformed kind tag)
    (hsend : ∀ r, m = .send r → r.wellFormed = true) :
    Parser.hunt.feedAll m.bytes = (.hunt, [.message m]) := by
  have hfits : kindAllowsLength m.kind m.body.length = true ∧ m.body.length ≤ Config.linkLimit := by
    cases m with
    | send r =>
      have hlen : r.payload.length + 11 ≤ Config.linkLimit := by simpa [SendRequest.wellFormed] using hsend r rfl
      have hbody : (Message.send r).body.length = r.payload.length + 11 := by simp [Message.body]; omega
      rw [hbody]
      exact ⟨by simp [Message.kind, kindAllowsLength, hlen], hlen⟩
    | labelSecond x => simp [Message.kind, Message.body, kindAllowsLength, Config.linkLimit]
    | malformed kind tag => exact absurd rfl (hm kind tag)
    | _ => exact ⟨rfl, by simp [Message.body, Config.linkLimit]⟩
  obtain ⟨hallowed, hlimit⟩ := hfits
  rw [Message.bytes, feedAll_linkBytes hallowed hlimit, readMessage_body hm]

/-- Settles O16. -/
theorem messageBytesParse : Obligations.MessageBytesParse := by
  unfold Obligations.MessageBytesParse
  intro m hm
  refine feedAll_bytes (fun kind tag h => ?_) fun r h => ?_
  · subst h
    exact hm
  · subst h
    exact hm

/-! ### The edges of the link (R175, R177, R188) -/

theorem clocked_of_aligned (edges : Nat) (o : Outgoing) :
    o.clocked 0 edges = { o with sent := min (o.sent + edges) (8 * o.message.bytes.length) } := by
  simp [Outgoing.clocked, Outgoing.wait]

theorem takeEdges_eq (edges : List Bool) (h : s.cpt.crst.level = false) : takeEdges edges s =
    (s.cpt.parser.feedAll (bytesOf (s.cpt.bits ++ edges))).2.foldl (fun t e => takePortEvent e t)
      (s.setCpt (fun c => { c with
        parser := (s.cpt.parser.feedAll (bytesOf (s.cpt.bits ++ edges))).1, bits := bitsLeft (s.cpt.bits ++ edges)
        outgoing := c.outgoing.map (Outgoing.clocked c.bits.length edges.length) })) := by
  simp [takeEdges, h]

/-- What the parser gives out leaves the outgoing direction, and all that stands outside the port. -/
theorem takePortEvents_keep (es : List PortEvent) (s : State) :
    (es.foldl (fun t e => takePortEvent e t) s).cpt.bits = s.cpt.bits
      ∧ (es.foldl (fun t e => takePortEvent e t) s).cpt.outgoing = s.cpt.outgoing
      ∧ (es.foldl (fun t e => takePortEvent e t) s).cpt.results = s.cpt.results
      ∧ (es.foldl (fun t e => takePortEvent e t) s).cpt.replies = s.cpt.replies
      ∧ SameOutside [.cpt, .counters] s (es.foldl (fun t e => takePortEvent e t) s) := by
  induction es generalizing s with
  | nil => exact ⟨rfl, rfl, rfl, rfl, by simp [sameOutside_iff]⟩
  | cons e es ih =>
    have hone : (takePortEvent e s).cpt.bits = s.cpt.bits ∧ (takePortEvent e s).cpt.outgoing = s.cpt.outgoing
        ∧ (takePortEvent e s).cpt.results = s.cpt.results ∧ (takePortEvent e s).cpt.replies = s.cpt.replies
        ∧ SameOutside [.cpt, .counters] s (takePortEvent e s) := by
      cases e with
      | message m =>
        unfold takePortEvent enqueue
        dsimp only
        split
        · exact ⟨rfl, rfl, rfl, rfl, by simp [sameOutside_iff, State.setCpt]⟩
        · simp [sameOutside_iff]
      | linkFault => simp [takePortEvent, sameOutside_iff]
    obtain ⟨hbits, hout, hresults, hreplies, hsame⟩ := hone
    obtain ⟨hbits', hout', hresults', hreplies', hsame'⟩ := ih (takePortEvent e s)
    exact ⟨hbits'.trans hbits, hout'.trans hout, hresults'.trans hresults, hreplies'.trans hreplies,
      sameOutside_trans hsame hsame'⟩

theorem length_bitsLeft (bits : List Bool) : (bitsLeft bits).length = bits.length % 8 := by
  rw [bitsLeft, List.length_drop]
  omega

theorem putsOut_of_idle (n : Nat) {c : Cpt} (h : c.crst.level = true ∨ c.outgoing = none) :
    c.putsOut n = List.replicate n false := by
  unfold Cpt.putsOut
  split
  next o hlevel hout => rcases h with h | h <;> simp_all
  next => exact fillBits_eq n

theorem putsOut_of_sending {c : Cpt} {o : Outgoing} (n : Nat) (hlevel : c.crst.level = false) (hout : c.outgoing = some o) :
    c.putsOut n = (List.replicate (o.wait c.bits.length) false ++ (bitsOf o.message.bytes).drop o.sent
      ++ List.replicate n false).take n := by
  rw [Cpt.putsOut, hlevel, hout]
  simp only [fillBits_eq]

/-- The edges of a message's own bytes, from HUNT at a byte boundary, give that message to the incoming queue. -/
theorem takeEdges_message {m : Message} (hm : ∀ kind tag, m ≠ .malformed kind tag)
    (hsend : ∀ r, m = .send r → r.wellFormed = true) (hcrst : s.cpt.crst.level = false) (hparser : s.cpt.parser = .hunt)
    (hbits : s.cpt.bits = []) : takeEdges (bitsOf m.bytes) s = enqueue m { s with cpt := { s.cpt with
      outgoing := s.cpt.outgoing.map (fun o => { o with
        sent := min (o.sent + 8 * m.bytes.length) (8 * o.message.bytes.length) }) } } := by
  have hclocked : (fun o : Outgoing => o.clocked 0 (8 * m.bytes.length)) = fun o => { o with
      sent := min (o.sent + 8 * m.bytes.length) (8 * o.message.bytes.length) } := funext (clocked_of_aligned _)
  have hcpt : ∀ out, ({ s.cpt with parser := .hunt, bits := [], outgoing := out } : Cpt) = { s.cpt with outgoing := out } :=
    fun out => Cpt.ext hbits.symm hparser.symm rfl rfl rfl rfl rfl rfl rfl rfl rfl rfl
  rw [takeEdges_eq _ hcrst, hparser, hbits, List.nil_append, bytesOf_bitsOf, feedAll_bytes hm hsend, bitsLeft_bitsOf]
  simp only [List.foldl_cons, List.foldl_nil, takePortEvent, State.setCpt, hbits, List.length_nil, length_bitsOf, hcpt,
    ← hclocked]

/-- Settles O55. -/
theorem linkEvents : Obligations.LinkEvents := by
  unfold Obligations.LinkEvents
  refine ⟨fun m s hm hcrst hparser hbits => ?_, fun edges s hcrst => ⟨?_, fun n => putsOut_of_idle n (.inl hcrst)⟩,
    fun edges s hcrst => ?_, fun s hcrst => ?_, fun kind tag s hready => ?_⟩
  · have htake := takeEdges_message (m := m) (fun kind tag h => by subst h; exact hm) (fun r h => by subst h; exact hm)
      hcrst hparser hbits
    refine ⟨fun hroom => ?_, fun hfull => ⟨_, congrArg Host.Outcome.next (htake.trans (if_neg ?_)), by simp, by simp, ?_, ?_,
      ?_, ?_⟩⟩
    · exact congrArg Host.Outcome.next (htake.trans (if_pos hroom))
    · exact fun h : s.cpt.incoming.length < 4 => absurd hfull (Nat.ne_of_lt h)
    · simp [Counted, State.counter]
    · simp +contextual [CountersSame, State.counter]
    · exact onlyEventsPlaced_of_fields (by simp) fun _ he => bump_events _ _ he
    · simp [sameOutside_iff]
  · simp [exec, execMessageComplete, takeEdges, hcrst]
  · obtain ⟨hbits', hout', hresults', hreplies', hsame'⟩ := takePortEvents_keep
      (s.cpt.parser.feedAll (bytesOf (s.cpt.bits ++ edges))).2 (s.setCpt (fun c => { c with
        parser := (s.cpt.parser.feedAll (bytesOf (s.cpt.bits ++ edges))).1, bits := bitsLeft (s.cpt.bits ++ edges)
        outgoing := c.outgoing.map (Outgoing.clocked c.bits.length edges.length) }))
    refine ⟨_, congrArg Host.Outcome.next (takeEdges_eq edges hcrst), ?_, fun hnone => ⟨?_, putsOut_of_idle _ (.inr hnone)⟩,
      fun o fill hout hfill => ?_⟩
    · rw [hbits']
      exact (length_bitsLeft _).trans (by rw [List.length_append])
    · rw [hout']
      simp [State.setCpt, hnone]
    · subst hfill
      refine ⟨?_, putsOut_of_sending _ hcrst hout, hresults', hreplies',
        sameOutside_trans (by simp [sameOutside_iff, State.setCpt]) hsame'⟩
      rw [hout']
      simp [State.setCpt, hout, Outgoing.clocked, Outgoing.wait]
  · refine ⟨bump .linkFaults (s.setCpt (fun c => { c with parser := .hunt })), ?_, ?_, ?_, ?_, ?_⟩
    · simp [exec, execLinkFault, hcrst]
    · apply Cpt.ext <;> simp [State.setCpt]
    · simp [Counted, counter_bump, counter_setCpt]
    · simp +contextual [CountersSame, counter_bump, counter_setCpt]
    · simp [sameOutside_iff, State.setCpt]
  · exact congrArg Host.Outcome.next (handle_of_ready hready _ _)

/-! ### SEND (R21, R22) -/

theorem exec_send (h : PortReady s) (m : SendRequest) : exec (.send m) s = .next (actSend m s) :=
  congrArg Host.Outcome.next (handle_of_ready h _ _)

theorem sendMalformed_iff (m : SendRequest) (s : State) : s.sendMalformed m = true ↔
    m.cls = 0 ∨ 1024 < m.payload.length
      ∨ (m.dest.val < 16 ∧ (s.cabinet ≤ m.dest.val ∨ ∃ own, s.ownSlot = some own ∧ own.val = m.dest.val))
      ∨ (m.cls ≠ 2 ∧ (m.release ≠ none ∨ m.due ≠ none)) := by
  have hown : s.ownSlot.map Fin.val = some m.dest.val ↔ ∃ own, s.ownSlot = some own ∧ own.val = m.dest.val := by
    rw [Option.map_eq_some_iff]
  simp [State.sendMalformed, hown, Option.isSome_iff_ne_none, Config.maxPayload, or_assoc]

theorem noPeer_iff (d : Dest) (s : State) : s.noPeer d = true ↔ d.val < 16
    ∧ (s.peer (Fin.ofNat 16 d.val)).state ≠ .present ∧ (s.peer (Fin.ofNat 16 d.val)).state ≠ .draining := by
  unfold State.noPeer
  cases (s.peer (Fin.ofNat 16 d.val)).state <;> simp

theorem past_iff (m : SendRequest) (s : State) : (dueOf m.due).any s.duePassed = true ↔
    ∃ d, m.due = some d ∧ dueAhead (d.toNat % 4000000000) s.tmu.time.short = false := by
  cases m.due <;> simp [dueOf, State.duePassed, Config.shortWrap]

theorem sendFull_iff (c : CardClass) (n : Nat) (s : State) : s.sendFull c n = true ↔
    Config.queueDepth c ≤ (s.queue c).length ∨ s.txs.storeFree < unitsFor n ∨ 80 ≤ s.queued + s.cpt.results.length := by
  simp [State.sendFull, Config.queuedLimit, or_assoc]

/-- A SEND that is no malformed message, in the order of the other conditions of R21. -/
theorem sendJudgement_eq {m : SendRequest} (hgood : s.sendMalformed m = false) : sendJudgement m s =
    if s.sec.state ≠ .joined then .error .notJoined
    else if s.noPeer m.dest then .error .noPeer
    else if m.cls = 2 ∧ s.timeValid = false then .error .timeNotValid
    else if m.cls = 2 ∧ (dueOf m.due).any s.duePassed then .error .pastDue
    else match cardClassOf m.cls.toNat with
      | none => .error .badRequest
      | some c => if s.sendFull c m.payload.length then .error .queueFull else .ok c := by
  simp [sendJudgement, hgood] <;> rfl

theorem actSend_of_error {m : SendRequest} {code : RefusalCode} (hlen : m.lengthField.toNat = m.payload.length)
    (h : sendJudgement m s = .error code) : actSend m s = refuse code 0x01 (some m.tag) (bump .refusedSends s) := by
  simp [actSend, hlen, h]

theorem actSend_of_ok {m : SendRequest} {c : CardClass} (hlen : m.lengthField.toNat = m.payload.length)
    (h : sendJudgement m s = .ok c) : actSend m s = admitSend c m s := by
  simp [actSend, hlen, h]

/-- A SEND refused: its REPLY and REFUSED SENDS (R21, R44). -/
theorem send_refused {m : SendRequest} {code : RefusalCode} (hready : PortReady s)
    (hlen : m.lengthField.toNat = m.payload.length) (h : sendJudgement m s = .error code) :
    ∃ t, exec (.send m) s = .next t ∧ t.cpt.replies = s.cpt.replies ++ [.refusal code 1 (some m.tag)]
      ∧ Counted .refusedSends s t ∧ CountersSame [.refusedSends] s t
      ∧ t.cpt = { s.cpt with replies := t.cpt.replies, events := t.cpt.events, urgent := t.cpt.urgent
                             attention := t.cpt.attention }
      ∧ SameOutside [.cpt, .counters] s t := by
  refine ⟨_, (exec_send hready m).trans (congrArg _ (actSend_of_error hlen h)), ?_, ?_, ?_, ?_, ?_⟩
  · simp [refuse, reply, State.setCpt]
  · simp [Counted, refuse, reply, counter_setCpt, counter_bump]
  · simp +contextual [CountersSame, refuse, reply, counter_setCpt, counter_bump]
  · apply Cpt.ext <;> simp [refuse, reply, State.setCpt]
  · simp [sameOutside_iff, refuse, reply, State.setCpt]

theorem advanceSequence_nextSeq (c : CardClass) (d : Dest) (s : State) (i : Slot) (c' : CardClass) :
    ((advanceSequence c d s).txs.nextSeq[i]).get c' =
      if i.val = d.val ∧ c' = c then (s.txs.nextSeq[i]).get c + 1 else (s.txs.nextSeq[i]).get c' := by
  unfold advanceSequence
  split
  next hd =>
    by_cases hi : i.val = d.val
    · have hslot : (Fin.ofNat 16 d.val : Slot) = i := Fin.ext (by simp [← hi])
      simp only [hslot]
      by_cases hc : c' = c
      · subst hc
        simp [hi]
      · simp [hc, PerClass.get_set_ne]
    · have hne : ¬ d.val % 16 = i.val := by
        rw [Nat.mod_eq_of_lt hd]
        exact fun h => hi h.symm
      simp [hi, hne]
  next hd =>
    have hi : i.val ≠ d.val := fun h => hd (h ▸ i.isLt)
    simp [hi]

/-- Settles O56. -/
theorem sendTaken : Obligations.SendTaken := by
  unfold Obligations.SendTaken
  refine ⟨fun m s hready hlen => ?_, fun m s hready hlen => ?_⟩
  · refine (exec_send hready m).trans (congrArg _ ?_)
    simp [actSend, hlen, refuse, reply_eq]
  intro bad stray untimed past refused
  have hstray : s.noPeer m.dest = true ↔ stray := noPeer_iff m.dest s
  have hpast : (m.cls = 2 ∧ (dueOf m.due).any s.duePassed = true) ↔ past := and_congr_right fun _ => past_iff m s
  have hrefused : ∀ code, sendJudgement m s = .error code → refused code := fun code h => send_refused hready hlen h
  have hgood : ¬ bad → s.sendMalformed m = false := fun h => by
    rw [← Bool.not_eq_true, sendMalformed_iff]
    exact h
  refine ⟨fun h => hrefused _ ?_, fun h hj => hrefused _ ?_, fun h hj hs => hrefused _ ?_, fun h hj hs hu => hrefused _ ?_,
    fun h hj hs hu hp => hrefused _ ?_, fun c hc h hj hs hu hp => ⟨fun hf => hrefused _ ?_, fun hf => ?_⟩⟩
  · rw [sendJudgement, if_pos ((sendMalformed_iff m s).mpr h)]
  · rw [sendJudgement_eq (hgood h), if_pos hj]
  · rw [sendJudgement_eq (hgood h), if_neg (fun hn => hn hj), if_pos (hstray.mpr hs)]
  · rw [sendJudgement_eq (hgood h), if_neg (fun hn => hn hj), if_neg ((not_congr hstray).mpr hs), if_pos hu]
  · rw [sendJudgement_eq (hgood h), if_neg (fun hn => hn hj), if_neg ((not_congr hstray).mpr hs), if_neg hu, if_pos (hpast.mpr hp)]
  all_goals
    have hclass : cardClassOf m.cls.toNat = some c := by
      rw [hc]
      cases c <;> rfl
    have hjudged : sendJudgement m s = if s.sendFull c m.payload.length then .error .queueFull else .ok c := by
      rw [sendJudgement_eq (hgood h), if_neg (fun hn => hn hj), if_neg ((not_congr hstray).mpr hs), if_neg hu,
        if_neg ((not_congr hpast).mpr hp), hclass]
  · rw [hjudged, if_pos ((sendFull_iff c m.payload.length s).mpr hf)]
  · rw [if_neg ((not_congr (sendFull_iff c m.payload.length s)).mpr hf)] at hjudged
    have hqueue : ∀ d, (admitSend c m s).queue d = (s.setQueue c (s.queue c ++ [s.entryFor c m])).queue d := fun d => by
      simp [admitSend, State.queue]
    refine ⟨_, (exec_send hready m).trans (congrArg _ (actSend_of_ok hlen hjudged)), ?_, fun d hd => ?_, ?_, fun i d => ?_,
      by simp, by simp, by simp, by simp [sameOutside_iff]⟩
    · rw [hqueue, State.queue_setQueue, State.entryFor, State.sequenceFor]
      cases m.release <;> rfl
    · rw [hqueue, State.queue_setQueue_ne s _ hd]
    · simp [admitSend, State.setQueue]
    · have hadvance := advanceSequence_nextSeq c m.dest (s.setQueue c (s.queue c ++ [s.entryFor c m])) i d
      refine hadvance.trans ?_
      by_cases hid : i.val = m.dest.val ∧ d = c
      · obtain ⟨hi, rfl⟩ := hid
        simp [hi, State.setQueue]
      · simp [hid, State.setQueue]

/-! ### FORGET, SET QUALITY, LABEL SECOND (R73, R92, R101) -/

theorem exec_forget (h : PortReady s) (n : Byte) : exec (.forget n) s = .next (actForget n s) :=
  congrArg Host.Outcome.next (handle_of_ready h _ _)

theorem forgettable_of_other {n : Byte} {i : Slot} (hn : n.toNat = i.val) (hi : i.val < s.cabinet)
    (hown : s.ownSlot ≠ some i) : s.forgettable n = some i := by
  have hslot : (Fin.ofNat 16 n.toNat : Slot) = i := Fin.ext (by rw [hn]; simp)
  simp only [State.forgettable, hslot]
  exact if_neg fun h => h.elim (fun hle => absurd hi (Nat.not_lt.mpr (hn ▸ hle))) hown

theorem forgettable_of_not {n : Byte} (h : s.cabinet ≤ n.toNat ∨ ∃ own, s.ownSlot = some own ∧ own.val = n.toNat) :
    s.forgettable n = none := by
  rcases h with h | ⟨own, hown, hn⟩
  · exact if_pos (.inl h)
  · exact if_pos (.inr (hown.trans (congrArg some (Fin.ext (by simp [← hn])))))

/-- A FORGET of a GONE or LOST entry: what it leaves of the entry, and what it does not touch (R67, R73). -/
theorem forgetPeer_fields {i : Slot} (h : (s.peer i).state = .gone ∨ (s.peer i).state = .lost) :
    (∀ j, (forgetPeer i s).peer j
        = if j = i then { PeerEntry.cleared with sequence := (s.peer i).sequence } else s.peer j)
      ∧ EventKind.peerChange ∈ (forgetPeer i s).cpt.events ∧ (forgetPeer i s).src = s.src
      ∧ (forgetPeer i s).tmu = s.tmu ∧ (forgetPeer i s).alu.table = s.alu.table := by
  have hne : (s.peer i).state ≠ .present := by rcases h with h | h <;> rw [h] <;> nofun
  have habsent : ((s.setPeer i { PeerEntry.cleared with sequence := (s.peer i).sequence }).peer i).state = .absent := by
    rw [State.peer_setPeer]
    rfl
  have hchanged : ((s.setPeer i { PeerEntry.cleared with sequence := (s.peer i).sequence }).peer i).state ≠ (s.peer i).state := by
    rw [habsent]
    rcases h with h | h <;> rw [h] <;> nofun
  obtain ⟨hsrc, htmu, htable, -⟩ := handOff_of_ne_present i (s.peer i).state false
    (s.setPeer i { PeerEntry.cleared with sequence := (s.peer i).sequence }) hne
  refine ⟨fun j => ?_, handOff_peerChange i _ _ _ (.inl hchanged), hsrc, htmu, htable⟩
  rw [forgetPeer, handOff_peer, habsent]
  by_cases hj : j = i
  · subst hj
    simp
  · simp [hj, State.peer_setPeer_ne]

theorem setQuality_quality (q : Byte) (s : State) : (setQuality q s).src.quality = clampQuality q := by
  unfold setQuality
  split
  next h => exact h.symm
  next => split <;> simp

theorem clampQuality_val (q : Byte) : (clampQuality q).val = min q.toNat 3 := by
  simp only [clampQuality, Fin.val_ofNat]
  omega

/-- A new quality of a JOINED source-capable station is announced at once (R101, R103). -/
theorem setQuality_announces {q : Byte} (hne : s.src.quality.val ≠ min q.toNat 3) (hj : s.sec.state = .joined)
    (hc : s.src.capable = true) : (setQuality q s).src.announceTimer = some 15625000
      ∧ (setQuality q s).txs.slots.announce = s.txs.slots.announce.requested := by
  have hchanged : clampQuality q ≠ s.src.quality := fun h => hne (by rw [← h, clampQuality_val])
  have hset : setQuality q s = requestAnnounce (updateCandidacy { s with src := { s.src with quality := clampQuality q } }) := by
    simp [setQuality, hchanged, hj, hc]
  rw [hset, requestAnnounce]
  refine ⟨by simp [Config.ms, Config.ticksPerMs], ?_⟩
  have hslots : (updateCandidacy { s with src := { s.src with quality := clampQuality q } }).txs.slots = s.txs.slots := by simp
  simp only [request, State.setSlots, hslots]
  rfl

/-- Settles O57. -/
theorem smallMessages : Obligations.SmallMessages := by
  unfold Obligations.SmallMessages
  refine ⟨fun n i s hready hn hi hown => ⟨fun hgone => ?_, fun habsent => ?_, fun hthere => ?_⟩, fun n s hready hno => ?_,
    fun q s hready hlaw => ?_, fun x s hready => congrArg Host.Outcome.next (handle_of_ready hready _ _)⟩
  · have hact : actForget n s = reportDrained (forgetPeer i s) := by
      rw [actForget, forgettable_of_other hn hi hown]
      rcases hgone with h | h <;> simp only [h]
    obtain ⟨hpeer, hevent, hsrc, htmu, htable⟩ := forgetPeer_fields hgone
    refine ⟨_, (exec_forget hready n).trans (congrArg _ hact), ?_, fun j hj => ?_, by simpa using hevent, by simp,
      by simpa using hsrc, by simpa using htmu, by simp, by simpa using htable⟩
    · rw [reportDrained_peer, hpeer, if_pos rfl]
    · rw [reportDrained_peer, hpeer, if_neg hj]
  · have hact : actForget n s = s := by
      rw [actForget, forgettable_of_other hn hi hown]
      simp only [habsent]
    exact (exec_forget hready n).trans (congrArg _ hact)
  · have hact : actForget n s = refuse .wrongState 0x05 none s := by
      rw [actForget, forgettable_of_other hn hi hown]
      rcases hthere with h | h <;> simp only [h]
    exact (exec_forget hready n).trans (congrArg _ hact)
  · have hact : actForget n s = refuse .badRequest 0x05 none s := by rw [actForget, forgettable_of_not hno]
    exact (exec_forget hready n).trans (congrArg _ hact)
  · have hsources : LawSources (setQuality q s) := setQuality_keeps (l := .sources) q hlaw
    refine ⟨_, congrArg Host.Outcome.next (handle_of_ready hready _ _), ?_, by simp, by simp,
      lawSources_congr (by simp) (by simp) hsources, by simp, by simp, fun hne hj hc => ?_, by simp [sameOutside_iff]⟩
    · simp [setQuality_quality, clampQuality_val]
    · rw [reportDrained_of_ne (by simp [hj])]
      exact setQuality_announces hne hj hc

end Sys2Proof.Machine
end

section
/-! Retirements: what a purge hands over and what it leaves (R36 to R40), and that no other operation of the source
selector or the servo takes a result back or brings a queued frame in. -/

namespace Sys2Proof.Machine

open Sys2Proof

variable {s t u : State} {p : QueueEntry → Bool} {code : ResultCode} {c d : CardClass} {i : Slot}

/-! ### Purges (R36, R37) -/

theorem purgeQueue_results (p : QueueEntry → Bool) (code : ResultCode) (c : CardClass) (s : State) :
    (purgeQueue p code c s).cpt.results =
      s.cpt.results ++ (purgedBy p (s.queue c)).map (fun e => e.result code) := by
  simp [purgeQueue, appendResults]

theorem queue_congr (h : t.txs.queues = s.txs.queues) (c : CardClass) : t.queue c = s.queue c := by
  rw [State.queue, State.queue, h]

theorem purgeQueue_queue (p : QueueEntry → Bool) (code : ResultCode) (c d : CardClass) (s : State) :
    (purgeQueue p code c s).queue d = if d = c then keptBy p code (s.queue c) else s.queue d := by
  have hqueues : (purgeQueue p code c s).queue d = (s.setQueue c (keptBy p code (s.queue c))).queue d :=
    queue_congr (by simp [purgeQueue]) d
  rw [hqueues]
  split
  next h => rw [h, State.queue_setQueue]
  next h => rw [State.queue_setQueue_ne _ _ h]

theorem purgeQueues_queue (p : QueueEntry → Bool) (code : ResultCode) (d : CardClass) (s : State) :
    (purgeQueues p code s).queue d = keptBy p code (s.queue d) := by
  cases d <;> simp [purgeQueues, purgeQueue_queue]

theorem purgeQueues_results (p : QueueEntry → Bool) (code : ResultCode) (s : State) :
    (purgeQueues p code s).cpt.results = s.cpt.results
      ++ (purgedBy p (s.queue .control ++ s.queue .deadline ++ s.queue .bulk)).map (fun e => e.result code) := by
  simp [purgeQueues, purgeQueue_results, purgeQueue_queue, purgedBy]

/-- What a purge leaves was there before, and is in flight where the purge names it (R36). -/
theorem of_mem_keptBy {q : List QueueEntry} {e : QueueEntry} (h : e ∈ keptBy p code q) :
    ∃ e', e' ∈ q ∧ e.dest = e'.dest ∧ e.inFlight = e'.inFlight ∧ (p e' = true → e'.inFlight = true) := by
  simp only [keptBy, List.mem_map, List.mem_filter] at h
  obtain ⟨e', ⟨he', hkept⟩, rfl⟩ := h
  refine ⟨e', he', ?_, ?_, fun hp => by simpa [hp] using hkept⟩
  · split <;> rfl
  · split <;> rfl

theorem inFlight_of_purgePeerLeft {e : QueueEntry} (he : e ∈ (purgePeerLeft i s).queue c) (hdest : e.dest.val = i.val) :
    e.inFlight = true := by
  rw [purgePeerLeft, purgeQueues_queue] at he
  obtain ⟨e', -, hdest', hflight, hnamed⟩ := of_mem_keptBy he
  rw [hflight]
  exact hnamed (by simp [QueueEntry.isFor, ← hdest', hdest])

/-! ### Results only appended, entries only retired -/

/-- Between the two states results were only appended, none where no entry was queued, and the queued entries are among
those there were. -/
structure Retires (s t : State) : Prop where
  results : ∃ more, t.cpt.results = s.cpt.results ++ more
  idle : (∀ c, s.queue c = []) → t.cpt.results = s.cpt.results
  queued : ∀ c e, e ∈ t.queue c → ∃ e', e' ∈ s.queue c ∧ e.dest = e'.dest ∧ e.inFlight = e'.inFlight

theorem retires_of_same (hresults : t.cpt.results = s.cpt.results) (hqueues : t.txs.queues = s.txs.queues) : Retires s t :=
  ⟨⟨[], by simp [hresults]⟩, fun _ => hresults, fun c e he => ⟨e, by rwa [queue_congr hqueues] at he, rfl, rfl⟩⟩

theorem Retires.empty (h : Retires s t) (hempty : ∀ c, s.queue c = []) (c : CardClass) : t.queue c = [] := by
  refine List.eq_nil_iff_forall_not_mem.mpr fun e he => ?_
  obtain ⟨e', he', -⟩ := h.queued c e he
  rw [hempty c] at he'
  exact List.not_mem_nil he'

theorem Retires.trans (h : Retires s t) (h' : Retires t u) : Retires s u := by
  obtain ⟨more, hmore⟩ := h.results
  obtain ⟨more', hmore'⟩ := h'.results
  refine ⟨⟨more ++ more', by rw [hmore', hmore, List.append_assoc]⟩,
    fun hempty => (h'.idle (h.empty hempty)).trans (h.idle hempty), fun c e he => ?_⟩
  obtain ⟨e', he', hdest, hflight⟩ := h'.queued c e he
  obtain ⟨e'', he'', hdest', hflight'⟩ := h.queued c e' he'
  exact ⟨e'', he'', hdest.trans hdest', hflight.trans hflight'⟩

theorem Retires.after (h : Retires t u) (hresults : t.cpt.results = s.cpt.results) (hqueues : t.txs.queues = s.txs.queues) :
    Retires s u := (retires_of_same hresults hqueues).trans h

theorem purgeQueue_retires (p : QueueEntry → Bool) (code : ResultCode) (c : CardClass) (s : State) :
    Retires s (purgeQueue p code c s) := by
  refine ⟨⟨_, purgeQueue_results p code c s⟩, fun hempty => ?_, fun d e he => ?_⟩
  · simp [purgeQueue_results, hempty, purgedBy]
  · rw [purgeQueue_queue] at he
    split at he
    next h =>
      obtain ⟨e', he', hdest, hflight, -⟩ := of_mem_keptBy he
      exact ⟨e', h ▸ he', hdest, hflight⟩
    next => exact ⟨e, he, rfl, rfl⟩

theorem reevaluate_retires (before : Bool) (s : State) : Retires s (reevaluate before s) := by
  unfold reevaluate
  split
  · exact retires_of_same rfl rfl
  · split
    · exact retires_of_same (by simp) (by simp)
    · exact Retires.after (purgeQueue_retires (fun _ => true) .timeLost .deadline _) rfl rfl

theorem setServo_retires (v : Servo) (s : State) : Retires s (setServo v s) := by
  unfold setServo
  split
  · exact retires_of_same rfl rfl
  · exact (retires_of_same (by simp) (by simp)).trans (reevaluate_retires _ _)

theorem setRole_retires (r : Role) (s : State) : Retires s (setRole r s) := by
  unfold setRole
  split
  · exact retires_of_same rfl rfl
  · exact (retires_of_same (by simp) (by simp)).trans (reevaluate_retires _ _)

theorem enterHoldover_retires (s : State) : Retires s (enterHoldover s) := by
  have hservo := setServo_retires .holdover { s with tmu := { s.tmu with rate := s.tmu.integral, outlierCount := 0 } }
  exact (hservo.after (s := s) rfl rfl).trans (retires_of_same (by simp [enterHoldover]) (by simp [enterHoldover]))

theorem loseSource_retires (s : State) : Retires s (loseSource s) := by
  unfold loseSource
  split
  · exact enterHoldover_retires s
  · split
    · exact enterHoldover_retires s
    · exact setServo_retires .free s
  · exact retires_of_same rfl rfl
  · exact retires_of_same rfl rfl

theorem changeSelection_retires (sel : Option Slot) (s : State) : Retires s (changeSelection sel s) := by
  have hrole : ∀ r, Retires s (setRole r (signal .sourceChange
      { s with src := { s.src with selection := sel, syncTimeout := s.syncTimeoutFor sel } })) := fun r =>
    (retires_of_same (by simp) (by simp)).trans (setRole_retires r _)
  unfold changeSelection
  dsimp only
  split
  · exact (hrole _).trans (loseSource_retires _)
  · exact hrole _

theorem runSelection_retires (s : State) : Retires s (runSelection s) := by
  have hselect : Retires s (selectSource s) := by
    unfold selectSource
    dsimp only
    split
    · exact retires_of_same rfl rfl
    · exact changeSelection_retires _ s
  exact hselect.trans (retires_of_same (by simp [runSelection]) (by simp [runSelection]))

theorem dropSource_retires (i : Slot) (s : State) : Retires s (dropSource i s) := by
  unfold dropSource
  split
  · exact Retires.after (runSelection_retires _) rfl rfl
  · exact retires_of_same rfl rfl

/-! ### The counters of the source selector: T1, T2 and T5 alone may count (R163) -/

theorem enterHoldover_countersSame (s : State) : CountersSame [.raisesDropped, .evictions] s (enterHoldover s) := by
  unfold enterHoldover
  exact (countersSame_of_eq (by simp)).trans (raiseKey_countersSame _ _ _)

theorem loseSource_countersSame (s : State) : CountersSame [.raisesDropped, .evictions] s (loseSource s) := by
  unfold loseSource
  split
  · exact enterHoldover_countersSame s
  · split
    · exact enterHoldover_countersSame s
    · exact countersSame_of_eq (setServo_counters .free s)
  · exact countersSame_of_eq rfl
  · exact countersSame_of_eq rfl

@[simp] theorem setRole_counters (r : Role) (s : State) : (setRole r s).counters = s.counters := by
  unfold setRole
  split
  · rfl
  · simp

theorem runSelection_countersSame (s : State) : CountersSame [.raisesDropped, .evictions] s (runSelection s) := by
  have hselect : CountersSame [.raisesDropped, .evictions] s (selectSource s) := by
    unfold selectSource changeSelection
    dsimp only
    split
    · exact countersSame_of_eq rfl
    · split
      · exact (countersSame_of_eq (by simp)).trans (loseSource_countersSame _)
      · exact countersSame_of_eq (by simp)
  refine hselect.trans ?_
  unfold runSelection judgeSourceLost
  dsimp only
  split
  · exact countersSame_of_eq rfl
  · split
    · exact raiseKey_countersSame _ _ _
    · exact countersSame_of_eq (by simp)

theorem dropSource_countersSame (i : Slot) (s : State) : CountersSame [.raisesDropped, .evictions] s (dropSource i s) := by
  unfold dropSource
  split
  · exact (countersSame_of_eq rfl).trans (runSelection_countersSame _)
  · exact countersSame_of_eq rfl

end Sys2Proof.Machine
end

section
/-! Peers that come and go: the hand-offs of a change of an entry's state (R67), restarts with their renumbering (R24),
the frames JOIN, WITHDRAW and GONE, SUMMARY and READY, and the timers of the peer and source tables. -/

namespace Sys2Proof.Machine

open Sys2Proof

variable {s t : State} {i : Slot} {k : FrameKind} {body : List Byte} {stamp : FullTime} {old : PeerState} {r : Bool}

/-! ### Hand-offs (R67) -/

/-- A good frame heard is the entry's update, what its kind does, and the hand-offs (R65 to R67). -/
theorem hearFrame_eq (hh : Hearing s i stamp) (act : FullTime → State → State) : hearFrame i k body act s =
    reportDrained (handOff i (s.peer i).state (restarts k (s.peer i).state) (act stamp (heardFrom i k body s))) := by
  rw [hearFrame_of_hearing hh, hearPeer, heardState_peer]
  rfl

/-- A sender that is PRESENT afterwards hands on the peer view at most. -/
theorem handOff_of_present (hnew : (s.peer i).state = .present) (old : PeerState) (r : Bool) : handOff i old r s =
    if old = .present then (if r then signal .peerChange s else s)
    else signal .peerChange (if countChanges old .present then noticePeerView s else s) := by
  unfold handOff
  dsimp only
  by_cases hold : old = .present
  · subst hold
    simp [hnew]
  · have hne : ¬ PeerState.present = old := fun h => hold h.symm
    have hdrop : dropDeparted i s = s := by simp [dropDeparted, hnew]
    have hpurge : purgeDeparted i s = s := by simp [purgeDeparted, hnew]
    simp [hnew, hold, hne, hdrop, hpurge]

theorem handOff_of_present_fields (hnew : (s.peer i).state = .present) (old : PeerState) (r : Bool) :
    (handOff i old r s).txs = s.txs ∧ (handOff i old r s).ptb = s.ptb ∧ (handOff i old r s).tmu = s.tmu
      ∧ (handOff i old r s).src = s.src ∧ (handOff i old r s).counters = s.counters
      ∧ (handOff i old r s).alu.table = s.alu.table ∧ (handOff i old r s).cpt.results = s.cpt.results := by
  rw [handOff_of_present hnew]
  split
  · split <;> simp
  · split <;> simp

/-- The state of an entry that becomes GONE or LOST: the purge comes before every other hand-off. -/
theorem handOff_departed (hne : (s.peer i).state ≠ old) (hnew : (s.peer i).state = .gone ∨ (s.peer i).state = .lost) :
    Retires (purgePeerLeft i (dropDeparted i s)) (handOff i old r s) := by
  have hstate : ((dropDeparted i s).peer i).state = (s.peer i).state := by
    rcases hnew with h | h <;> simp [dropDeparted, h, PeerEntry.unblocked]
  have hpurge : purgeDeparted i (dropDeparted i s) = purgePeerLeft i (dropDeparted i s) := by
    rcases hnew with h | h <;> simp [purgeDeparted, hstate, h]
  unfold handOff
  dsimp only
  rw [if_neg hne, hpurge]
  refine Retires.trans (t := if old = .present then dropSource i (purgePeerLeft i (dropDeparted i s))
    else purgePeerLeft i (dropDeparted i s)) ?_ ?_
  · split
    · exact dropSource_retires i _
    · exact retires_of_same rfl rfl
  · exact retires_of_same (by split <;> split <;> simp) (by split <;> split <;> simp)

/-- PEER LEFT of every queued frame to the slot but one in flight, before any other result (R37, R67). -/
theorem handOff_purges (hne : (s.peer i).state ≠ old) (hnew : (s.peer i).state = .gone ∨ (s.peer i).state = .lost) :
    (∃ more, (handOff i old r s).cpt.results = s.cpt.results
        ++ ((s.queue .control ++ s.queue .deadline ++ s.queue .bulk).filter
              (fun e => decide (e.dest.val = i.val) && !e.inFlight)).map
            (fun e => { tag := e.tag, code := .peerLeft, attempts := e.attempts }) ++ more)
      ∧ ∀ c e, e ∈ (handOff i old r s).queue c → e.dest.val = i.val → e.inFlight = true := by
  have hleft := handOff_departed (r := r) hne hnew
  obtain ⟨more, hmore⟩ := hleft.results
  refine ⟨⟨more, ?_⟩, fun c e he hdest => ?_⟩
  · rw [hmore, purgePeerLeft, purgeQueues_results]
    simp [State.queue, purgedBy, QueueEntry.isFor, QueueEntry.result]
  · obtain ⟨e', he', hdest', hflight⟩ := hleft.queued c e he
    rw [hflight]
    exact inFlight_of_purgePeerLeft he' (by rw [← hdest', hdest])

theorem purgePeerLeft_countersSame (i : Slot) (s : State) : CountersSame [.peerLeft] s (purgePeerLeft i s) := by
  intro j hj
  have hpurge : ∀ c u, (purgeQueue (QueueEntry.isFor i) .peerLeft c u).counter j = u.counter j := fun c u => by
    have hother : j ≠ .peerLeft := fun h => hj (by simp [h])
    simp only [purgeQueue, countResults, resultCounter, counter_bumpBy, if_neg hother]
    exact counter_congr (by simp) j
  simp [purgePeerLeft, purgeQueues, hpurge]

theorem CountersSame.mono {l l' : List CounterId} (h : CountersSame l s t) (hsub : ∀ j, j ∈ l → j ∈ l') :
    CountersSame l' s t := fun j hj => h j fun hmem => hj (hsub j hmem)

/-- The counters a hand-off may count on (R44, R163). -/
def handOffCounters : List CounterId := [.peerLeft, .raisesDropped, .evictions]

theorem purgeDeparted_countersSame (i : Slot) (s : State) : CountersSame handOffCounters s (purgeDeparted i s) := by
  have hleft : CountersSame handOffCounters s (purgePeerLeft i s) :=
    (purgePeerLeft_countersSame i s).mono (by simp [handOffCounters])
  unfold purgeDeparted
  cases (s.peer i).state with
  | gone => exact hleft
  | lost => exact hleft
  | absent => exact hleft
  | present => exact countersSame_of_eq rfl
  | draining => exact countersSame_of_eq rfl

theorem handOff_countersSame (i : Slot) (old : PeerState) (r : Bool) (s : State) :
    CountersSame handOffCounters s (handOff i old r s) := by
  have hpurge : CountersSame handOffCounters s (purgeDeparted i (dropDeparted i s)) :=
    CountersSame.trans (countersSame_of_eq (by simp)) (purgeDeparted_countersSame i _)
  unfold handOff
  dsimp only
  split
  · exact countersSame_of_eq (by split <;> simp)
  · refine hpurge.trans (CountersSame.trans (t := if old = .present then dropSource i (purgeDeparted i (dropDeparted i s))
      else purgeDeparted i (dropDeparted i s)) ?_ ?_)
    · split
      · exact (dropSource_countersSame i _).mono (by simp [handOffCounters])
      · exact countersSame_of_eq rfl
    · exact countersSame_of_eq (by split <;> split <;> simp)

/-! ### Restarts (R24, R68, R69) -/

/-- A queued entry without its sequence number. -/
def QueueEntry.unnumbered (e : QueueEntry) : QueueEntry := { e with sequence := none }

theorem renumber_unnumbered (i : Slot) (n : Byte) (q : List QueueEntry) :
    (renumber i n q).1.map QueueEntry.unnumbered = q.map QueueEntry.unnumbered := by
  induction q generalizing n with
  | nil => rfl
  | cons e rest ih => by_cases h : e.isFor i <;> simp [renumber, h, ih, QueueEntry.unnumbered]

theorem renumber_other (i : Slot) (n : Byte) (q : List QueueEntry) (m : Nat) (e e' : QueueEntry)
    (he : q[m]? = some e) (he' : (renumber i n q).1[m]? = some e') (hother : e.isFor i = false) : e' = e := by
  induction q generalizing n m with
  | nil => exact absurd he nofun
  | cons x rest ih =>
    cases m with
    | zero =>
      obtain rfl : x = e := by simpa using he
      simpa [renumber, hother, eq_comm] using he'
    | succ m =>
      have hrest : rest[m]? = some e := by simpa using he
      by_cases hx : x.isFor i
      · exact ih (n + 1) m hrest (by simpa [renumber, hx] using he')
      · exact ih n m hrest (by simpa [renumber, hx] using he')

theorem renumber_next (i : Slot) (n : Byte) (q : List QueueEntry) :
    (renumber i n q).2 = n + BitVec.ofNat 8 (q.filter (QueueEntry.isFor i)).length := by
  induction q generalizing n with
  | nil => simp [renumber]
  | cons e rest ih =>
    by_cases h : e.isFor i
    · simp only [renumber, h, if_true, ih, List.filter_cons_of_pos, List.length_cons]
      bv_omega
    · simp [renumber, h, ih]

theorem renumber_sequences (i : Slot) (n : Byte) (q : List QueueEntry) :
    ((renumber i n q).1.filter (QueueEntry.isFor i)).map QueueEntry.sequence
      = (List.range (q.filter (QueueEntry.isFor i)).length).map (fun m => some (n + BitVec.ofNat 8 m)) := by
  induction q generalizing n with
  | nil => rfl
  | cons e rest ih =>
    by_cases h : e.isFor i
    · have hsame : QueueEntry.isFor i { e with sequence := some n } = true := h
      simp only [renumber, h, if_true, hsame, List.filter_cons_of_pos, List.map_cons, List.length_cons, ih,
        List.range_succ_eq_map, List.map_map]
      congr 1
      · simp
      · refine List.map_congr_left fun m _ => ?_
        simp only [Function.comp]
        congr 1
        bv_omega
    · simp [renumber, h, ih]

/-- What a restart leaves of the queues and sequence counters (R24). -/
structure Renumbered (i : Slot) (s t : State) : Prop where
  entries : ∀ c, (t.queue c).map QueueEntry.unnumbered = (s.queue c).map QueueEntry.unnumbered
  others : ∀ c (n : Nat) e e', (s.queue c)[n]? = some e → (t.queue c)[n]? = some e' → e.dest.val ≠ i.val → e' = e
  sequences : ∀ c, ((t.queue c).filter (QueueEntry.isFor i)).map QueueEntry.sequence
    = (List.range ((s.queue c).filter (QueueEntry.isFor i)).length).map (fun n => some (BitVec.ofNat 8 n))
  next : ∀ c, (t.txs.nextSeq[i]).get c = BitVec.ofNat 8 ((s.queue c).filter (QueueEntry.isFor i)).length
  counters : ∀ j : Slot, j ≠ i → t.txs.nextSeq[j] = s.txs.nextSeq[j]

theorem resetSequence_queue (i : Slot) (c : CardClass) (s : State) :
    (resetSequence i s).queue c = (renumber i 0 (s.queue c)).1 := by cases c <;> rfl

theorem resetSequence_renumbered (i : Slot) (s : State) : Renumbered i s (resetSequence i s) where
  entries c := by rw [resetSequence_queue, renumber_unnumbered]
  others c n e e' he he' hne := by
    rw [resetSequence_queue] at he'
    exact renumber_other i 0 _ n e e' he he' (by simpa [QueueEntry.isFor] using hne)
  sequences c := by
    rw [resetSequence_queue, renumber_sequences]
    simp
  next c := by
    have hnext := renumber_next i 0 (s.queue c)
    cases c <;> simpa [resetSequence, State.queue, PerClass.get] using hnext
  counters j hj := by
    have hne : i.val ≠ j.val := fun h => hj (Fin.ext h.symm)
    simp [resetSequence, hne]

theorem Renumbered.congr_right {u : State} (h : Renumbered i s t) (hqueues : u.txs.queues = t.txs.queues)
    (hnext : u.txs.nextSeq = t.txs.nextSeq) : Renumbered i s u := by
  obtain ⟨h1, h2, h3, h4, h5⟩ := h
  constructor <;> simpa only [queue_congr hqueues, hnext]

theorem Renumbered.congr_left {u : State} (h : Renumbered i s t) (hqueues : u.txs.queues = s.txs.queues)
    (hnext : u.txs.nextSeq = s.txs.nextSeq) : Renumbered i u t := by
  obtain ⟨h1, h2, h3, h4, h5⟩ := h
  constructor <;> simpa only [queue_congr hqueues, hnext]

theorem setPeer_counter (i : Slot) (e : PeerEntry) (s : State) (j : CounterId) : (s.setPeer i e).counter j = s.counter j := rfl

theorem restartPeer_counter (i : Slot) (k : FrameKind) (s : State) (j : CounterId) : (restartPeer i k s).counter j =
    if j = .impliedJoins ∧ k ≠ .join then satAdd (s.counter .impliedJoins) 1 else s.counter j := by
  have hreset : ∀ j, (resetSequence i (s.setPeer i (s.peer i).forgotten)).counter j = s.counter j :=
    fun j => counter_congr (by simp) j
  unfold restartPeer
  by_cases hk : k = .join
  · simp [hk, hreset]
  · simp [hk, counter_bump, hreset]

theorem updateEntry_restarted_counter (hr : restarts k (s.peer i).state = true) (j : CounterId) :
    (updateEntry i k body s).counter j =
      if j = .impliedJoins ∧ k ≠ .join then satAdd (s.counter .impliedJoins) 1 else s.counter j := by
  have hcount : ∀ j, (countFrame i (s.setPeer i { s.peer i with age := some 0 })).counter j = s.counter j :=
    fun j => counter_congr (by simp) j
  unfold updateEntry
  simp only [hr, if_true]
  rw [setPeer_counter, restartPeer_counter, hcount, hcount]

section
variable (hr : restarts k (s.peer i).state = true)
include hr

theorem heardFrom_restarted : Renumbered i s (heardFrom i k body s) := by
  have hr' : restarts k ((heardState s i).peer i).state = true := by rwa [heardState_peer]
  have hrenumbered := resetSequence_renumbered i s
  refine hrenumbered.congr_right ?_ ?_
  · unfold heardFrom updateEntry restartPeer
    dsimp only
    rw [if_pos hr']
    split <;> simp [resetSequence, State.queue, heardState]
  · unfold heardFrom updateEntry restartPeer
    dsimp only
    rw [if_pos hr']
    split <;> simp [resetSequence, State.queue, heardState]

theorem heardFrom_restarted_counter (j : CounterId) : (heardFrom i k body s).counter j =
    if j = .framesHeard then satAdd (s.counter .framesHeard) 1
    else if j = .impliedJoins ∧ k ≠ .join then satAdd (s.counter .impliedJoins) 1 else s.counter j := by
  have hr' : restarts k ((heardState s i).peer i).state = true := by rwa [heardState_peer]
  have hheard : ∀ j, (heardState s i).counter j = (bump .framesHeard s).counter j := fun j => counter_congr rfl j
  rw [heardFrom, updateEntry_restarted_counter hr', hheard, hheard, counter_bump, counter_bump]
  by_cases hj : j = .impliedJoins <;> simp [hj]

theorem heardFrom_restarted_peer (j : Slot) : (heardFrom i k body s).peer j = if j = i then
    { (s.peer i).heard.forgotten.recorded s.cabinet k body with state := stateAfter k (s.peer i).state } else s.peer j := by
  have hcab : (heardState s i).cabinet = s.cabinet := by simp [State.cabinet, heardState]
  rw [heardFrom, updateEntry_peer, heardState_peer, heardState_peer, hr, hcab]
  rfl

end

end Sys2Proof.Machine
end

section
/-! JOIN, WITHDRAW and GONE heard, SUMMARY and READY heard, and the timers of the peer and the source table, each as the
update of the sender's entry and its hand-offs (R67 to R72, R78, R79, R103, R105), and the late removal (R31). -/

namespace Sys2Proof.Machine

open Sys2Proof

variable {s t : State} {i : Slot} {k : FrameKind} {body : List Byte} {stamp : FullTime} {old : PeerState} {r : Bool}

theorem Renumbered.queued (h : Renumbered i s t) : t.queued = s.queued := by
  have hlength : ∀ c, (t.queue c).length = (s.queue c).length := fun c => by
    simpa using congrArg List.length (h.entries c)
  simp only [State.queued, hlength]

theorem peer_congr (h : t.ptb = s.ptb) (j : Slot) : t.peer j = s.peer j := by rw [State.peer, State.peer, h]

theorem results_of_onlyEventsPlaced (h : OnlyEventsPlaced s t) : t.cpt.results = s.cpt.results := by rw [h.1]

/-- A PRESENT peer that changes its state leaves the source table (R67, R105). -/
theorem handOff_drops (hold : old = .present) (hne : (s.peer i).state ≠ old) :
    findSource i (handOff i old r s).src.table = none := by
  have hdropped : findSource i (dropSource i (purgeDeparted i (dropDeparted i s))).src.table = none := by
    rw [dropSource_findSource, if_pos rfl]
  unfold handOff
  dsimp only
  rw [if_neg hne, if_pos hold]
  split <;> simpa using hdropped

theorem handOff_onlyEventsPlaced (hresults : (handOff i old r s).cpt.results = s.cpt.results) :
    OnlyEventsPlaced s (handOff i old r s) :=
  onlyEventsPlaced_of_fields (by simp [hresults]) fun _ he => handOff_events _ _ _ _ he

/-- What a frame leaves that makes its sender PRESENT with nothing to do but the entry's update (R67). -/
theorem hearFrame_present_fields (hh : Hearing s i stamp) (hdrained : LawDrained s)
    {act : FullTime → State → State} (hact : act stamp (heardFrom i k body s) = t)
    (hstate : (t.peer i).state = .present) (hsec : t.sec.state = s.sec.state)
    (hreported : t.txs.drainedReported = s.txs.drainedReported) (hqueued : t.queued = s.queued)
    (htx : t.bau.tx = s.bau.tx) :
    hearFrame i k body act s = handOff i (s.peer i).state (restarts k (s.peer i).state) t := by
  obtain ⟨htxs, -⟩ := handOff_of_present_fields hstate (s.peer i).state (restarts k (s.peer i).state)
  rw [hearFrame_eq hh, hact]
  refine reportDrained_of_lawDrained hdrained (by simpa using hsec) (by rw [htxs, hreported]) ?_ (by simpa using htx)
  rw [← hqueued, State.queued, State.queued, queue_congr (congrArg _ htxs), queue_congr (congrArg _ htxs),
    queue_congr (congrArg _ htxs)]

theorem heardFrom_drainedReported (i : Slot) (k : FrameKind) (body : List Byte) (s : State) :
    (heardFrom i k body s).txs.drainedReported = s.txs.drainedReported
      ∧ (heardFrom i k body s).txs.slots = s.txs.slots ∧ (heardFrom i k body s).txs.storeFree = s.txs.storeFree := by
  simp [heardFrom, heardState]

theorem unnumbered_eq (q : List QueueEntry) :
    q.map (fun e => { e with sequence := none }) = q.map QueueEntry.unnumbered := rfl

/-- Settles O40. -/
theorem joinHeard : Obligations.JoinHeard := by
  unfold Obligations.JoinHeard
  intro i body stamp s hh hdrained
  have hr : restarts .join (s.peer i).state = true := rfl
  obtain ⟨hbau, hrxp, htmu, hsrc, hsec, halu, hstl, hpins, hahead, hpending⟩ := heardFrom_frame i .join body s
  obtain ⟨hreported, hslots, hfree⟩ := heardFrom_drainedReported i .join body s
  have hpeer := heardFrom_restarted_peer (body := body) hr
  have hrenumbered := heardFrom_restarted (body := body) hr
  have hstate : ((heardFrom i .join body s).peer i).state = .present := by rw [hpeer, if_pos rfl]; rfl
  have hframe : hearFrame i .join body (fun _ => id) s = handOff i (s.peer i).state true (heardFrom i .join body s) :=
    hearFrame_present_fields hh hdrained rfl hstate (by rw [hsec]) hreported hrenumbered.queued (by rw [hbau]; rfl)
  obtain ⟨htxs', hptb', htmu', hsrc', hcounters', htable', hresults'⟩ := handOff_of_present_fields hstate (s.peer i).state true
  have hpeer' : ∀ j, (handOff i (s.peer i).state true (heardFrom i .join body s)).peer j = (heardFrom i .join body s).peer j :=
    peer_congr hptb'
  have hcounter' : ∀ j, (handOff i (s.peer i).state true (heardFrom i .join body s)).counter j
      = (heardFrom i .join body s).counter j := fun j => counter_congr hcounters' j
  obtain ⟨hentries, hothers, hsequences, hnext, hcounters⟩ := hrenumbered.congr_right (congrArg _ htxs') (congrArg _ htxs')
  refine ⟨_, congrArg Host.Outcome.next hframe, by simp [hbau], ?_, fun j hj => ?_, handOff_peerChange _ _ _ _ (.inr rfl),
    onlyEventsPlaced_trans (heardFrom_onlyEventsPlaced _ _ _ _) (handOff_onlyEventsPlaced hresults'), ?_, fun j hj => ?_,
    fun c => ⟨?_, fun n e e' he he' hne => hothers c n e e' he he' hne, hsequences c, hnext c⟩, hcounters, ?_, ?_,
    onlyAlarmsChanged_of_fields (by simp [halu]), by rw [htable', halu], ?_⟩
  · rw [hpeer', hpeer, if_pos rfl]
    rfl
  · rw [hpeer', hpeer, if_neg hj]
  · rw [Counted, hcounter', heardFrom_restarted_counter hr]
    rfl
  · rw [hcounter', heardFrom_restarted_counter hr]
    simp [show j ≠ .framesHeard from fun h => hj (by simp [h])]
  · rw [unnumbered_eq, unnumbered_eq, hentries]
  · rw [htxs', hslots]
  · rw [htxs', hfree]
  · simp [sameOutside_iff, hrxp, htmu', htmu, hsrc', hsrc, hsec, hstl, hpins, hahead, hpending]

/-! ### WITHDRAW and GONE (R70, R71) -/

theorem restarts_of_not_gone (hk : k ≠ .join) (hp : (s.peer i).state ≠ .gone) : restarts k (s.peer i).state = false := by
  simp [restarts, hk, hp]

theorem withdrawCauseOf_of_byte (b : Byte) :
    (b = 1 → withdrawCauseOf b = .ejector) ∧ (b = 2 → withdrawCauseOf b = .card) := by
  constructor <;> rintro rfl <;> decide

theorem heardFrom_counted_of_no_restart (hr : restarts k (s.peer i).state = false) :
    Counted .framesHeard s (heardFrom i k body s) :=
  (counter_congr (heardFrom_quiet_of_no_restart hr).2 .framesHeard).trans (by rw [counter_bump]; rfl)

theorem handOff_counted {c : CounterId} {u : State} (hc : c ∉ handOffCounters) (h : Counted c u s) :
    Counted c u (handOff i old r s) := (handOff_countersSame i old r s c hc).trans h

/-- Settles O41. -/
theorem peersLeaving : Obligations.PeersLeaving := by
  unfold Obligations.PeersLeaving
  refine ⟨fun i body stamp s hh hnot => ?_, fun i body stamp s hh hnot => ?_, fun i body stamp s hh hgone hdrained => ?_⟩
  · have hr := restarts_of_not_gone (k := .withdraw) nofun hnot
    obtain ⟨hbau, hrxp, htmu, hsrc, hsec, halu, hstl, hpins, hahead, hpending⟩ := heardFrom_frame i .withdraw body s
    have hpeer := heardFrom_peer_of_no_restart (body := body) hr
    have hstate : ((heardFrom i .withdraw body s).peer i).state = .draining := by rw [hpeer, if_pos rfl]; rfl
    have hframe : hearFrame i .withdraw body (fun _ => id) s
        = reportDrained (handOff i (s.peer i).state false (heardFrom i .withdraw body s)) := by rw [hearFrame_eq hh, hr]; rfl
    have hpeer' : ∀ j, (reportDrained (handOff i (s.peer i).state false (heardFrom i .withdraw body s))).peer j
        = (heardFrom i .withdraw body s).peer j := fun j => by
      rw [reportDrained_peer, handOff_peer]
      simp [hstate]
    refine ⟨_, withdrawCauseOf (byteAt body 0), congrArg Host.Outcome.next hframe, by simp [hbau], ?_,
      (withdrawCauseOf_of_byte _).1, (withdrawCauseOf_of_byte _).2, fun j hj => ?_,
      reportDrained_counted (handOff_counted (by decide) (heardFrom_counted_of_no_restart hr)), fun hne => ?_, fun hpresent => ?_,
      fun hne => ?_, by simp [htmu], ?_⟩
    · rw [hpeer', hpeer, if_pos rfl]
      rfl
    · rw [hpeer', hpeer, if_neg hj]
    · simpa using handOff_peerChange i (s.peer i).state false (heardFrom i .withdraw body s)
        (.inl (by rw [hstate]; exact fun h => hne h.symm))
    · simp only [reportDrained_frame]
      exact handOff_drops hpresent (by rw [hstate, hpresent]; nofun)
    · obtain ⟨hsrc', htmu', -⟩ := handOff_of_ne_present i (s.peer i).state false (heardFrom i .withdraw body s) hne
      simp [hsrc', htmu', hsrc, htmu]
    · simp [sameOutside_iff, hrxp, hsec, hstl, hpins, hahead, hpending]
  · have hr := restarts_of_not_gone (k := .gone) nofun hnot
    obtain ⟨hbau, hrxp, htmu, hsrc, hsec, halu, hstl, hpins, hahead, hpending⟩ := heardFrom_frame i .gone body s
    obtain ⟨htxs, -⟩ := heardFrom_quiet_of_no_restart (body := body) hr
    have hresults := results_of_onlyEventsPlaced (heardFrom_onlyEventsPlaced i .gone body s)
    have hpeer := heardFrom_peer_of_no_restart (body := body) hr
    have hstate : ((heardFrom i .gone body s).peer i).state = .gone := by rw [hpeer, if_pos rfl]; rfl
    have hne : ((heardFrom i .gone body s).peer i).state ≠ (s.peer i).state := by
      rw [hstate]
      exact fun h => hnot h.symm
    have hframe : hearFrame i .gone body (fun _ => id) s
        = reportDrained (handOff i (s.peer i).state false (heardFrom i .gone body s)) := by rw [hearFrame_eq hh, hr]; rfl
    obtain ⟨⟨more, hmore⟩, hflight⟩ := handOff_purges (r := false) hne (.inl hstate)
    have hqueue : ∀ c, (heardFrom i .gone body s).queue c = s.queue c := queue_congr (congrArg _ htxs)
    rw [hresults, hqueue, hqueue, hqueue] at hmore
    refine ⟨_, more, congrArg Host.Outcome.next hframe, by simp [hbau], ?_, fun j hj => ?_,
      reportDrained_counted (handOff_counted (by decide) (heardFrom_counted_of_no_restart hr)), ?_, fun c e he => ?_,
      by simpa using hmore, by simp [htmu], ?_⟩
    · rw [reportDrained_peer, handOff_peer, if_pos ⟨rfl, hne, .inl hstate⟩, hpeer, if_pos rfl]
      rfl
    · rw [reportDrained_peer, handOff_peer, if_neg (fun h => hj h.1), hpeer, if_neg hj]
    · simpa using handOff_peerChange i (s.peer i).state false (heardFrom i .gone body s) (.inl hne)
    · exact hflight c e (by simpa [State.queue] using he)
    · simp [sameOutside_iff, hrxp, hsec, hstl, hpins, hahead, hpending]
  · have hr : restarts .gone (s.peer i).state = true := by rw [hgone]; rfl
    obtain ⟨hbau, hrxp, htmu, hsrc, hsec, halu, hstl, hpins, hahead, hpending⟩ := heardFrom_frame i .gone body s
    have hresults := results_of_onlyEventsPlaced (heardFrom_onlyEventsPlaced i .gone body s)
    have hpeer := heardFrom_restarted_peer (body := body) hr
    have hstate : ((heardFrom i .gone body s).peer i).state = .gone := by rw [hpeer, if_pos rfl]; rfl
    have hframe : hearFrame i .gone body (fun _ => id) s = reportDrained (signal .peerChange (heardFrom i .gone body s)) := by
      rw [hearFrame_eq hh, hr, hgone, handOff]
      simp [hstate]
    have hpeer' : ∀ j, (reportDrained (signal .peerChange (heardFrom i .gone body s))).peer j
        = (heardFrom i .gone body s).peer j := fun j => by simp [State.peer]
    refine ⟨_, congrArg Host.Outcome.next hframe, ?_, ?_, fun j hj => ?_, by simp, ?_, by simp [hresults], ?_⟩
    · rw [hpeer', hstate]
    · rw [hpeer', hpeer, if_pos rfl]
      rfl
    · rw [hpeer', hpeer, if_neg hj]
    · have hcounter : (reportDrained (signal .peerChange (heardFrom i .gone body s))).counter .impliedJoins
          = (heardFrom i .gone body s).counter .impliedJoins := counter_congr (by simp) _
      rw [Counted, hcounter, heardFrom_restarted_counter hr]
      rfl
    · simp [sameOutside_iff, hrxp, htmu, hsrc, hsec, halu, hstl, hpins, hahead, hpending]

end Sys2Proof.Machine
end

section
/-! SUMMARY and READY heard (R78, R79), frames that make their sender PRESENT (R68), the timers of the peer and source
tables (R72, R78, R103, R105), and the late removal (R31). -/

namespace Sys2Proof.Machine

open Sys2Proof

variable {s t : State} {i : Slot} {k : FrameKind} {body : List Byte} {stamp : FullTime} {old : PeerState} {r : Bool}

/-! ### What the kinds of frame do beyond the entry's update -/

theorem storeSummary_peer (i j : Slot) (body : List Byte) (s : State) : (storeSummary i body s).peer j =
    if j = i then { s.peer i with summary := some (readSummary body) } else s.peer j := by
  have hpeer : (storeSummary i body s).peer j = (s.setPeer i { s.peer i with summary := some (readSummary body) }).peer j :=
    peer_congr (by simp [storeSummary]) j
  rw [hpeer]
  by_cases hj : j = i
  · subst hj
    simp
  · simp [hj, State.peer_setPeer_ne]

/-- An entry that took a READY (R78). -/
def PeerEntry.ready (e : PeerEntry) : PeerEntry :=
  { e with blocked := false, blockedTimer := if e.blocked then none else e.blockedTimer }

theorem hearReady_peer (i j : Slot) (s : State) : (hearReady i s).peer j = if j = i then (s.peer i).ready else s.peer j := by
  unfold hearReady
  by_cases hblocked : (s.peer i).blocked
  · by_cases hj : j = i
    · subst hj
      simp [hblocked, PeerEntry.unblocked, PeerEntry.ready]
    · simp [hblocked, hj, State.peer_setPeer_ne]
  · by_cases hj : j = i
    · subst hj
      have hclear : (s.peer j).blocked = false := by simpa using hblocked
      simp [PeerEntry.ready, hclear]
      rw [← hclear]
    · simp [hblocked, hj]

/-- What an act on a frame leaves of the entry's update: states and ages, FRAMES HEARD and IMPLIED JOINS, and the sequence
counters. -/
structure ActsMildly (s t : State) : Prop where
  peers : ∀ j, (t.peer j).state = (s.peer j).state ∧ (t.peer j).age = (s.peer j).age
  counted : t.counter .framesHeard = s.counter .framesHeard ∧ t.counter .impliedJoins = s.counter .impliedJoins
  nextSeq : t.txs.nextSeq = s.txs.nextSeq

theorem actsMildly_of_counters {l : List CounterId} (hpeers : ∀ j, (t.peer j).state = (s.peer j).state ∧ (t.peer j).age = (s.peer j).age)
    (hcounters : CountersSame l s t) (hl : CounterId.framesHeard ∉ l ∧ CounterId.impliedJoins ∉ l)
    (hnext : t.txs.nextSeq = s.txs.nextSeq) : ActsMildly s t :=
  ⟨hpeers, ⟨hcounters _ hl.1, hcounters _ hl.2⟩, hnext⟩

theorem takeSample_countersSame (e : Int) (kind : SampleKind) (s : State) :
    CountersSame [.samples, .steps, .outliers, .raisesDropped, .evictions] s (takeSample e kind s) := by
  intro j hj
  simp only [List.mem_cons, List.not_mem_nil, or_false, not_or] at hj
  refine (judgeSample_countersSame e _ _ j (by simp [hj])).trans ?_
  rw [counter_bump, if_neg hj.1]
  rfl

theorem takeSync_actsMildly (i : Slot) (transmit : Nat) (stamp : FullTime) (s : State) :
    ActsMildly s (takeSync i transmit stamp s) := by
  refine actsMildly_of_counters (l := [.syncsIgnored, .samples, .steps, .outliers, .raisesDropped, .evictions])
    (fun j => by simp [State.peer]) ?_ (by decide) (by simp)
  have hignored : CountersSame [.syncsIgnored, .samples, .steps, .outliers, .raisesDropped, .evictions] s (bump .syncsIgnored s) :=
    fun j hj => by rw [counter_bump, if_neg fun h => hj (by simp [h])]
  unfold takeSync
  split
  · exact hignored
  · split
    · exact fun j hj => takeSample_countersSame _ _ _ j fun h => hj (List.mem_cons_of_mem _ h)
    · exact hignored

theorem takeAnnounce_actsMildly (i : Slot) (quality : Fin 4) (priority : Byte) (s : State) :
    ActsMildly s (takeAnnounce i quality priority s) := by
  refine actsMildly_of_counters (l := [.raisesDropped, .evictions]) (fun j => by simp [State.peer]) ?_ (by decide) (by simp)
  have hrun : ∀ l, CountersSame [.raisesDropped, .evictions] s (runSelection (s.setTable l)) := fun l =>
    CountersSame.trans (countersSame_of_eq rfl) (runSelection_countersSame _)
  unfold takeAnnounce takePresentAnnounce
  dsimp only
  split
  · split
    · exact dropSource_countersSame i s
    · split
      · exact hrun _
      · split
        · exact countersSame_of_eq rfl
        · exact hrun _
  · exact countersSame_of_eq rfl

theorem hearReady_actsMildly (i : Slot) (s : State) : ActsMildly s (hearReady i s) := by
  refine actsMildly_of_counters (l := []) (fun j => ?_) (countersSame_of_eq (by simp)) (by decide) (by simp)
  rw [hearReady_peer]
  split
  next h => subst h; exact ⟨rfl, rfl⟩
  next => exact ⟨rfl, rfl⟩

theorem storeSummary_actsMildly (i : Slot) (body : List Byte) (s : State) : ActsMildly s (storeSummary i body s) := by
  refine actsMildly_of_counters (l := []) (fun j => ?_) (countersSame_of_eq (by simp)) (by decide) (by simp)
  rw [storeSummary_peer]
  split
  next h => subst h; exact ⟨rfl, rfl⟩
  next => exact ⟨rfl, rfl⟩

theorem takeUnicast_actsMildly (f : DataFrame) (s : State) : ActsMildly s (takeUnicast f s) := by
  refine ⟨fun j => ?_, ?_, by simp⟩
  · unfold takeUnicast
    split
    · rw [(takeDuplicate_fields f s).2.1]
      split
      next h => subst h; exact ⟨rfl, rfl⟩
      next => exact ⟨rfl, rfl⟩
    · split
      · rw [(acceptUnicast_fields f s).2.2.1]
        split
        next h => subst h; exact ⟨rfl, rfl⟩
        next => exact ⟨rfl, rfl⟩
      · simp [State.peer]
  · unfold takeUnicast
    split
    · obtain ⟨-, -, hcounter⟩ := takeDuplicate_fields f s
      simp [hcounter]
    · split
      · obtain ⟨-, -, -, hcounter⟩ := acceptUnicast_fields f s
        simp [hcounter, storeFrame_counter, countGapOf_counter]
      · obtain ⟨-, -, -, hcounter⟩ := refuseUnicast_fields f s
        exact ⟨hcounter .framesHeard (by decide), hcounter .impliedJoins (by decide)⟩

theorem poolTake_actsMildly (f : DataFrame) (s : State) : ActsMildly s (poolTake f s) := by
  have hbump : ∀ c, c ≠ .framesHeard → c ≠ .impliedJoins → ActsMildly s (bump c s) := fun c h h' =>
    ⟨fun j => by simp, by simp [counter_bump, h.symm, h'.symm], by simp⟩
  unfold poolTake
  split
  · split
    · split
      · exact takeUnicast_actsMildly f s
      · unfold takeGroup
        split
        · exact ⟨fun j => by simp [State.peer], by simp [storeFrame_counter], by simp⟩
        · exact hbump .groupDrops nofun nofun
    · exact hbump .notReceiving nofun nofun
  · exact ⟨fun j => ⟨rfl, rfl⟩, ⟨rfl, rfl⟩, rfl⟩

end Sys2Proof.Machine
end

section
/-! What is stated of SUMMARY and READY heard, of the timers of the peer and source tables, and of late removal. -/

namespace Sys2Proof.Machine

open Sys2Proof

variable {s t : State} {i : Slot} {k : FrameKind} {body : List Byte} {stamp : FullTime}

/-- The commands of frames without a transition of their own (R68). -/
theorem exec_of_plainFrame {c : Instr} (hc : FrameFrom i c)
    (hother : ∀ body, c ≠ .joinHeard i body ∧ c ≠ .withdrawHeard i body ∧ c ≠ .goneHeard i body) (s : State) :
    ∃ (k : FrameKind) (body : List Byte) (act : FullTime → State → State), k.plain
      ∧ exec c s = .next (hearFrame i k body act s) ∧ ∀ stamp t, ActsMildly t (act stamp t) := by
  rcases hc with ⟨f, rfl, rfl⟩ | rfl | ⟨body, rfl | rfl | rfl | rfl | rfl | rfl⟩
  · exact ⟨.data, f.payload, _, ⟨nofun, nofun, nofun⟩, rfl, fun _ t => poolTake_actsMildly f t⟩
  · exact ⟨.ready, [], _, ⟨nofun, nofun, nofun⟩, rfl, fun _ t => hearReady_actsMildly i t⟩
  · exact ⟨.sync, body, _, ⟨nofun, nofun, nofun⟩, rfl, fun stamp t => takeSync_actsMildly i _ stamp t⟩
  · exact ⟨.announce, body, _, ⟨nofun, nofun, nofun⟩, rfl, fun _ t => takeAnnounce_actsMildly i _ _ t⟩
  · exact ⟨.summary, body, _, ⟨nofun, nofun, nofun⟩, rfl, fun _ t => storeSummary_actsMildly i body t⟩
  · exact absurd rfl (hother body).1
  · exact absurd rfl (hother body).2.1
  · exact absurd rfl (hother body).2.2

section
variable (hk : k.plain)
include hk

theorem restarts_iff_gone : restarts k (s.peer i).state = true ↔ (s.peer i).state = .gone := by
  simp [restarts, hk.1]

theorem PeerEntry.recorded_of_plain (e : PeerEntry) (n : Nat) : e.recorded n k body = e := by
  obtain ⟨hjoin, hwithdraw, hgone⟩ := hk
  cases k with
  | join => exact absurd rfl hjoin
  | withdraw => exact absurd rfl hwithdraw
  | gone => exact absurd rfl hgone
  | _ => rfl

theorem heardFrom_queued : (heardFrom i k body s).queued = s.queued := by
  by_cases hgone : (s.peer i).state = .gone
  · exact (heardFrom_restarted ((restarts_iff_gone hk).mpr hgone)).queued
  · have hr : restarts k (s.peer i).state = false := by simpa using mt (restarts_iff_gone hk).mp hgone
    simp only [State.queued, queue_congr (congrArg Txs.queues (heardFrom_quiet_of_no_restart hr).1)]

theorem heardFrom_counter_of_plain (j : CounterId) (hj : j ≠ .impliedJoins) : (heardFrom i k body s).counter j =
    if j = .framesHeard then satAdd (s.counter .framesHeard) 1 else s.counter j := by
  by_cases hgone : (s.peer i).state = .gone
  · rw [heardFrom_restarted_counter ((restarts_iff_gone hk).mpr hgone)]
    simp [hj]
  · have hr : restarts k (s.peer i).state = false := by simpa using mt (restarts_iff_gone hk).mp hgone
    rw [counter_congr (heardFrom_quiet_of_no_restart hr).2, counter_bump]

variable (hp : (s.peer i).state = .absent ∨ (s.peer i).state = .lost ∨ (s.peer i).state = .gone)
include hp

theorem stateAfter_of_away : stateAfter k (s.peer i).state = .present := by
  obtain ⟨hjoin, hwithdraw, hgone⟩ := hk
  cases k with
  | join => rfl
  | withdraw => exact absurd rfl hwithdraw
  | gone => exact absurd rfl hgone
  | _ => rcases hp with h | h | h <;> rw [h] <;> rfl

/-- The entry of a sender that was away: PRESENT, and from GONE a restart (R68). -/
theorem heardFrom_peer_of_away (j : Slot) : (heardFrom i k body s).peer j = if j = i then
    { (s.peer i).heard with
      state := .present
      sequence := if (s.peer i).state = .gone then { control := none, deadline := none, bulk := none }
        else (s.peer i).sequence } else s.peer j := by
  have hrestarts := restarts_iff_gone (s := s) (i := i) hk
  by_cases hgone : (s.peer i).state = .gone
  · rw [heardFrom_restarted_peer (hrestarts.mpr hgone), PeerEntry.recorded_of_plain hk, stateAfter_of_away hk hp]
    simp only [hgone, if_true]
    rfl
  · have hr : restarts k (s.peer i).state = false := by simpa using mt hrestarts.mp hgone
    rw [heardFrom_peer_of_no_restart hr, PeerEntry.recorded_of_plain hk, stateAfter_of_away hk hp]
    simp only [hgone, if_false]
    rfl

end

/-- A frame that makes its sender PRESENT (R68). -/
theorem plainFrame_of_away (hh : Hearing s i stamp)
    (hp : (s.peer i).state = .absent ∨ (s.peer i).state = .lost ∨ (s.peer i).state = .gone) {c : Instr}
    (hc : FrameFrom i c) (hother : ∀ body, c ≠ .joinHeard i body ∧ c ≠ .withdrawHeard i body ∧ c ≠ .goneHeard i body) :
    ∃ t, exec c s = .next t ∧ (t.peer i).state = .present ∧ (t.peer i).age = some 0
      ∧ EventKind.peerChange ∈ t.cpt.events ∧ Counted .framesHeard s t
      ∧ ((s.peer i).state = .gone → Counted .impliedJoins s t
          ∧ ∀ c, (t.txs.nextSeq[i]).get c = BitVec.ofNat 8 ((s.queue c).filter (QueueEntry.isFor i)).length)
      ∧ ((s.peer i).state ≠ .gone → t.counter .impliedJoins = s.counter .impliedJoins ∧ t.txs.nextSeq = s.txs.nextSeq) := by
  obtain ⟨k, body, act, hk, hexec, hact⟩ := exec_of_plainFrame hc hother s
  obtain ⟨hpeers, ⟨hheard, himplied⟩, hnext⟩ := hact stamp (heardFrom i k body s)
  have hpeer := heardFrom_peer_of_away (body := body) hk hp i
  rw [if_pos rfl] at hpeer
  have hstate : ((act stamp (heardFrom i k body s)).peer i).state = .present := by rw [(hpeers i).1, hpeer]
  obtain ⟨htxs', hptb', -, -, hcounters', -⟩ :=
    handOff_of_present_fields hstate (s.peer i).state (restarts k (s.peer i).state)
  rw [hearFrame_eq hh] at hexec
  refine ⟨_, hexec, ?_, ?_, ?_, ?_, fun hgone => ?_, fun hgone => ?_⟩
  · rw [reportDrained_peer, peer_congr hptb', hstate]
  · rw [reportDrained_peer, peer_congr hptb', (hpeers i).2, hpeer]
    rfl
  · have hchange := handOff_peerChange i (s.peer i).state (restarts k (s.peer i).state) (act stamp (heardFrom i k body s))
      (.inl (by rw [hstate]; intro h; rw [← h] at hp; simp at hp))
    simpa using hchange
  · rw [Counted, reportDrained_counter, counter_congr hcounters', hheard, heardFrom_counter_of_plain (body := body) hk .framesHeard nofun]
    rfl
  · have hr := (restarts_iff_gone hk).mpr hgone
    refine ⟨?_, fun c => ?_⟩
    · rw [Counted, reportDrained_counter, counter_congr hcounters', himplied, heardFrom_restarted_counter hr]
      simp [hk.1]
    · simp only [reportDrained_frame, htxs', hnext]
      exact (heardFrom_restarted hr).next c
  · have hr : restarts k (s.peer i).state = false := by simpa using mt (restarts_iff_gone hk).mp hgone
    obtain ⟨htxs, hcounters⟩ := heardFrom_quiet_of_no_restart (body := body) hr
    refine ⟨?_, ?_⟩
    · rw [reportDrained_counter, counter_congr hcounters', himplied, counter_congr hcounters, counter_bump]
      rfl
    · simp only [reportDrained_frame, htxs', hnext, htxs]

/-- Settles O42. -/
theorem summaryAndReadyHeard : Obligations.SummaryAndReadyHeard := by
  unfold Obligations.SummaryAndReadyHeard
  have hkReady : FrameKind.ready.plain := ⟨nofun, nofun, nofun⟩
  refine ⟨fun i stamp s hh hp hdrained => ⟨fun body => ?_, ?_⟩, fun i stamp s hh hp hdrained =>
    ⟨fun c hc hother => plainFrame_of_away hh hp hc hother, ?_⟩⟩
  · have hk : FrameKind.summary.plain := ⟨nofun, nofun, nofun⟩
    obtain ⟨hbau, hrxp, htmu, hsrc, hsec, halu, hstl, hpins, hahead, hpending⟩ := heardFrom_frame i .summary body s
    obtain ⟨htxs, -⟩ := heardFrom_quiet (body := body) hk hp
    have hpeer := heardFrom_peer (body := body) hk hp
    have hcounter : ∀ j, (storeSummary i body (heardFrom i .summary body s)).counter j
        = if j = .framesHeard then satAdd (s.counter .framesHeard) 1 else s.counter j := fun j =>
      (counter_congr (by simp) j).trans (heardFrom_counter (body := body) hk hp j)
    have hframe : hearFrame i .summary body (fun _ => storeSummary i body) s = storeSummary i body (heardFrom i .summary body s) := by
      rw [hearFrame_of_stays hk hp hh fun t => storeSummary_peerStates i body t]
      exact reportDrained_of_same hdrained (by simp [htxs]) (by simp [hsec]) (by simp [hbau]; rfl)
    obtain ⟨hsummary, hrelays⟩ := noticePeerView_picture ((heardFrom i .summary body s).setPeer i
      { (heardFrom i .summary body s).peer i with summary := some (readSummary body) })
    refine ⟨_, congrArg Host.Outcome.next hframe, by simp [hbau], ?_, fun j hj => ?_, by simp [halu],
      onlyAlarmsChanged_of_fields (by simp [halu]), hsummary, hrelays, ?_, ?_, fun j hj => ?_, ?_⟩
    · rw [storeSummary_peer, if_pos rfl, hpeer, if_pos rfl]
      rfl
    · rw [storeSummary_peer, if_neg hj, hpeer, if_neg hj]
    · exact onlyEventsPlaced_trans (heardFrom_onlyEventsPlaced i .summary body s)
        (onlyEventsPlaced_of_fields (by simp) fun _ he => by simpa using he)
    · rw [Counted, hcounter, if_pos rfl]
    · rw [hcounter, if_neg fun h => hj (by simp [h])]
    · simp [sameOutside_iff, htxs, hrxp, htmu, hsrc, hsec, hstl, hpins, hahead, hpending]
  · obtain ⟨hbau, hrxp, htmu, hsrc, hsec, halu, hstl, hpins, hahead, hpending⟩ := heardFrom_frame i .ready [] s
    obtain ⟨htxs, -⟩ := heardFrom_quiet (body := []) hkReady hp
    have hpeer := heardFrom_peer (body := []) hkReady hp
    have hcounter : ∀ j, (hearReady i (heardFrom i .ready [] s)).counter j
        = if j = .framesHeard then satAdd (s.counter .framesHeard) 1 else s.counter j := fun j =>
      (counter_congr (by simp) j).trans (heardFrom_counter (body := []) hkReady hp j)
    have hframe : hearFrame i .ready [] (fun _ => hearReady i) s = hearReady i (heardFrom i .ready [] s) := by
      rw [hearFrame_of_stays hkReady hp hh fun t => hearReady_peerStates i t]
      exact reportDrained_of_same hdrained (by simp [htxs]) (by simp [hsec]) (by simp [hbau]; rfl)
    refine ⟨_, congrArg Host.Outcome.next hframe, by simp [hbau], ?_, fun j hj => ?_, ?_, ?_, fun j hj => ?_, ?_⟩
    · rw [hearReady_peer, if_pos rfl, hpeer, if_pos rfl]
      rfl
    · rw [hearReady_peer, if_neg hj, hpeer, if_neg hj]
    · exact onlyEventsPlaced_trans (heardFrom_onlyEventsPlaced i .ready [] s)
        (onlyEventsPlaced_of_fields (by simp) fun _ he => by simpa using he)
    · rw [Counted, hcounter, if_pos rfl]
    · rw [hcounter, if_neg fun h => hj (by simp [h])]
    · simp [sameOutside_iff, htxs, hrxp, htmu, hsrc, hsec, halu, hstl, hpins, hahead, hpending]
  · obtain ⟨hbau, hrxp, htmu, hsrc, hsec, halu, hstl, hpins, hahead, hpending⟩ := heardFrom_frame i .ready [] s
    obtain ⟨hreported, hslots, hfree⟩ := heardFrom_drainedReported i .ready [] s
    have hpeer := heardFrom_peer_of_away (body := []) hkReady hp
    have hready := hearReady_peer i (s := heardFrom i .ready [] s)
    have hstate : ((hearReady i (heardFrom i .ready [] s)).peer i).state = .present := by
      rw [hready, if_pos rfl, hpeer, if_pos rfl]
      rfl
    have hqueued : (hearReady i (heardFrom i .ready [] s)).queued = s.queued := by
      rw [← heardFrom_queued (s := s) (i := i) (body := []) hkReady]
      simp [State.queued, State.queue]
    have hframe := hearFrame_present_fields (k := .ready) (body := []) hh hdrained (act := fun _ => hearReady i) rfl hstate
      (by simp [hsec]) (by simp [hreported]) hqueued (by simp [hbau]; rfl)
    obtain ⟨htxs', hptb', htmu', hsrc', hcounters', htable', hresults'⟩ :=
      handOff_of_present_fields hstate (s.peer i).state (restarts .ready (s.peer i).state)
    refine ⟨_, congrArg Host.Outcome.next hframe, by simp [hbau], ?_, fun j hj => ?_, ?_,
      onlyAlarmsChanged_of_fields (by simp [halu]), by simp [htable', halu], fun j hj => ?_, by simp [htxs', hslots],
      by simp [htxs', hfree], fun hne => ?_, ?_⟩
    · rw [peer_congr hptb', hready, if_pos rfl, hpeer, if_pos rfl]
      rfl
    · rw [peer_congr hptb', hready, if_neg hj, hpeer, if_neg hj]
    · exact onlyEventsPlaced_trans (onlyEventsPlaced_trans (heardFrom_onlyEventsPlaced i .ready [] s)
        (onlyEventsPlaced_of_fields (by simp) fun _ he => by simpa using he)) (handOff_onlyEventsPlaced hresults')
    · simp only [List.mem_cons, List.not_mem_nil, or_false, not_or] at hj
      rw [counter_congr hcounters']
      refine (counter_congr (s := heardFrom i .ready [] s) (by simp) j).trans ((heardFrom_counter_of_plain (body := []) hkReady j hj.2).trans ?_)
      rw [if_neg hj.1]
    · have hr : restarts .ready (s.peer i).state = false := by
        simpa using mt (restarts_iff_gone hkReady).mp hne
      rw [htxs']
      simpa using (heardFrom_quiet_of_no_restart (body := []) hr).1
    · simp [sameOutside_iff, hrxp, htmu', htmu, hsrc', hsrc, hsec, hstl, hpins, hahead, hpending]

/-! ### Timers of the tables -/

/-- The state in which an entry that fell silent is LOST, before its hand-offs (R72). -/
def silenced (i : Slot) (s : State) : State :=
  bump .peersLost (s.setPeer i { s.peer i with state := .lost, age := silentAge (s.peer i).age })

theorem loseSilent_eq (i : Slot) (s : State) : loseSilent i s = handOff i (s.peer i).state false (silenced i s) := rfl

theorem silenced_peer (i j : Slot) (s : State) : (silenced i s).peer j =
    if j = i then { s.peer i with state := .lost, age := silentAge (s.peer i).age } else s.peer j := by
  by_cases hj : j = i
  · subst hj
    simp [silenced]
  · simp [silenced, hj, State.peer_setPeer_ne]

/-- Settles O44. -/
theorem peerAndAnnounceTimers : Obligations.PeerAndAnnounceTimers := by
  unfold Obligations.PeerAndAnnounceTimers
  refine ⟨fun i s hp => ?_, fun i s hruns => ?_, fun s hruns => ?_, fun i e s hfind hage => ?_⟩
  · have hexec : exec (.silenceTimeout i) s = .next (reportDrained (loseSilent i s)) := by
      rcases hp with h | h
      · exact congrArg Host.Outcome.next (by rw [h])
      · exact congrArg Host.Outcome.next (by rw [h])
    rw [loseSilent_eq] at hexec
    have hstate : ((silenced i s).peer i).state = .lost := by rw [silenced_peer, if_pos rfl]
    have hne : ((silenced i s).peer i).state ≠ (s.peer i).state := by
      rw [hstate]
      rcases hp with h | h <;> rw [h] <;> nofun
    obtain ⟨⟨more, hmore⟩, hflight⟩ := handOff_purges (r := false) hne (.inr hstate)
    have hcounted : Counted .peersLost s (silenced i s) := (counter_bump .peersLost .peersLost _).trans (if_pos rfl)
    refine ⟨_, max ((s.peer i).age.getD 0) (Config.ms 350), more, hexec, Nat.le_max_right _ _, ?_, fun j hj => ?_,
      reportDrained_counted (handOff_counted (by decide) hcounted), ?_, fun c e he => ?_, ?_, ?_, ?_⟩
    · rw [reportDrained_peer]
      refine (handOff_peer i i (s.peer i).state false (silenced i s)).trans ?_
      rw [if_pos ⟨rfl, hne, .inr hstate⟩, silenced_peer, if_pos rfl]
      rfl
    · rw [reportDrained_peer]
      refine (handOff_peer i j (s.peer i).state false (silenced i s)).trans ?_
      rw [if_neg fun h => hj h.1, silenced_peer, if_neg hj]
    · simpa using handOff_peerChange i (s.peer i).state false (silenced i s) (.inl hne)
    · exact hflight c e (by simpa [State.queue] using he)
    · simpa [silenced, State.queue] using hmore
    · simp [silenced]
    · simp [sameOutside_iff, silenced]
  · refine ⟨_, congrArg Host.Outcome.next (ite_of_runs hruns _ _), by simp [PeerEntry.unblocked], fun j hj => ?_, ?_⟩
    · exact State.peer_setPeer_ne s _ hj
    · simp [sameOutside_iff]
  · exact congrArg Host.Outcome.next (ite_of_runs hruns _ _)
  · have hexec : exec (.announceTimeout i) s = .next (reportDrained (dropSource i s)) :=
      congrArg Host.Outcome.next (if_pos (by rw [hfind]; exact hage))
    refine ⟨_, hexec, ?_, fun j hj => ?_, ?_, by simp, by simp [sameOutside_iff]⟩
    · simp [dropSource_findSource]
    · simp [dropSource_findSource, hj]
    · have hrun : dropSource i s = runSelection (s.setTable (removeSource i s.src.table)) := by
        rw [dropSource, if_pos (by rw [hfind]; rfl)]
      simpa [LawSelection, hrun] using runSelection_lawSelection (s.setTable (removeSource i s.src.table))

/-! ### Late removal (R31) -/

theorem retireAll_counter (es : List QueueEntry) (s : State) : CountersSame [.late, .raisesDropped, .evictions] s (retireAll es s)
    ∧ (retireAll es s).counter .late = satAdd (s.counter .late) es.length := by
  induction es generalizing s with
  | nil => exact ⟨countersSame_of_eq rfl, by simp [retireAll]⟩
  | cons e rest ih =>
    obtain ⟨hsame, hlate⟩ := ih (retireLate e s)
    have hone : ∀ j, j ∉ [CounterId.raisesDropped, .evictions] → (retireLate e s).counter j
        = if j = .late then satAdd (s.counter .late) 1 else s.counter j := fun j hj =>
      (raiseKey_countersSame keyX3 _ _ j hj).trans (counter_bump .late j _)
    refine ⟨CountersSame.trans (fun j hj => ?_) hsame, ?_⟩
    · simp only [List.mem_cons, List.not_mem_nil, or_false, not_or] at hj
      rw [hone j (by simp [hj]), if_neg hj.1]
    · rw [retireAll, hlate, hone .late (by decide), if_pos rfl, satAdd_satAdd, List.length_cons, Nat.add_comm]

theorem retireAll_cons_alarm (e : QueueEntry) (rest : List QueueEntry) (s : State) :
    (retireAll (e :: rest) s).txs.lateTimer = some 125000000 ∧ Raised keyX3 (retireAll (e :: rest) s) := by
  induction rest generalizing e s with
  | nil => exact ⟨rfl, raised_raiseKey keyX3 (catalogueSeverity keyX3) _⟩
  | cons e' rest ih => exact ih e' (retireLate e s)

theorem lateNow_eq (s : State) :
    s.lateNow = fun e => !e.inFlight && e.due.any (fun d => !dueAhead d s.tmu.time.short) := rfl

/-- Settles O45. -/
theorem lateRemoval : Obligations.LateRemoval := by
  unfold Obligations.LateRemoval
  intro s hdrained late
  have hlate : late = (s.queue .deadline).filter s.lateNow := rfl
  refine ⟨fun hnone => ?_, fun hsome => ?_⟩
  · have hkept : (s.queue .deadline).filter (fun e => !s.lateNow e) = s.queue .deadline :=
      List.filter_eq_self.mpr fun e he => by simpa using List.filter_eq_nil_iff.mp (hlate.symm.trans hnone) e he
    have hsweep : sweepLate s = s := by
      rw [sweepLate]
      simp only [hkept, ← hlate, hnone, retireAll]
      rfl
    exact congrArg Host.Outcome.next (by rw [hsweep]; exact reportDrained_of_same hdrained rfl rfl rfl)
  · obtain ⟨e, rest, hcons⟩ := List.exists_cons_of_ne_nil hsome
    have hsweep : sweepLate s = retireAll late (s.setQueue .deadline ((s.queue .deadline).filter (fun e => !s.lateNow e))) := rfl
    have hqueue : ∀ c, (sweepLate s).queue c = (s.setQueue .deadline ((s.queue .deadline).filter (fun e => !s.lateNow e))).queue c :=
      fun c => queue_congr (retireAll_queues _ _) c
    have hreported : ∀ c, (reportDrained (sweepLate s)).queue c = (sweepLate s).queue c := queue_congr (by simp)
    have halarm := retireAll_cons_alarm e rest (s.setQueue .deadline ((s.queue .deadline).filter (fun e => !s.lateNow e)))
    rw [← hcons, ← hsweep] at halarm
    obtain ⟨hsame, hcount⟩ := retireAll_counter late (s.setQueue .deadline ((s.queue .deadline).filter (fun e => !s.lateNow e)))
    rw [← hsweep] at hsame hcount
    refine ⟨_, rfl, ?_, ?_, ?_, ?_, ?_, ?_, by simpa using halarm.1, by simpa [Raised] using halarm.2, ?_, ?_⟩
    · rw [hreported, sweepLate_deadline]
      rfl
    · rw [hreported, hqueue]
      rfl
    · rw [hreported, hqueue]
      rfl
    · simp [hsweep, retireAll_results, QueueEntry.result]
    · rw [reportDrained_counter, hcount]
      rfl
    · simp [hsweep, retireAll_storeFree, unitsOf]
      rfl
    · exact fun j hj => (reportDrained_counter _ j).trans (hsame j hj)
    · simp [sameOutside_iff]

end Sys2Proof.Machine
end

section
/-! Activities judged broken (R15): the cause counted, the pointer 0, and the view the activity's end gives. -/

namespace Sys2Proof.Machine

open Sys2Proof

variable {s : State} {a : Activity}

/-- A frame judged broken with this counter, after which the view is `v` and nothing is left to receive (R1, R6, R15). -/
def judgedBroken (i : CounterId) (v : BusView) (s : State) : State :=
  (bump i (s.setBau (fun b => { b with pointer := 0 }))).setBau (fun b => { b with view := v, rx := none })

theorem judgedBroken_fields (i : CounterId) (v : BusView) (s : State) :
    (judgedBroken i v s).bau = { s.bau with view := v, rx := none, pointer := 0 }
      ∧ Counted i s (judgedBroken i v s) ∧ CountersSame [i] s (judgedBroken i v s)
      ∧ OnlyEventsPlaced s (judgedBroken i v s) ∧ SameOutside [.bau, .cpt, .counters] s (judgedBroken i v s) := by
  have hcounter : ∀ j, (judgedBroken i v s).counter j = if j = i then satAdd (s.counter i) 1 else s.counter j :=
    fun j => counter_bump i j _
  refine ⟨by simp [judgedBroken, State.setBau], (hcounter i).trans (if_pos rfl), fun j hj => ?_, ?_, ?_⟩
  · rw [hcounter, if_neg fun h => hj (by simp [h])]
  · exact onlyEventsPlaced_of_fields (by simp [judgedBroken, State.setBau]) fun _ he => bump_events _ _ he
  · simp [judgedBroken, State.setBau, sameOutside_iff]

theorem causeCounter_cutCause (own both : Bool) : causeCounter own (cutCause both) =
    if both then (if own then .ownCollisions else .collisionsSeen) else .codeFaults := by
  cases both <;> rfl

/-- How a frame of any kind ends the rest of a cut own frame (R9). -/
theorem exec_heard_of_ownCut {i : Slot} {c : Instr} (hview : s.bau.view = .frame) (htx : s.bau.tx = none)
    (hrx : s.bau.rx = some .ownCut)
    (hc : c = .readyHeard i ∨ (∃ f, c = .dataHeard f) ∨ ∃ body, c = .syncHeard i body ∨ c = .announceHeard i body
      ∨ c = .summaryHeard i body ∨ c = .joinHeard i body ∨ c = .withdrawHeard i body ∨ c = .goneHeard i body) :
    exec c s = .next (judgedBroken .codeFaults .window s) := by
  have hframe : ∀ j k body act, hearFrame j k body act s = judgedBroken .codeFaults .window s := fun j k body act => by
    rw [hearFrame, hview, htx, hrx]
    rfl
  rcases hc with rfl | ⟨f, rfl⟩ | ⟨body, rfl | rfl | rfl | rfl | rfl | rfl⟩ <;> exact congrArg Host.Outcome.next (hframe _ _ _ _)

theorem exec_frameCut (hview : s.bau.view = .frame) (htx : s.bau.tx = none) {r : Reception} (hrx : s.bau.rx = some r) :
    exec (.frameCut a) s = .next ((judgeCut r a.bothDominant s).setBau (fun b => { b with view := .settle, rx := none })) :=
  congrArg Host.Outcome.next (by rw [hview, htx, hrx])

theorem exec_brokenFrame (hview : s.bau.view = .frame) (htx : s.bau.tx = none) {r : Reception} (hrx : s.bau.rx = some r)
    (hend : a.endRecognised = true) : exec (.brokenFrame a) s = .next (takeBroken r a s) :=
  congrArg Host.Outcome.next (by rw [hview, htx, hrx]; exact if_pos hend)

theorem exec_brokenFrame_of_no_end (hend : a.endRecognised = false) : exec (.brokenFrame a) s = .next s := by
  refine congrArg Host.Outcome.next ?_
  rw [hend]
  split <;> rfl

/-- The causes of R15 in their order. -/
theorem judgeActivity_of_first {n : Nat} {cause : BrokenCause} {i : CounterId}
    (h : (cause = .collision ∧ i = .collisionsSeen ∧ a.bothDominant = true)
      ∨ (cause = .codeViolation ∧ i = .codeFaults ∧ a.bothDominant = false ∧ (a.cleanSymbols = false ∨ violatesCode a = true))
      ∨ (cause = .check ∧ i = .checkFaults ∧ a.bothDominant = false ∧ a.cleanSymbols = true
          ∧ violatesCode a = false ∧ failsCheck a.bytes = true)
      ∨ (cause = .foreignSlot ∧ i = .foreignSlot ∧ a.bothDominant = false ∧ a.cleanSymbols = true
          ∧ violatesCode a = false ∧ failsCheck a.bytes = false ∧ ∃ h, readHeader a.bytes = some h ∧ n ≤ h.slot.val)) :
    judgeActivity n true a = some cause ∧ causeCounter false cause = i := by
  rcases h with ⟨rfl, rfl, hboth⟩ | ⟨rfl, rfl, hboth, hcode⟩ | ⟨rfl, rfl, hboth, hclean, hcode, hcheck⟩
    | ⟨rfl, rfl, hboth, hclean, hcode, hcheck, h, hheader, hslot⟩
  · exact ⟨by simp [judgeActivity, hboth], rfl⟩
  · refine ⟨?_, rfl⟩
    rcases hcode with hcode | hcode <;> simp [judgeActivity, hboth, hcode]
  · exact ⟨by simp [judgeActivity, hboth, hclean, hcode, hcheck], rfl⟩
  · exact ⟨by simp [judgeActivity, hboth, hclean, hcode, hcheck, hheader, hslot], rfl⟩

/-- Settles O33. -/
theorem brokenFrameJudged : Obligations.BrokenFrameJudged := by
  unfold Obligations.BrokenFrameJudged
  refine ⟨fun a r s hview htx hrx hr => ?_, fun a i c v s hview htx hrx hc => ?_, fun a s hend => exec_brokenFrame_of_no_end hend,
    fun a x cause i s hview htx hrx hend hcause => ?_⟩
  · have hexec : exec (.frameCut a) s = .next (judgedBroken (if a.bothDominant then .collisionsSeen else .codeFaults) .settle s) := by
      rw [exec_frameCut hview htx hrx]
      have hcounter := causeCounter_cutCause false a.bothDominant
      rcases hr with rfl | ⟨x, rfl⟩ <;> simp only [judgeCut, judgeBroken, hcounter] <;> rfl
    exact ⟨_, hexec, judgedBroken_fields _ _ _⟩
  · have hexec : exec c s = .next (judgedBroken (if a.bothDominant then .ownCollisions else .codeFaults) v s) := by
      have hcounter := causeCounter_cutCause true a.bothDominant
      rcases hc with ⟨rfl, rfl⟩ | ⟨rfl, hend, rfl⟩ | ⟨hboth, rfl, hc⟩
      · rw [exec_frameCut hview htx hrx]
        simp only [judgeCut, judgeBroken, hcounter]
        rfl
      · rw [exec_brokenFrame hview htx hrx hend]
        simp only [takeBroken, endBroken, judgeCut, judgeBroken, hcounter]
        rfl
      · rw [exec_heard_of_ownCut hview htx hrx hc, hboth]
        rfl
    exact ⟨_, hexec, judgedBroken_fields _ _ _⟩
  · obtain ⟨hjudge, hcounter⟩ := judgeActivity_of_first hcause
    have hexec : exec (.brokenFrame a) s = .next (judgedBroken i .window s) := by
      rw [exec_brokenFrame hview htx hrx hend]
      simp only [takeBroken, hjudge, judgeBroken, hcounter]
      rfl
    exact ⟨hjudge, _, hexec, judgedBroken_fields _ _ _⟩

end Sys2Proof.Machine
end

section
/-! A change of seating state, block by block (R127 to R149): what it leaves of the bus view, the queues and slots, the
pool, the tables and the counters; and alarm keys that stay CLEARED while others are raised. -/

namespace Sys2Proof.Machine

open Sys2Proof

variable {s t : State} {k k' : AlarmKey} {new : Seating}

/-! ### Keys without a live entry (R160) -/

/-- No entry of the key is ACTIVE or ACKED. -/
def IsCleared (k : AlarmKey) (s : State) : Prop := ∀ e, e ∈ s.alu.table → e.key = k → e.state = .cleared

theorem isCleared_congr (htable : t.alu.table = s.alu.table) (h : IsCleared k s) : IsCleared k t := fun e he =>
  h e (by rwa [htable] at he)

theorem isCleared_changeTable {table : List AlarmEntry} {overflow : Bool}
    (h : ∀ e, e ∈ table → e.key = k → e.state = .cleared) (s : State) : IsCleared k (changeTable table overflow s) :=
  fun e he => h e (by simpa using he)

theorem isCleared_replaceEntry {e : AlarmEntry} {table : List AlarmEntry} (hkey : e.key ≠ k)
    (h : ∀ e, e ∈ table → e.key = k → e.state = .cleared) (x : AlarmEntry) (hx : x ∈ replaceEntry e table)
    (hxk : x.key = k) : x.state = .cleared := by
  simp only [replaceEntry, List.mem_map] at hx
  obtain ⟨y, hy, rfl⟩ := hx
  split at hxk
  · exact absurd hxk hkey
  next hne => rw [if_neg hne]; exact h y hy hxk

theorem raiseKey_isCleared (hne : k' ≠ k) (v : Severity) (h : IsCleared k' s) : IsCleared k' (raiseKey k v s) := by
  have hfresh : ∀ x, x = freshEntry k v s.tmu.time.seconds → x.key = k' → x.state = .cleared := fun x hx hkey =>
    absurd (hkey.symm.trans (hx ▸ rfl)) hne
  unfold raiseKey
  dsimp only
  split
  · exact h
  · split
    next e hfind =>
      split
      · exact h
      · have hkey : (e.raised v).key = k := (mem_and_key_of_findEntry hfind).2
        exact isCleared_changeTable (isCleared_replaceEntry (e := { e.raised v with lastChange := s.tmu.time.seconds })
          (fun hother => hne (hother.symm.trans hkey)) h) s
    next =>
      split
      · refine isCleared_changeTable (fun x hx => ?_) s
        rcases List.mem_append.mp hx with hx | hx
        · exact h x hx
        · exact hfresh x (List.mem_singleton.mp hx)
      · split
        · refine isCleared_changeTable (fun x hx => ?_) _
          rcases List.mem_append.mp hx with hx | hx
          · exact h x (List.mem_filter.mp hx).1
          · exact hfresh x (List.mem_singleton.mp hx)
        · split
          · exact isCleared_congr (by simp) h
          · exact isCleared_changeTable h _

theorem clearKey_isCleared (k : AlarmKey) (h : IsCleared k' s) : IsCleared k' (clearKey k s) := by
  unfold clearKey
  split
  next e hfind =>
    split
    · refine isCleared_changeTable (fun x hx hxk => ?_) s
      simp only [replaceEntry, List.mem_map] at hx
      obtain ⟨y, hy, rfl⟩ := hx
      split at hxk
      next hk => rw [if_pos hk]
      next hk => rw [if_neg hk]; exact h y hy hxk
    · exact isCleared_changeTable (fun x hx => h x (List.mem_filter.mp hx).1) s
    · exact h
  next => exact isCleared_congr (by simp) h

theorem isCleared_clearKey (hlaw : LawTable s) : IsCleared k (clearKey k s) := cleared_of_clearKey hlaw

/-- A change of role clears T5; of servo state nothing (R107). -/
theorem setRole_table (r : Role) (s : State) : (setRole r s).alu.table = s.alu.table
    ∨ (setRole r s).alu.table = (clearKey keyT5 (signal .timeStateChange
        { s with src := match r with
            | .source => { s.src with role := r, refTimeout := some (Config.ms 2000), refSeen := false }
            | .follower => { s.src with role := r, refTimeout := none } })).alu.table := by
  unfold setRole
  split
  · exact .inl rfl
  · exact .inr (by cases r <;> simp)

theorem setRole_isCleared (r : Role) (h : IsCleared k s) : IsCleared k (setRole r s) := by
  rcases setRole_table r s with htable | htable
  · exact isCleared_congr htable h
  · exact isCleared_congr htable (clearKey_isCleared keyT5 (isCleared_congr (by simp) h))

theorem loseSource_isCleared (hne : k ≠ keyT2) (h : IsCleared k s) : IsCleared k (loseSource s) := by
  have hholdover : IsCleared k (enterHoldover s) :=
    isCleared_congr rfl (raiseKey_isCleared (k := keyT2) hne _ (isCleared_congr (s := s) (by simp) h))
  unfold loseSource
  split
  · exact hholdover
  · split
    · exact hholdover
    · exact isCleared_congr (by simp) h
  · exact h
  · exact h

/-- The source selector raises T1 and T2 alone (R107, R108, R121). -/
theorem runSelection_isCleared (hne : k ≠ keyT1 ∧ k ≠ keyT2) (h : IsCleared k s) : IsCleared k (runSelection s) := by
  have hselect : IsCleared k (selectSource s) := by
    unfold selectSource changeSelection
    dsimp only
    split
    · exact h
    · split
      · exact loseSource_isCleared hne.2 (setRole_isCleared _ (isCleared_congr (by simp) h))
      · exact setRole_isCleared _ (isCleared_congr (by simp) h)
  unfold runSelection judgeSourceLost
  dsimp only
  split
  · exact hselect
  · split
    · exact raiseKey_isCleared hne.1 _ (isCleared_congr rfl hselect)
    · exact clearKey_isCleared keyT1 (isCleared_congr rfl hselect)

end Sys2Proof.Machine
end

section
/-! A change of seating state, block by block (R127 to R149): what it leaves of the controller, the bus view, the queues
and slots, the pool, the tables and the counters. -/

namespace Sys2Proof.Machine

open Sys2Proof

variable {s t : State} {new old : Seating}

/-! ### The controller and the straps (R127, R130, R132, R136) -/

theorem enterState_sec (new : Seating) (s : State) : (enterState new s).sec = { s.sec with
    state := new, drven := drvenIn new, rmvok := rmvokIn new
    powerGoodTimer := none, listenTimer := none, drainTimer := none, goneTimer := none, noticeTimer := none } := by
  simp [enterState, enterBase]

theorem enterState_stl (new : Seating) (s : State) :
    (enterState new s).stl = { s.stl with load := if new = .config then s.stl.load else none } := by
  simp [enterState, enterBase]

theorem enterState_signalled (new : Seating) (s : State) : EventKind.seatingStateChange ∈ (enterState new s).cpt.events := by
  have hbase : EventKind.seatingStateChange ∈ (enterBase new s).cpt.events := by simp [enterBase]
  have hslots : EventKind.seatingStateChange ∈ (enterSlots new (enterQueues new (enterBase new s))).cpt.events := by
    simpa using enterQueues_events _ new hbase
  have hsources := enterSources_events _ s.sec.state new (enterPeers_events _ new (enterPool_events _ new (enterBus_events _ new hslots)))
  exact leaveAlarms_events _ _ (by simpa using hsources)

/-! ### The bus access unit (R1, R2, R9, R12) -/

/-- The unit after a change of state that cuts no frame. -/
def Bau.entered (new : Seating) (b : Bau) : Bau :=
  let b1 := if takesPart new then b else { b with reply := none }
  match new with
  | .unseated => { b1 with view := .inactive, position := 0, positionNew := false, rx := none }
  | .listening => { b1 with pointer := 0, collisions := 0 }
  | .seated => if b.view = .inactive then { b1 with view := .settle } else b1
  | .powering | .config | .joining | .joined | .draining | .forced | .withdrawn | .isolated | .conflict | .powerFault => b1

theorem enterCut_of_not_sending (new : Seating) (h : ∀ x, s.bau.tx = some x → x.sending = false) : enterCut new s = s := by
  unfold enterCut
  split
  next x hx => simp [cutBy, h x hx]
  next => rfl

theorem enterCut_of_takesPart (h : takesPart new = true) (s : State) : enterCut new s = s := by
  unfold enterCut
  split
  next x hx => cases new <;> simp_all [cutBy, drvenIn, takesPart]
  next => rfl

theorem dropAwaited_of_silent (h : s.bau.tx = none) : dropAwaited s = s := by rw [dropAwaited, h]

theorem dropAwaited_takeEnding_of_silent (h : s.bau.tx = none) : dropAwaited (takeEnding s) = s := by
  rw [takeEnding_of_silent h, dropAwaited_of_silent h]

/-- A change to a state finds no frame of this station that it stops: nothing is on the pair, or, outside seat loss, the
state takes part or what is on the pair has ended (R9). -/
def Uncut (new : Seating) (s : State) : Prop :=
  s.bau.tx = none ∨ (new ≠ .unseated ∧ (takesPart new = true ∨ ∀ x, s.bau.tx = some x → x.sending = false))

theorem enterCut_of_uncut (h : Uncut new s) : enterCut new s = s := by
  obtain hsilent | ⟨-, htakes | hended⟩ := h
  · exact enterCut_of_not_sending new fun x hx => absurd (hsilent.symm.trans hx) nofun
  · exact enterCut_of_takesPart htakes s
  · exact enterCut_of_not_sending new hended

theorem enterBus_of_uncut (h : Uncut new s) : enterBus new s = { s with bau := s.bau.entered new } := by
  have hcut := enterCut_of_uncut h
  cases new with
  | unseated =>
    obtain hsilent | ⟨hne, -⟩ := h
    · have hdrop : dropAwaited (takeEnding { s with bau := { s.bau with reply := none } })
          = { s with bau := { s.bau with reply := none } } :=
        dropAwaited_takeEnding_of_silent (s := { s with bau := { s.bau with reply := none } }) hsilent
      unfold enterBus
      rw [hcut]
      exact congrArg (fun u : State => { u with bau := { u.bau with view := .inactive, position := 0, positionNew := false, rx := none } }) hdrop
    · exact absurd rfl hne
  | seated => by_cases hview : s.bau.view = .inactive <;> simp [enterBus, Bau.entered, hcut, takesPart, hview]
  | _ => simp [enterBus, Bau.entered, hcut, takesPart]

/-- The view after a change of state (R1). -/
theorem enterState_view (new : Seating) (s : State) : (enterState new s).bau.view =
    if new = .unseated then .inactive else if new = .seated ∧ s.bau.view = .inactive then .settle else s.bau.view := by
  have hcut : (enterCut new (enterSlots new (enterQueues new (enterBase new s)))).bau.view = s.bau.view := by simp
  have hbus : (enterState new s).bau = (enterBus new (enterSlots new (enterQueues new (enterBase new s)))).bau := by
    simp [enterState]
  rw [hbus]
  unfold enterBus
  cases new with
  | seated => by_cases hview : s.bau.view = .inactive <;> simp [takesPart, hview]
  | _ => simp [takesPart]

/-- The state once the controller, the queues and the slots have done their part of a change (R20, R27, R39). -/
def queuesLeft (new : Seating) (s : State) : State := enterSlots new (enterQueues new (enterBase new s))

theorem queuesLeft_frame (new : Seating) (s : State) :
    (queuesLeft new s).bau = s.bau ∧ (queuesLeft new s).rxp = s.rxp ∧ (queuesLeft new s).ptb = s.ptb
      ∧ (queuesLeft new s).tmu = s.tmu ∧ (queuesLeft new s).src = s.src ∧ (queuesLeft new s).alu = s.alu := by
  simp [queuesLeft]

theorem enterState_eq (new : Seating) (s : State) : enterState new s = leaveAlarms s.sec.state (enterSummaries new
    (enterSources s.sec.state new (enterPeers new (enterPool new (enterBus new (queuesLeft new s)))))) := rfl

theorem queuesLeft_uncut (h : Uncut new s) : Uncut new (queuesLeft new s) := by
  obtain ⟨hbau, -⟩ := queuesLeft_frame new s
  simpa [Uncut, hbau] using h

theorem enterState_bau (h : Uncut new s) : (enterState new s).bau = s.bau.entered new := by
  obtain ⟨hbau, -⟩ := queuesLeft_frame new s
  simp [enterState_eq, enterBus_of_uncut (queuesLeft_uncut h), hbau]

/-! ### The receive pool and the peer table (R46, R60, R64) -/

theorem testReady_rxp (s : State) : (testReady s).rxp = { s.rxp with readyOutstanding := (testReady s).rxp.readyOutstanding } := by
  apply Rxp.ext <;> simp

/-- The pool keeps its frames, units, refused set and settings at every change but seat loss. -/
theorem enterState_rxp (hnew : new ≠ .unseated) (s : State) :
    (enterState new s).rxp = { s.rxp with readyOutstanding := (enterState new s).rxp.readyOutstanding } := by
  have hrxp : (enterState new s).rxp = (enterPool new (enterBus new (queuesLeft new s))).rxp := by simp [enterState_eq]
  obtain ⟨-, hleft, -⟩ := queuesLeft_frame new s
  rw [hrxp]
  cases new with
  | unseated => exact absurd rfl hnew
  | forced => rw [enterPool, readyWithdrawn, testReady_rxp]; simp [hleft]
  | conflict => rw [enterPool, readyWithdrawn, testReady_rxp]; simp [hleft]
  | isolated => rw [enterPool, readyWithdrawn, testReady_rxp]; simp [hleft]
  | _ => simp [enterPool, hleft]

theorem enterState_rxp_unseated (s : State) : (enterState .unseated s).rxp =
    { s.rxp with frames := [], free := 192, refused := [], readyOutstanding := false } := by
  obtain ⟨-, hleft, -⟩ := queuesLeft_frame .unseated s
  simp [enterState_eq, enterPool, poolSeatLoss, hleft, Config.poolUnits]

/-- The states that leave the pool's READY as it was. -/
theorem enterState_rxp_of_kept (hnew : new ≠ .unseated ∧ new ≠ .forced ∧ new ≠ .conflict ∧ new ≠ .isolated) (s : State) :
    (enterState new s).rxp = s.rxp := by
  have hrxp : (enterState new s).rxp = (enterPool new (enterBus new (queuesLeft new s))).rxp := by simp [enterState_eq]
  obtain ⟨-, hleft, -⟩ := queuesLeft_frame new s
  rw [hrxp]
  cases new <;> simp_all [enterPool]

theorem enterState_ptb (h : Uncut new s) (hnew : new ≠ .unseated ∧ new ≠ .listening) : (enterState new s).ptb = s.ptb := by
  obtain ⟨-, -, hleft, -⟩ := queuesLeft_frame new s
  have hptb : (enterState new s).ptb = (enterPeers new (enterPool new (enterBus new (queuesLeft new s)))).ptb := by
    simp [enterState_eq]
  rw [hptb, enterBus_of_uncut (queuesLeft_uncut h)]
  cases new <;> simp_all [enterPeers]

theorem enterState_peer_cleared (hnew : new = .unseated ∨ new = .listening) (s : State) (i : Slot) :
    (enterState new s).peer i = PeerEntry.cleared := by
  have hptb : (enterState new s).ptb = Vector.replicate 16 .cleared := by
    have henter : (enterState new s).ptb = (enterPeers new (enterPool new (enterBus new (queuesLeft new s)))).ptb := by
      simp [enterState_eq]
    rw [henter]
    rcases hnew with rfl | rfl <;> simp [enterPeers, clearTable] <;> split <;> simp
  rw [State.peer, hptb]
  simp

/-! ### The source selector and the counters (R100, R102, R163) -/

theorem enterSources_of_idle (hold : old ≠ .joined) (hnew : new ≠ .unseated ∧ new ≠ .listening ∧ new ≠ .joined) (s : State) :
    enterSources old new s = s := by
  unfold enterSources
  cases new <;> simp_all

/-- A change between states outside JOINED that are neither UNSEATED nor LISTENING leaves time and sources (R100). -/
theorem enterState_sources_of_idle (hold : s.sec.state ≠ .joined) (hnew : new ≠ .unseated ∧ new ≠ .listening ∧ new ≠ .joined) :
    (enterState new s).src = s.src ∧ (enterState new s).tmu = s.tmu := by
  obtain ⟨-, -, -, htmu, hsrc, -⟩ := queuesLeft_frame new s
  simp [enterState_eq, enterSources_of_idle hold hnew, htmu, hsrc]

theorem judgeSourceLost_countersSame (s : State) : CountersSame [.raisesDropped, .evictions] s (judgeSourceLost s) := by
  unfold judgeSourceLost
  dsimp only
  split
  · exact countersSame_of_eq rfl
  · split
    · exact raiseKey_countersSame _ _ _
    · exact countersSame_of_eq (by simp)

theorem updateCandidacy_countersSame (s : State) : CountersSame [.raisesDropped, .evictions] s (updateCandidacy s) := by
  unfold updateCandidacy
  split
  · exact countersSame_of_eq rfl
  · split
    · split
      · exact countersSame_of_eq rfl
      · exact CountersSame.trans (countersSame_of_eq rfl) (runSelection_countersSame _)
    · exact dropSource_countersSame _ s

theorem enterSources_countersSame (old new : Seating) (s : State) :
    CountersSame [.raisesDropped, .evictions] s (enterSources old new s) := by
  have hcleared : CountersSame [.raisesDropped, .evictions] s (clearSources s) :=
    CountersSame.trans (countersSame_of_eq rfl) (runSelection_countersSame _)
  have hjoined : CountersSame [.raisesDropped, .evictions] s (sourcesJoined s) := by
    have hjudged := (updateCandidacy_countersSame s).trans (judgeSourceLost_countersSame _)
    unfold sourcesJoined
    dsimp only
    split
    · exact hjudged.trans (countersSame_of_eq (by simp))
    · exact hjudged
  have hleft : CountersSame [.raisesDropped, .evictions] s (if old = .joined then sourcesLeft s else s) := by
    split
    · have hcandidacy := updateCandidacy_countersSame { s with src := { s.src with announceTimer := none } }
      exact CountersSame.trans (countersSame_of_eq rfl) (hcandidacy.trans (judgeSourceLost_countersSame _))
    · exact countersSame_of_eq rfl
  cases new with
  | unseated => exact hcleared
  | listening => exact hcleared
  | joined => exact hjoined
  | _ => exact hleft

@[simp] theorem purgeWithdrawn_counters (s : State) : (purgeWithdrawn s).counters = s.counters := by
  simp [purgeWithdrawn, purgeQueues, purgeQueue, countResults, resultCounter]

theorem queuesLeft_counters (new : Seating) (s : State) : (queuesLeft new s).counters = s.counters := by
  have hqueues : (enterQueues new (enterBase new s)).counters = s.counters := by
    unfold enterQueues
    split <;> simp
  simpa [queuesLeft] using hqueues

/-- A change of state that cuts no frame counts nothing but dropped raises and evictions (R163). -/
theorem enterState_countersSame (h : Uncut new s) : CountersSame [.raisesDropped, .evictions] s (enterState new s) := by
  have hbus : (enterPeers new (enterPool new (enterBus new (queuesLeft new s)))).counters = s.counters := by
    rw [enterBus_of_uncut (queuesLeft_uncut h)]
    simp [queuesLeft_counters]
  refine CountersSame.trans (countersSame_of_eq hbus) ((enterSources_countersSame s.sec.state new _).trans
    (countersSame_of_eq ?_))
  simp [enterState_eq]

/-! ### The card queues and slots (R20, R27, R39, R40) -/

theorem purgeWithdrawn_flying {c : CardClass} {e : QueueEntry} (he : e ∈ (purgeWithdrawn s).queue c) : e.inFlight = true := by
  rw [purgeWithdrawn, purgeQueues_queue] at he
  obtain ⟨e', -, -, hflight, hnamed⟩ := of_mem_keptBy he
  exact hflight.trans (hnamed rfl)

theorem updateCandidacy_retires (s : State) : Retires s (updateCandidacy s) := by
  unfold updateCandidacy
  split
  · exact retires_of_same rfl rfl
  · split
    · split
      · exact retires_of_same rfl rfl
      · exact Retires.after (runSelection_retires _) rfl rfl
    · exact dropSource_retires _ s

theorem enterSources_retires (old new : Seating) (s : State) : Retires s (enterSources old new s) := by
  have hcleared : Retires s (clearSources s) := Retires.after (runSelection_retires _) rfl rfl
  have hjoined : Retires s (sourcesJoined s) := by
    refine (updateCandidacy_retires s).trans (retires_of_same ?_ ?_)
    · unfold sourcesJoined
      dsimp only
      split <;> simp
    · unfold sourcesJoined
      dsimp only
      split <;> simp
  have hleft : Retires s (if old = .joined then sourcesLeft s else s) := by
    split
    · have hcandidacy := updateCandidacy_retires { s with src := { s.src with announceTimer := none } }
      exact (hcandidacy.after (s := s) rfl rfl).trans (retires_of_same (by simp [sourcesLeft]) (by simp [sourcesLeft]))
    · exact retires_of_same rfl rfl
  cases new with
  | unseated => exact hcleared
  | listening => exact hcleared
  | joined => exact hjoined
  | _ => exact hleft

/-- The purge of a change of state comes before every other result of it (R39, R40; log 15). -/
theorem enterState_retires (h : Uncut new s) : Retires (enterQueues new (enterBase new s)) (enterState new s) := by
  have hbus := enterBus_of_uncut (queuesLeft_uncut h)
  have hsources := enterSources_retires s.sec.state new (enterPeers new (enterPool new (enterBus new (queuesLeft new s))))
  obtain ⟨hresults, hqueues⟩ : (queuesLeft new s).cpt.results = (enterQueues new (enterBase new s)).cpt.results
      ∧ (queuesLeft new s).txs.queues = (enterQueues new (enterBase new s)).txs.queues := by simp [queuesLeft]
  refine (hsources.after ?_ ?_).trans (retires_of_same ?_ ?_)
  · simp [hbus, hresults]
  · simp [hbus, hqueues]
  · simp [enterState_eq]
  · simp [enterState_eq]

/-- What a change to a state that purges leaves queued is in flight (R39). -/
theorem enterState_flying (h : Uncut new s) (hnew : purgesOn new = true) {c : CardClass} {e : QueueEntry}
    (he : e ∈ (enterState new s).queue c) : e.inFlight = true := by
  obtain ⟨e', he', -, hflight⟩ := (enterState_retires h).queued c e he
  rw [enterQueues, if_pos hnew] at he'
  exact hflight.trans (purgeWithdrawn_flying he')

end Sys2Proof.Machine
end

section
/-! The internal slots at a change of seating state (R20, R27), and what each entry into a state leaves (R137 to R149). -/

namespace Sys2Proof.Machine

open Sys2Proof

variable {s t : State} {new old : Seating} {k : InternalKind}

/-! ### Slots -/

theorem enterSources_slots (hnew : new ≠ .joined) (old : Seating) (s : State) :
    (enterSources old new s).txs.slots = s.txs.slots := by
  cases new with
  | joined => exact absurd rfl hnew
  | unseated => simp [enterSources]
  | listening => simp [enterSources]
  | _ =>
    simp only [enterSources]
    split <;> simp

theorem enterSummaries_slots (hnew : new ≠ .joined) (s : State) : (enterSummaries new s).txs.slots = s.txs.slots := by
  cases new with
  | joined => exact absurd rfl hnew
  | _ => rfl

/-- The slots after a change of state, once the pool has done its part. -/
theorem enterState_slots (hnew : new ≠ .joined) (s : State) :
    (enterState new s).txs.slots = (enterPool new (enterBus new (queuesLeft new s))).txs.slots := by
  simp [enterState_eq, enterSummaries_slots hnew, enterSources_slots hnew]

theorem enterSlots_slots (new : Seating) (s : State) : (enterSlots new s).txs.slots = match new with
    | .forced => { (s.txs.slots.emptied (fun k => decide (k = .gone))) with
        gone := s.txs.slots.gone.requested, goneForced := true }
    | .isolated | .conflict | .unseated => s.txs.slots.emptied (fun _ => false)
    | .listening => s.txs.slots.emptied (fun k => decide (k = .ready))
    | .seated | .powering | .config | .joining | .joined | .draining | .withdrawn | .powerFault => s.txs.slots := by
  cases new <;> rfl

theorem queuesLeft_slots (new : Seating) (s : State) : (queuesLeft new s).txs.slots = (enterSlots new s).txs.slots := by
  have hslots : (enterQueues new (enterBase new s)).txs.slots = s.txs.slots := by simp
  rw [queuesLeft, enterSlots_slots, enterSlots_slots, hslots]

theorem slots_emptied_get (t : Slots) (keep : InternalKind → Bool) (k : InternalKind) :
    (t.emptied keep).get k = if keep k then t.get k else .empty := by cases k <;> rfl

/-- A change of state between states that keep the slots (R27). -/
theorem enterState_slots_of_kept (h : Uncut new s) (hnew : new = .seated ∨ new = .powering ∨ new = .config ∨ new = .joining
    ∨ new = .draining ∨ new = .withdrawn ∨ new = .powerFault) : (enterState new s).txs.slots = s.txs.slots := by
  have hleft := (queuesLeft_slots new s).trans (enterSlots_slots new s)
  rw [enterState_slots (by rcases hnew with rfl | rfl | rfl | rfl | rfl | rfl | rfl <;> nofun),
    enterBus_of_uncut (queuesLeft_uncut h)]
  rcases hnew with rfl | rfl | rfl | rfl | rfl | rfl | rfl <;> exact hleft

/-- A slot that is empty stays so when a frame is cut (R26). -/
theorem lostOutcome_slot_empty {x : Transmission} {o : TxOutcome} (h : s.txs.slots.get k = .empty) :
    (lostOutcome x o s).txs.slots.get k = .empty := by
  unfold lostOutcome
  split
  · simpa using h
  next j _ =>
    by_cases hk : k = j
    · subst hk
      simp [State.setSlots, h, SlotState.returned]
    · simpa [State.setSlots, Slots.get_set_ne _ _ hk] using h

theorem enterBus_slot_empty (hnew : new ≠ .unseated) (h : s.txs.slots.get k = .empty) :
    (enterBus new s).txs.slots.get k = .empty := by
  have hcut : (enterCut new s).txs.slots.get k = .empty := by
    unfold enterCut
    split
    · split
      · exact lostOutcome_slot_empty (by simpa using h)
      · exact h
    · exact h
  have hbus : (enterBus new s).txs.slots = (enterCut new s).txs.slots := by
    unfold enterBus
    cases new with
    | unseated => exact absurd rfl hnew
    | seated => by_cases hview : s.bau.view = .inactive <;> simp [takesPart, hview]
    | _ => simp [takesPart]
  rw [hbus, hcut]

theorem testReady_slot (hk : k ≠ .ready) (s : State) : (testReady s).txs.slots.get k = s.txs.slots.get k := by
  unfold testReady
  split
  · simp [request, State.setSlots, Slots.get_set_ne _ _ hk]
  · rfl

/-- ISOLATED, CONFLICT and LISTENING empty every slot but READY, whatever was on the pair (R27). -/
theorem enterState_slot_empty (hnew : new = .isolated ∨ new = .conflict ∨ new = .listening) (hk : k ≠ .ready) (s : State) :
    (enterState new s).txs.slots.get k = .empty := by
  have hleft : (queuesLeft new s).txs.slots.get k = .empty := by
    rw [queuesLeft_slots, enterSlots_slots]
    rcases hnew with rfl | rfl | rfl <;> simp [slots_emptied_get, hk]
  have hbus := enterBus_slot_empty (new := new) (by rcases hnew with rfl | rfl | rfl <;> nofun) hleft
  rw [enterState_slots (by rcases hnew with rfl | rfl | rfl <;> nofun)]
  rcases hnew with rfl | rfl | rfl
  · exact (testReady_slot hk _).trans hbus
  · exact (testReady_slot hk _).trans hbus
  · exact hbus

theorem enterState_slots_unseated (h : s.bau.tx = none) (k : InternalKind) :
    (enterState .unseated s).txs.slots.get k = .empty := by
  rw [enterState_slots (new := .unseated) nofun, enterBus_of_uncut (queuesLeft_uncut (.inl h))]
  simp [enterPool, poolSeatLoss, queuesLeft_slots, enterSlots_slots, slots_emptied_get]

theorem enterState_goneForced (h : Uncut .forced s) : (enterState .forced s).txs.slots.goneForced = true := by
  rw [enterState_slots (new := .forced) nofun, enterBus_of_uncut (queuesLeft_uncut h)]
  have hleft := (queuesLeft_slots .forced s).trans (enterSlots_slots .forced s)
  unfold enterPool readyWithdrawn testReady
  dsimp only
  split
  · simp [request, State.setSlots, Slots.set, hleft]
  · simp [hleft]

theorem enterState_nextSeq_listening (s : State) : (enterState .listening s).txs.nextSeq = Vector.replicate 16 (PerClass.all 0) := by
  simp [enterState_eq, queuesLeft, enterSlots]

theorem clearSources_table (s : State) : (clearSources s).src.table = [] ∧ (clearSources s).src.selection = none := by
  have htable : (clearSources s).src.table = [] := by simp [clearSources]
  refine ⟨htable, ?_⟩
  have hselection := runSelection_lawSelection { s with src := { s.src with table := [], announceTimer := none } }
  rw [LawSelection] at hselection
  exact hselection.trans (by rw [show (runSelection _).src.table = [] from htable]; rfl)

theorem enterState_sources_cleared (hnew : new = .unseated ∨ new = .listening) (s : State) :
    (enterState new s).src.table = [] ∧ (enterState new s).src.selection = none := by
  have hsrc : (enterState new s).src
      = (enterSources s.sec.state new (enterPeers new (enterPool new (enterBus new (queuesLeft new s))))).src := by
    simp [enterState_eq]
  rw [hsrc]
  rcases hnew with rfl | rfl <;> exact clearSources_table _

/-! ### Entries into the states -/

theorem enterConflict_sec (cause : ConflictCause) (s : State) : (enterConflict cause s).sec = { s.sec with
    state := .conflict, drven := false, rmvok := true, conflictCause := some cause
    powerGoodTimer := none, listenTimer := none, drainTimer := none, goneTimer := none, noticeTimer := none } := by
  simp [enterConflict, State.setSec, enterState_sec, drvenIn, rmvokIn]

theorem enterConflict_alarm (cause : ConflictCause) (s : State) :
    Raised keyH2 (enterConflict cause s) ∧ EventKind.seatingFault ∈ (enterConflict cause s).cpt.events := by
  have hraised := raised_raiseKey keyH2 (catalogueSeverity keyH2)
    ((enterState .conflict s).setSec (fun c => { c with conflictCause := some cause }))
  exact ⟨by simpa [Raised, enterConflict, raiseInternal] using hraised, by simp [enterConflict]⟩

theorem enterConflict_countersSame (h : Uncut .conflict s) (cause : ConflictCause) :
    CountersSame [.raisesDropped, .evictions] s (enterConflict cause s) :=
  (enterState_countersSame h).trans (CountersSame.trans (countersSame_of_eq rfl) (raiseKey_countersSame keyH2 _ _))

end Sys2Proof.Machine
end

section
/-! Group frames, frames in a state that does not receive, and frames with the own slot (R48, R54, R76, R138, R146). -/

namespace Sys2Proof.Machine

open Sys2Proof

variable {s t : State} {own : Slot} {stamp : FullTime}

theorem own_lt_cabinet (h : s.ownSlot = some own) : own.val < s.cabinet := by
  unfold State.ownSlot at h
  unfold State.cabinet
  cases hstraps : s.stl.straps with
  | none => simp [hstraps] at h
  | some straps =>
    simp only [hstraps] at h ⊢
    by_cases hvalid : strapsValid straps = true
    · rw [if_pos hvalid] at h
      have hslot : straps.slot.toNat < straps.size.slots := by
        simp only [strapsValid, Bool.and_eq_true, decide_eq_true_eq] at hvalid
        exact hvalid.2
      obtain rfl := Option.some.inj h
      exact Nat.lt_of_le_of_lt (Nat.mod_le _ _) hslot
    · rw [if_neg hvalid] at h
      exact absurd h nofun

/-- A command of a good frame is the frame's hearing, whatever its kind (R16). -/
theorem exec_of_frame {c : Instr} (hc : FrameFrom own c) (s : State) :
    ∃ k body act, exec c s = .next (hearFrame own k body act s) := by
  rcases hc with ⟨f, rfl, rfl⟩ | rfl | ⟨body, rfl | rfl | rfl | rfl | rfl | rfl⟩ <;> exact ⟨_, _, _, rfl⟩

/-- The state in which a frame with the own slot has been counted (R76). -/
def ownHeard (own : Slot) (s : State) : State := bump .ownSlotFrames (heardState s own)

theorem hearFrame_own (hown : s.ownSlot = some own) (hview : s.bau.view = .frame) (htx : s.bau.tx = none)
    (hrx : s.bau.rx = some (.marker stamp)) (k : FrameKind) (body : List Byte) (act : FullTime → State → State) :
    hearFrame own k body act s = reportDrained (ownSlotHeard (ownHeard own s)) := by
  have hheard : enterWindow (bump .framesHeard (s.setBau (fun b => { b with pointer := s.pointerAfter own }))) = heardState s own := by
    rw [bump_setBau]
    simp [enterWindow, heardState, heardBus, State.setBau, State.pointerAfter]
  have hslot : (heardState s own).ownSlot = some own := by simpa [State.ownSlot, heardState] using hown
  rw [hearFrame, hview, htx, hrx]
  dsimp only
  rw [if_neg (Nat.not_le.mpr (own_lt_cabinet hown)), takeGood, hheard, if_pos hslot]
  rfl

theorem ownHeard_counter (own : Slot) (s : State) (j : CounterId) : (ownHeard own s).counter j = if j = .ownSlotFrames then
    satAdd (s.counter .ownSlotFrames) 1 else if j = .framesHeard then satAdd (s.counter .framesHeard) 1 else s.counter j := by
  have hheard : ∀ j, (heardState s own).counter j = if j = .framesHeard then satAdd (s.counter .framesHeard) 1 else s.counter j :=
    fun j => counter_bump .framesHeard j s
  rw [ownHeard, counter_bump, hheard, hheard]
  simp

theorem ownHeard_fields (own : Slot) (s : State) :
    (ownHeard own s).bau = heardBus s own ∧ Counted .framesHeard s (ownHeard own s) ∧ Counted .ownSlotFrames s (ownHeard own s)
      ∧ CountersSame [.framesHeard, .ownSlotFrames] s (ownHeard own s)
      ∧ OnlyEventsPlaced s (ownHeard own s) ∧ SameOutside [.bau, .cpt, .counters] s (ownHeard own s) := by
  refine ⟨by simp [ownHeard, heardState], by simp [Counted, ownHeard_counter], by simp [Counted, ownHeard_counter],
    fun j hj => ?_, ?_, ?_⟩
  · simp only [List.mem_cons, List.not_mem_nil, or_false, not_or] at hj
    rw [ownHeard_counter, if_neg hj.2, if_neg hj.1]
  · exact onlyEventsPlaced_of_fields (by simp [ownHeard]) fun _ he => bump_events _ _ (heardState_events _ _ he)
  · simp [sameOutside_iff, ownHeard, heardState]

theorem ownHeard_blocks (own : Slot) (s : State) : (ownHeard own s).sec = s.sec ∧ (ownHeard own s).ptb = s.ptb
    ∧ (ownHeard own s).rxp = s.rxp ∧ (ownHeard own s).txs = s.txs := by
  simp [ownHeard, heardState]

/-- CONFLICT entered by a frame with the own slot (R76, R146). -/
theorem ownSlotHeard_conflict (hstate : s.sec.state = .joining ∨ s.sec.state = .joined ∨ s.sec.state = .draining) :
    ownSlotHeard s = enterConflict .ownSlotHeard s := by
  unfold ownSlotHeard
  rcases hstate with h | h | h <;> rw [h]

theorem ownSlotHeard_listening (hstate : s.sec.state = .listening) :
    ownSlotHeard s = s.setSec (fun c => { c with slotHeard := true }) := by
  unfold ownSlotHeard
  rw [hstate]

theorem ownSlotHeard_other
    (hstate : ¬ (s.sec.state = .listening ∨ s.sec.state = .joining ∨ s.sec.state = .joined ∨ s.sec.state = .draining)) :
    ownSlotHeard s = s := by
  unfold ownSlotHeard
  cases h : s.sec.state <;> simp_all

/-- What is stated of a frame that carries the own slot, for each seating state it may find (R76, R138, R146). -/
theorem ownSlotFrame {c : Instr} (hc : FrameFrom own c) (hown : s.ownSlot = some own) (hview : s.bau.view = .frame)
    (htx : s.bau.tx = none) (hrx : s.bau.rx = some (.marker stamp)) : ∃ t, exec c s = .next t
        ∧ Counted .framesHeard s t ∧ Counted .ownSlotFrames s t ∧ t.ptb = s.ptb
        ∧ t.rxp = { s.rxp with readyOutstanding := t.rxp.readyOutstanding }
        ∧ t.bau.view = .window ∧ t.bau.pointer = Fin.ofNat 16 ((own.val + 1) % s.cabinet)
        ∧ (s.sec.state = .listening → t.sec = { s.sec with slotHeard := true })
        ∧ (s.sec.state = .joining ∨ s.sec.state = .joined ∨ s.sec.state = .draining → t.sec.state = .conflict
            ∧ t.sec.conflictCause = some .ownSlotHeard ∧ t.sec.drven = false ∧ t.sec.rmvok = true
            ∧ t.sec.pwren = s.sec.pwren ∧ Raised keyH2 t ∧ EventKind.seatingFault ∈ t.cpt.events)
        ∧ (¬ (s.sec.state = .joining ∨ s.sec.state = .joined ∨ s.sec.state = .draining) →
            t.bau = heardBus s own ∧ CountersSame [.framesHeard, .ownSlotFrames] s t ∧ OnlyEventsPlaced s t
            ∧ t.rxp = s.rxp ∧ SameOutside [.bau, .sec, .cpt, .counters] s t)
        ∧ (¬ (s.sec.state = .listening ∨ s.sec.state = .joining ∨ s.sec.state = .joined ∨ s.sec.state = .draining) →
            t.sec = s.sec) := by
  obtain ⟨k, body, act, hexec⟩ := exec_of_frame hc s
  rw [hearFrame_own hown hview htx hrx] at hexec
  obtain ⟨hbau, hheard, hownFrames, hcounters, hevents, hsame⟩ := ownHeard_fields own s
  obtain ⟨hsec, hptb, hrxp, -⟩ := ownHeard_blocks own s
  refine ⟨_, hexec, ?_⟩
  by_cases hreceives : s.sec.state = .joining ∨ s.sec.state = .joined ∨ s.sec.state = .draining
  · have huncut : Uncut .conflict (ownHeard own s) := .inl (by rw [hbau]; exact htx)
    have hconflict : ownSlotHeard (ownHeard own s) = enterConflict .ownSlotHeard (ownHeard own s) :=
      ownSlotHeard_conflict (by rwa [hsec])
    rw [hconflict, reportDrained_of_ne (by simp)]
    have hentered := enterConflict_countersSame huncut .ownSlotHeard
    have hbau' : (enterConflict .ownSlotHeard (ownHeard own s)).bau = (heardBus s own).entered .conflict := by
      simp [enterConflict, State.setSec, enterState_bau huncut, hbau]
    have hsec' := enterConflict_sec .ownSlotHeard (ownHeard own s)
    obtain ⟨hraised, hfault⟩ := enterConflict_alarm .ownSlotHeard (ownHeard own s)
    refine ⟨?_, ?_, ?_, ?_, by rw [hbau']; rfl, by rw [hbau']; rfl, fun h => ?_, fun _ => ⟨by rw [hsec'], by rw [hsec'], by rw [hsec'],
      by rw [hsec'], by rw [hsec', hsec], hraised, hfault⟩, fun h => absurd hreceives h, fun h => absurd (.inr hreceives) h⟩
    · exact (hentered _ (by decide)).trans hheard
    · exact (hentered _ (by decide)).trans hownFrames
    · simp [enterConflict, State.setSec, enterState_ptb huncut, hptb]
    · have hpool := enterState_rxp (new := .conflict) nofun (ownHeard own s)
      rw [hrxp] at hpool
      simpa [enterConflict, State.setSec] using hpool
    · rw [h] at hreceives
      simp at hreceives
  · by_cases hlistening : s.sec.state = .listening
    · have htaken : ownSlotHeard (ownHeard own s) = (ownHeard own s).setSec (fun c => { c with slotHeard := true }) :=
        ownSlotHeard_listening (by rwa [hsec])
      rw [htaken, reportDrained_of_ne (by simp [State.setSec, hsec, hlistening])]
      have hsetSec : ∀ j, ((ownHeard own s).setSec (fun c => { c with slotHeard := true })).counter j = (ownHeard own s).counter j :=
        counter_congr (by simp [State.setSec])
      refine ⟨(hsetSec _).trans hheard, (hsetSec _).trans hownFrames, ?_, ?_, ?_, ?_, fun _ => ?_, fun h => absurd h hreceives,
        fun _ => ⟨?_, fun j hj => (hsetSec j).trans (hcounters j hj), ?_, ?_, ?_⟩, fun h => absurd (.inl hlistening) h⟩
      · simp [State.setSec, hptb]
      · simp [State.setSec, hrxp]
      · simp [State.setSec, hbau, heardBus]
      · simp [State.setSec, hbau, heardBus]
      · simp [State.setSec, hsec]
      · simp [State.setSec, hbau]
      · exact onlyEventsPlaced_trans hevents (onlyEventsPlaced_of_fields (by simp [State.setSec]) fun _ he => by simpa [State.setSec] using he)
      · simp [State.setSec, hrxp]
      · have hblocks := sameOutside_iff.mp hsame
        simp only [List.mem_cons, reduceCtorEq, List.not_mem_nil, or_false, false_or, true_or] at hblocks
        simp [sameOutside_iff, State.setSec, hblocks]
    · have htaken : ownSlotHeard (ownHeard own s) = ownHeard own s :=
        ownSlotHeard_other (by rw [hsec]; exact fun h => h.elim hlistening hreceives)
      rw [htaken, reportDrained_of_ne (by rw [hsec]; exact fun h => hreceives (.inr (.inr h)))]
      refine ⟨hheard, hownFrames, hptb, ?_, ?_, ?_,
        fun h => absurd h hlistening, fun h => absurd h hreceives, fun _ => ⟨hbau, hcounters, hevents, hrxp, ?_⟩, fun _ => hsec⟩
      · rw [hrxp]
      · rw [hbau]
        rfl
      · rw [hbau]
        rfl
      · exact fun b hb => hsame b fun h => hb (by revert h; cases b <;> simp)

/-- Settles O39. -/
theorem groupFramesAndNotReceiving : Obligations.GroupFramesAndNotReceiving := by
  unfold Obligations.GroupFramesAndNotReceiving
  have hk : FrameKind.data.plain := ⟨nofun, nofun, nofun⟩
  refine ⟨fun f stamp s hh hdest ha hstate hp hdrained => ?_, fun f stamp s hh ha hstate hp => ?_,
    fun c own stamp s hc hown hview htx hrx _ => ownSlotFrame hc hown hview htx hrx⟩
  · obtain ⟨hbau, hrxp, htmu, hsrc, hsec, halu, hstl, hpins, hahead, hpending⟩ := heardFrom_frame f.source .data f.payload s
    have htxs := (heardFrom_quiet (body := f.payload) hk hp).1
    have hpeer := heardFrom_peer (body := f.payload) hk hp
    have hcounter := heardFrom_counter (body := f.payload) hk hp
    have hexec := exec_dataHeard_of_stays hh hp
    rw [poolTake_heardFrom_group ha hdest hstate, reportDrained_of_same hdrained (by simp [htxs]) (by simp [hsec])
      (by simp [hbau]; rfl)] at hexec
    have hpeer' : ∀ j, (takeGroup f (heardFrom f.source .data f.payload s)).peer j
        = if j = f.source then (s.peer f.source).heard else s.peer j := fun j => by
      rw [← hpeer]
      exact peer_congr (by simp) j
    refine ⟨_, hexec, by simp [hbau], (hpeer' _).trans (if_pos rfl), fun j hj => (hpeer' j).trans (if_neg hj), ?_,
      onlyEventsPlaced_trans (heardFrom_onlyEventsPlaced f.source .data f.payload s)
        (onlyEventsPlaced_of_fields (by simp) fun _ he => takeGroup_events _ _ he), ?_, fun hroom => ?_, fun hfull => ?_⟩
    · unfold takeGroup
      split
      · simp [Counted, storeFrame_counter, hcounter]
      · simp [Counted, counter_bump, hcounter]
    · simp [sameOutside_iff, htmu, hsrc, hsec, halu, hstl, hpins, hahead, hpending, htxs]
    · have hstore : takeGroup f (heardFrom f.source .data f.payload s) = storeFrame f (heardFrom f.source .data f.payload s) := by
        rw [takeGroup, hrxp, if_pos hroom]
      rw [hstore]
      refine ⟨?_, by simp [Counted, storeFrame_counter, hcounter], fun j hj => ?_⟩
      · rw [storeFrame_rxp, hrxp, State.storedForm, lateMark_congr htmu hsrc]
      · simp only [List.mem_cons, List.not_mem_nil, or_false, not_or] at hj
        simp [storeFrame_counter, hcounter, hj]
    · have hdrop : takeGroup f (heardFrom f.source .data f.payload s) = bump .groupDrops (heardFrom f.source .data f.payload s) := by
        rw [takeGroup, hrxp, if_neg (Nat.not_le.mpr hfull)]
      rw [hdrop]
      refine ⟨by simp [hrxp], by simp [Counted, counter_bump, hcounter], fun j hj => ?_⟩
      simp only [List.mem_cons, List.not_mem_nil, or_false, not_or] at hj
      simp [counter_bump, hcounter, hj]
  · obtain ⟨hbau, hrxp, htmu, hsrc, hsec, halu, hstl, hpins, hahead, hpending⟩ := heardFrom_frame f.source .data f.payload s
    have htxs := (heardFrom_quiet (body := f.payload) hk hp).1
    have hpeer := heardFrom_peer (body := f.payload) hk hp
    have hcounter := heardFrom_counter (body := f.payload) hk hp
    have hexec := exec_dataHeard_of_stays hh hp
    rw [poolTake_heardFrom_notReceiving ha hstate,
      reportDrained_of_ne (by simpa [hsec] using fun h => hstate (.inr (.inr h)))] at hexec
    refine ⟨_, hexec, by simp [hbau], ?_, fun j hj => ?_, by simp [Counted, counter_bump, hcounter],
      by simp [Counted, counter_bump, hcounter], fun j hj => ?_,
      onlyEventsPlaced_trans (heardFrom_onlyEventsPlaced f.source .data f.payload s)
        (onlyEventsPlaced_of_fields (by simp) fun _ he => bump_events _ _ he), ?_⟩
    · rw [bump_peer, hpeer, if_pos rfl, PeerEntry.heard]
    · rw [bump_peer, hpeer, if_neg hj]
    · simp only [List.mem_cons, List.not_mem_nil, or_false, not_or] at hj
      simp [counter_bump, hcounter, hj]
    · simp [sameOutside_iff, hrxp, htmu, hsrc, hsec, halu, hstl, hpins, hahead, hpending, htxs]

end Sys2Proof.Machine
end

section
/-! LISTENING and DRAINING entered, and the messages and events that lead there (R137, R141, R145, R147). -/

namespace Sys2Proof.Machine

open Sys2Proof

variable {s t : State} {own : Slot} {cause : WithdrawCause}

/-! ### LISTENING (R137) -/

theorem enterListening_sec (s : State) : (enterListening s).sec = { s.sec with
    state := .listening, drven := false, rmvok := false, withdrawCause := none, forceCause := none, conflictCause := none
    powerGoodTimer := none, listenTimer := some 37500000, drainTimer := none, goneTimer := none, noticeTimer := none
    slotHeard := false } := by
  simp [enterListening, State.setSec, clearCauses, enterState_sec, drvenIn, rmvokIn, Config.ms, Config.ticksPerMs]

/-- Pointer and collision count start afresh whatever is on the pair (R2). -/
theorem enterListening_bus (s : State) : (enterListening s).bau.pointer = 0 ∧ (enterListening s).bau.collisions = 0 := by
  simp [enterListening, State.setSec, clearCauses, enterState, enterBus]

theorem enterListening_peer (s : State) (i : Slot) : (enterListening s).peer i = PeerEntry.cleared := by
  rw [← enterState_peer_cleared (.inr rfl) s i]
  exact peer_congr (by simp [enterListening, State.setSec, clearCauses]) i

theorem mayRejoin_iff (s : State) : s.mayRejoin = true ↔ s.sec.eject.level = true
    ∧ ((s.sec.state = .withdrawn ∧ s.sec.withdrawCause = some .card)
      ∨ ((s.sec.state = .conflict ∨ s.sec.state = .isolated) ∧ s.sec.pwren = true)) := by
  unfold State.mayRejoin
  cases s.sec.state <;> simp [and_comm]

theorem exec_rejoin (h : PortReady s) : exec .rejoin s = .next (actRejoin s) :=
  congrArg Host.Outcome.next (handle_of_ready h _ _)

theorem refuse_eq (code : RefusalCode) (kind : Byte) (s : State) : refuse code kind none s
    = { s with cpt := { s.cpt with replies := s.cpt.replies ++ [.refusal code kind none] } } := rfl

/-- Settles O52. -/
theorem rejoinTaken : Obligations.RejoinTaken := by
  unfold Obligations.RejoinTaken
  refine ⟨fun s hready heject hstate => ?_, fun s hready hno => ?_⟩
  · have hact : actRejoin s = enterListening s := by rw [actRejoin, if_pos ((mayRejoin_iff s).mpr ⟨heject, hstate⟩)]
    obtain ⟨hpointer, hcollisions⟩ := enterListening_bus s
    refine ⟨enterListening s, (exec_rejoin hready).trans (congrArg _ hact), ?_, ?_, ?_, ?_, ?_, ?_, ?_, ?_, ?_, hpointer,
      hcollisions, enterListening_peer s, fun k hk => ?_, fun i c => ?_, ?_, by simp, by simp⟩
    iterate 9 rw [enterListening_sec]
    · rw [← enterState_slot_empty (.inr (.inr rfl)) hk s]
      simp [enterListening, State.setSec, clearCauses]
    · have hseq : (enterListening s).txs.nextSeq = Vector.replicate 16 (PerClass.all 0) := by
        rw [← enterState_nextSeq_listening s]
        simp [enterListening, State.setSec, clearCauses]
      simp [hseq]
    · rw [← (enterState_sources_cleared (.inr rfl) s).1]
      simp [enterListening, State.setSec, clearCauses]
  · have hact : actRejoin s = refuse .wrongState 0x07 none s := by
      rw [actRejoin, if_neg fun h => hno ((mayRejoin_iff s).mp h)]
    exact (exec_rejoin hready).trans (congrArg _ (hact.trans (refuse_eq _ _ s)))

/-! ### DRAINING (R141) -/

theorem uncut_draining (s : State) : Uncut .draining s := .inr ⟨nofun, .inl rfl⟩

/-- A station that leaves JOINED takes its own entry out of the source table (R102, R103). -/
theorem sourcesLeft_own (hown : s.ownSlot = some own) (hstate : s.sec.state ≠ .joined) :
    findSource own (sourcesLeft s).src.table = none ∧ (sourcesLeft s).src.announceTimer = none := by
  have hcandidate : (updateCandidacy { s with src := { s.src with announceTimer := none } })
      = dropSource own { s with src := { s.src with announceTimer := none } } := by
    have hown' : State.ownSlot { s with src := { s.src with announceTimer := none } } = some own := hown
    simp [updateCandidacy, hown', State.candidate, hstate]
  rw [sourcesLeft, hcandidate]
  simp [dropSource_findSource]

theorem enterState_own_left (hold : s.sec.state = .joined) (hown : s.ownSlot = some own) :
    findSource own (enterState .draining s).src.table = none ∧ (enterState .draining s).src.announceTimer = none := by
  let before := enterPeers .draining (enterPool .draining (enterBus .draining (queuesLeft .draining s)))
  have hsrc : (enterState .draining s).src = (sourcesLeft before).src := by
    simp [enterState_eq, enterSources, hold, before]
  have hstraps : before.stl.straps = s.stl.straps := by simp [before, queuesLeft, enterBase]
  have hstate : before.sec.state = .draining := by simp [before, queuesLeft, enterBase]
  have hown' : before.ownSlot = some own := by rwa [State.ownSlot, hstraps]
  rw [hsrc]
  exact sourcesLeft_own hown' (by simp [hstate])

theorem reportDrained_withdraw (s : State) : (reportDrained s).txs.slots.withdraw = s.txs.slots.withdraw
    ∧ (reportDrained s).txs.slots.withdrawCause = s.txs.slots.withdrawCause := by
  unfold reportDrained
  split <;> exact ⟨rfl, rfl⟩

theorem enterDraining_sec (cause : WithdrawCause) (s : State) : (enterDraining cause s).sec = { s.sec with
    state := .draining, drven := true, rmvok := false, withdrawCause := some cause
    powerGoodTimer := none, listenTimer := none, drainTimer := some 31250000, goneTimer := none, noticeTimer := none } := by
  simp [enterDraining, State.setSec, enterState_sec, drvenIn, rmvokIn, Config.ms, Config.ticksPerMs]

theorem enterDraining_withdraw (cause : WithdrawCause) (s : State) :
    (enterDraining cause s).txs.slots.withdraw = s.txs.slots.withdraw.requested
      ∧ (enterDraining cause s).txs.slots.withdrawCause = cause := by
  have hslots := enterState_slots_of_kept (uncut_draining s) (by simp)
  obtain ⟨hwithdraw, hcause⟩ := reportDrained_withdraw { (requestWithdraw cause (enterState .draining s)).setSec
    (fun c => { c with withdrawCause := some cause, drainTimer := some (Config.ms 250) }) with
    txs := { (requestWithdraw cause (enterState .draining s)).txs with drainedReported := false } }
  refine ⟨hwithdraw.trans ?_, hcause.trans rfl⟩
  rw [← hslots]
  rfl

/-- A station of JOINED that enters DRAINING (R141). -/
theorem enterDraining_of_joined (hstate : s.sec.state = .joined) (hown : s.ownSlot = some own) :
    findSource own (enterDraining cause s).src.table = none ∧ (enterDraining cause s).src.announceTimer = none
      ∧ EventKind.seatingStateChange ∈ (enterDraining cause s).cpt.events
      ∧ (enterDraining cause s).rxp = s.rxp ∧ (enterDraining cause s).ptb = s.ptb := by
  obtain ⟨htable, htimer⟩ := enterState_own_left hstate hown
  have hsignal := enterState_signalled .draining s
  have hrxp := enterState_rxp_of_kept (new := .draining) (by simp) s
  have hptb := enterState_ptb (uncut_draining s) (by simp)
  refine ⟨?_, ?_, ?_, ?_, ?_⟩
  · simpa [enterDraining, State.setSec] using htable
  · simpa [enterDraining, State.setSec] using htimer
  · simpa [enterDraining, State.setSec] using hsignal
  · simpa [enterDraining, State.setSec] using hrxp
  · simpa [enterDraining, State.setSec] using hptb

theorem exec_withdraw (h : PortReady s) : exec .withdraw s = .next (actWithdraw s) :=
  congrArg Host.Outcome.next (handle_of_ready h _ _)

/-- EJECT opened is acted on once its pin has held the level for its filter (R129). -/
theorem exec_ejectOpened_of_held (h : Held s.sec.eject false) : exec .ejectOpened s
    = .next (ejectorOpens (s.setSec (fun c => { c with eject := .taken false }))) :=
  congrArg Host.Outcome.next (if_pos ((Conditioner.due_iff _ _).mpr h))

theorem ejectorOpens_of_joined (h : s.sec.state = .joined) : ejectorOpens s = enterDraining .ejector s := by
  rw [ejectorOpens, h]

/-- Settles O51. -/
theorem withdrawalBegins : Obligations.WithdrawalBegins := by
  unfold Obligations.WithdrawalBegins
  refine ⟨fun cause c own s hstate hown hc => ?_, fun s hstate hready => ?_⟩
  · have hbegun : ∃ u, exec c s = .next (enterDraining cause u) ∧ u.sec.state = .joined ∧ u.ownSlot = some own
        ∧ u.sec.pwren = s.sec.pwren ∧ u.txs = s.txs ∧ u.cpt = s.cpt ∧ u.tmu = s.tmu ∧ u.rxp = s.rxp ∧ u.ptb = s.ptb := by
      obtain ⟨rfl, rfl, hheld⟩ | ⟨rfl, rfl, hready⟩ := hc
      · exact ⟨_, (exec_ejectOpened_of_held hheld).trans (congrArg _ (ejectorOpens_of_joined hstate)), hstate, hown,
          rfl, rfl, rfl, rfl, rfl, rfl⟩
      · exact ⟨s, (exec_withdraw hready).trans (congrArg _ (if_pos hstate)), hstate, hown, rfl, rfl, rfl, rfl, rfl, rfl⟩
    obtain ⟨u, hexec, hjoined, hslot, hpwren, htxs, hcpt, htmu, hrxp, hptb⟩ := hbegun
    obtain ⟨htable, htimer, hsignal, hpool, hpeers⟩ := enterDraining_of_joined (cause := cause) hjoined hslot
    obtain ⟨hwithdraw, hcause⟩ := enterDraining_withdraw cause u
    refine ⟨_, hexec, ?_, ?_, ?_, ?_, ?_, ?_, ?_, hcause, htable, htimer, ?_, hsignal, ?_, hpool.trans hrxp, hpeers.trans hptb⟩
    iterate 5 rw [enterDraining_sec]
    · rw [enterDraining_sec]
      exact hpwren
    · rw [hwithdraw, htxs]
    · simp [hcpt]
    · simp [htmu]
  · have hact : actWithdraw s = refuse .wrongState 0x06 none s := if_neg hstate
    exact (exec_withdraw hready).trans (congrArg _ (hact.trans (refuse_eq _ _ s)))

end Sys2Proof.Machine
end

section
/-! What the ending of an own frame counts, and what it leaves of the bus access unit (R8 to R11, R32 to R36, R44). -/

namespace Sys2Proof.Machine

open Sys2Proof

variable {s t : State} {x : Transmission} {c : CardClass} {e : QueueEntry} {i j : CounterId}

/-! ### Outcomes of card frames -/

/-- The counters that the outcome of a card frame may touch: the results counted, FULL REPLIES, and those of a raise. -/
def outcomeCounters : List CounterId := [.sent, .late, .undeliverable, .peerLeft, .fullReplies, .raisesDropped, .evictions]

theorem countResults_countersSame (code : ResultCode) (k : Nat) (s : State) :
    CountersSame outcomeCounters s (countResults code k s) := by
  intro j hj
  unfold countResults
  split
  next i hi =>
    have hmem : i ∈ outcomeCounters := by
      revert hi
      cases code <;> simp +contextual [resultCounter, outcomeCounters, eq_comm]
    rw [counter_bumpBy, if_neg fun hji : j = i => hj (hji ▸ hmem)]
  next => rfl

theorem retireFlight_countersSame (c : CardClass) (e : QueueEntry) (code : ResultCode) (s : State) :
    CountersSame outcomeCounters s (retireFlight c e code s) := by
  have hleft : CountersSame outcomeCounters s (appendResults [e.result code] (leaveQueue c e s)) :=
    countersSame_of_eq (by simp)
  exact hleft.trans (countResults_countersSame code 1 _)

theorem sweepLate_countersSame (s : State) : CountersSame [.late, .raisesDropped, .evictions] s (sweepLate s) := by
  have hqueue : CountersSame [.late, .raisesDropped, .evictions] s
      (s.setQueue .deadline ((s.queue .deadline).filter (fun e => !s.lateNow e))) := countersSame_of_eq (by simp)
  exact hqueue.trans (retireAll_counter _ _).1

theorem returnFlight_countersSame (c : CardClass) (n : Nat) (s : State) :
    CountersSame outcomeCounters s (returnFlight c n s) := by
  have hqueue : CountersSame outcomeCounters s (s.setQueue c
      (changeFlight (fun e => { e with inFlight := false, attempts := n }) (s.queue c))) := countersSame_of_eq (by simp)
  cases c with
  | deadline => exact hqueue.trans ((sweepLate_countersSame _).mono (by decide))
  | control => exact hqueue
  | bulk => exact hqueue

theorem bump_countersSame (h : i ∈ outcomeCounters) (s : State) : CountersSame outcomeCounters s (bump i s) := by
  intro j hj
  rw [counter_bump, if_neg fun hji : j = i => hj (hji ▸ h)]

theorem raiseInternal_countersSame (k : AlarmKey) (s : State) : CountersSame outcomeCounters s (raiseInternal k s) :=
  (raiseKey_countersSame k (catalogueSeverity k) s).mono (by decide)

theorem outcomeMarked_countersSame (c : CardClass) (e : QueueEntry) (code : ResultCode) (o : TxOutcome) (s : State) :
    CountersSame outcomeCounters s (outcomeMarked c e code o s) := by
  have hretired := retireFlight_countersSame c e code s
  unfold outcomeMarked
  dsimp only
  split
  · exact hretired.trans (bump_countersSame (by decide) _)
  · exact hretired

theorem outcomeNoReply_countersSame (c : CardClass) (e : QueueEntry) (s : State) :
    CountersSame outcomeCounters s (outcomeNoReply c e s) := by
  unfold outcomeNoReply
  split
  · exact returnFlight_countersSame _ _ _
  · have hretired := retireFlight_countersSame c { e with attempts := 3 } .undeliverable s
    have hraised := raiseInternal_countersSame keyX4 (retireFlight c { e with attempts := 3 } .undeliverable s)
    have htimer : CountersSame outcomeCounters (raiseInternal keyX4 (retireFlight c { e with attempts := 3 } .undeliverable s))
        { raiseInternal keyX4 (retireFlight c { e with attempts := 3 } .undeliverable s) with
          txs := { (raiseInternal keyX4 (retireFlight c { e with attempts := 3 } .undeliverable s)).txs with
            undeliverableTimer := some (Config.ms 1000) } } := countersSame_of_eq rfl
    exact (hretired.trans hraised).trans htimer

theorem cardOutcome_countersSame (c : CardClass) (o : TxOutcome) (s : State) :
    CountersSame outcomeCounters s (cardOutcome c o s) := by
  unfold cardOutcome
  split
  · exact countersSame_of_eq rfl
  next e _ =>
    split
    · exact countersSame_of_eq (by simp)
    split
    · exact retireFlight_countersSame _ _ _ _
    split
    · exact outcomeMarked_countersSame _ _ _ _ _
    next =>
      cases o with
      | full =>
        have hfull : CountersSame outcomeCounters s (bump .fullReplies s) := bump_countersSame (by decide) s
        have hblocked : CountersSame outcomeCounters (bump .fullReplies s) (blockPeer e.dest (bump .fullReplies s)) :=
          countersSame_of_eq (by simp)
        exact (hfull.trans hblocked).trans (returnFlight_countersSame _ _ _)
      | noReply => exact outcomeNoReply_countersSame _ _ _
      | transmitted => exact returnFlight_countersSame _ _ _
      | accept => exact returnFlight_countersSame _ _ _
      | collided => exact returnFlight_countersSame _ _ _
      | cut => exact returnFlight_countersSame _ _ _

theorem lostOutcome_countersSame (x : Transmission) (o : TxOutcome) (s : State) :
    CountersSame outcomeCounters s (lostOutcome x o s) := by
  unfold lostOutcome
  split
  · exact cardOutcome_countersSame _ _ _
  · exact countersSame_of_eq rfl

/-! ### The three endings of an own frame -/

/-- An own frame that reached its end marker (R9 to R11). -/
theorem endSent_bau (x : Transmission) (s : State) : (endSent x s).bau = { s.bau with
    view := .window, pointer := s.pointerAfter x.slot, collisions := 0, rx := none
    tx := if x.awaitsReply then some { x with complete := true } else none } := by
  unfold endSent
  dsimp only
  split
  · split <;> simp [State.setBau]
  · simp [State.setBau]

theorem endSent_counter (hj : j ∉ outcomeCounters) (x : Transmission) (s : State) :
    (endSent x s).counter j = if j = .framesSent then satAdd (s.counter .framesSent) 1 else s.counter j := by
  have hcleared : ∀ u : State, (clearKey keyX1 (bump .framesSent u)).counter j = (bump .framesSent u).counter j :=
    fun u => counter_congr (by simp) j
  unfold endSent
  dsimp only
  split
  · split
    · exact (hcleared _).trans (counter_bump .framesSent j _)
    · exact (cardOutcome_countersSame _ _ _ j hj).trans ((hcleared _).trans (counter_bump .framesSent j _))
  · exact (hcleared _).trans (counter_bump .framesSent j _)

theorem countCollision_bau (s : State) : (countCollision s).bau = { s.bau with collisions := min (s.bau.collisions + 1) 8 } := by
  unfold countCollision
  dsimp only
  split <;> simp [State.setBau]

theorem countCollision_countersSame (s : State) : CountersSame [.raisesDropped, .evictions] s (countCollision s) := by
  unfold countCollision
  dsimp only
  split
  · have hset : CountersSame [.raisesDropped, .evictions] s
        (s.setBau (fun b => { b with collisions := min (s.bau.collisions + 1) 8 })) := countersSame_of_eq rfl
    exact hset.trans (raiseKey_countersSame _ _ _)
  · exact countersSame_of_eq rfl

/-- An own frame that collided (R8, R11). -/
theorem endCollided_bau (x : Transmission) (s : State) : (endCollided x s).bau = { s.bau with
    tx := none, rx := some .ownCollided, pointer := 0, collisions := min (s.bau.collisions + 1) 8 } := by
  simp [endCollided, countCollision_bau, State.setBau]

theorem judgeBroken_counter (own : Bool) (cause : BrokenCause) (s : State) (j : CounterId) :
    (judgeBroken own cause s).counter j
      = if j = causeCounter own cause then satAdd (s.counter (causeCounter own cause)) 1 else s.counter j :=
  counter_bump _ _ _

theorem endCollided_counter (hj : j ∉ outcomeCounters) (x : Transmission) (s : State) :
    (endCollided x s).counter j = if j = .ownCollisions then satAdd (s.counter .ownCollisions) 1 else s.counter j := by
  have hlost := lostOutcome_countersSame x .collided (s.setBau (fun b => { b with tx := none, rx := some .ownCollided }))
  have hown : CounterId.ownCollisions ∉ outcomeCounters := by decide
  unfold endCollided
  dsimp only
  rw [(countCollision_countersSame _).mono (l' := outcomeCounters) (by decide) j hj, judgeBroken_counter, causeCounter,
    if_pos rfl, hlost j hj, hlost .ownCollisions hown]
  rfl

/-- An own frame that is cut (R9). -/
theorem cutFrame_bau (x : Transmission) (s : State) : (cutFrame x s).bau = { s.bau with tx := none, rx := some .ownCut } := by
  simp [cutFrame]

theorem cutFrame_counter (hj : j ∉ outcomeCounters) (x : Transmission) (s : State) :
    (cutFrame x s).counter j = if j = .framesCut then satAdd (s.counter .framesCut) 1 else s.counter j :=
  (lostOutcome_countersSame x .cut _ j hj).trans (counter_bump .framesCut j _)

theorem enterCut_of_cut {new : Seating} (hx : s.bau.tx = some x) (h : cutBy new x = true) : enterCut new s = cutFrame x s := by
  rw [enterCut, hx]
  exact if_pos h

/-! ### When an own frame is being sent, has ended or has collided -/

theorem sending_iff (x : Transmission) : x.sending = true ↔
    x.complete = false ∧ x.differed = false ∧ x.driven + 1 < x.drive.length := by
  simp only [Transmission.sending, Transmission.collided, Transmission.ended]
  cases x.complete <;> cases x.differed <;> simp

theorem ended_iff (x : Transmission) : x.ended = true ↔
    x.complete = false ∧ x.differed = false ∧ x.drive.length ≤ x.driven + 1 := by
  simp only [Transmission.ended]
  cases x.complete <;> cases x.differed <;> simp

end Sys2Proof.Machine
end

section
/-! The seating timers (R138, R139, R143 to R145), and an own frame on the pair when the gone timer expires (log 41). -/

namespace Sys2Proof.Machine

open Sys2Proof

variable {s t : State} {new : Seating} {x : Transmission} {k : InternalKind} {j : CounterId}

/-! ### Own frames that end (R9 to R11) -/

/-- The bus access unit once a frame has reached its end marker (R1, R6, R11). -/
def State.sentBus (s : State) (x : Transmission) : Bau := { s.bau with
  view := .window, pointer := s.pointerAfter x.slot, collisions := 0, rx := none
  tx := if x.awaitsReply then some { x with complete := true } else none }

theorem endSent_of_internal (hx : x.source = .internal k) (s : State) :
    endSent x s = clearKey keyX1 (bump .framesSent { s with bau := s.sentBus x }) := by
  unfold endSent
  dsimp only
  split
  next c hc => exact absurd (hc.symm.trans hx) nofun
  next => rfl

theorem exec_ownFrameComplete (hview : s.bau.view = .frame) (hx : s.bau.tx = some x) (hended : x.ended = true) :
    exec .ownFrameComplete s = .next (reportDrained (completeFrame x s)) := by
  simp [exec, execOwnFrameComplete, hview, hx, hended]

theorem exec_ownFrameComplete_of_not_ended (hx : s.bau.tx = some x) (hended : x.ended = false) :
    exec .ownFrameComplete s = .next s := by
  refine congrArg Host.Outcome.next ?_
  rw [hx]
  cases s.bau.view <;> simp [hended]

/-- A frame whose slot was emptied meanwhile tells no producer (R26). -/
theorem completeFrame_of_emptied (hx : x.source = .internal k) (h : s.txs.slots.get k = .empty) :
    completeFrame x s = endSent x s := by
  have hslots : (endSent x s).txs.slots = s.txs.slots := by simp [endSent_of_internal hx]
  simp [completeFrame, hx, internalTransmitted, hslots, h, SlotState.flying]

/-! ### What a change of state counts -/

theorem enterState_countersSame_bus (new : Seating) (s : State) :
    CountersSame [.raisesDropped, .evictions] (enterBus new (queuesLeft new s)) (enterState new s) := by
  have hbus : CountersSame [.raisesDropped, .evictions] (enterBus new (queuesLeft new s))
      (enterPeers new (enterPool new (enterBus new (queuesLeft new s)))) := countersSame_of_eq (by simp)
  have hsources := enterSources_countersSame s.sec.state new (enterPeers new (enterPool new (enterBus new (queuesLeft new s))))
  exact (hbus.trans hsources).trans (countersSame_of_eq (by simp [enterState_eq]))

/-- A frame cut by a change to a state in which the station is not seated or not on the bus (R9). -/
theorem enterState_cut (hnew : new = .isolated ∨ new = .conflict) (hx : s.bau.tx = some x) (hsending : x.sending = true) :
    (enterState new s).bau = { s.bau with tx := none, rx := some .ownCut, reply := none }
      ∧ Counted .framesCut s (enterState new s) := by
  obtain ⟨hbau, -⟩ := queuesLeft_frame new s
  have hcut : enterCut new (queuesLeft new s) = cutFrame x (queuesLeft new s) :=
    enterCut_of_cut (by rw [hbau, hx]) (by rcases hnew with rfl | rfl <;> simp [cutBy, hsending, drvenIn])
  have hbus : enterBus new (queuesLeft new s) = { cutFrame x (queuesLeft new s) with
      bau := { (cutFrame x (queuesLeft new s)).bau with reply := none } } := by
    rcases hnew with rfl | rfl <;> simp [enterBus, hcut, takesPart]
  have hentered := enterState_countersSame_bus new s .framesCut (by decide)
  refine ⟨?_, hentered.trans ?_⟩
  · have henter : (enterState new s).bau = (enterBus new (queuesLeft new s)).bau := by simp [enterState_eq]
    rw [henter, hbus]
    simp [cutFrame_bau, hbau]
  · have hcount := cutFrame_counter (j := .framesCut) (by decide) x (queuesLeft new s)
    have hleft := counter_congr (queuesLeft_counters new s) .framesCut
    rw [if_pos rfl, hleft] at hcount
    exact (counter_congr (by rw [hbus]) .framesCut).trans hcount

/-! ### ISOLATED (R146) -/

theorem enterIsolated_sec (s : State) : (enterIsolated s).sec = { s.sec with
    state := .isolated, drven := false, rmvok := true
    powerGoodTimer := none, listenTimer := none, drainTimer := none, goneTimer := none, noticeTimer := none } := by
  simp [enterIsolated, enterState_sec, drvenIn, rmvokIn]

theorem enterIsolated_alarm (s : State) :
    Raised keyH4 (enterIsolated s) ∧ EventKind.seatingFault ∈ (enterIsolated s).cpt.events :=
  ⟨by simpa [Raised, enterIsolated, raiseInternal] using raised_raiseKey keyH4 (catalogueSeverity keyH4) (enterState .isolated s),
    by simp [enterIsolated]⟩

theorem enterIsolated_counter (hj : j ∉ [CounterId.raisesDropped, .evictions]) (s : State) :
    (enterIsolated s).counter j = (enterState .isolated s).counter j :=
  (counter_congr (by simp [enterIsolated, raiseInternal]) j).trans (raiseKey_countersSame keyH4 (catalogueSeverity keyH4) _ j hj)

theorem enterIsolated_gone (s : State) : (enterIsolated s).txs.slots.gone = .empty := by
  have hslot := enterState_slot_empty (new := .isolated) (k := .gone) (.inl rfl) (by decide) s
  simpa [enterIsolated, Slots.get] using hslot

/-- Gone timer expiry (R144): the station is ISOLATED, and a frame that is still being sent is cut. -/
theorem enterIsolated_of_sending (hx : s.bau.tx = some x) (hsending : x.sending = true) :
    (enterIsolated s).bau = { s.bau with tx := none, rx := some .ownCut, reply := none }
      ∧ Counted .framesCut s (enterIsolated s) := by
  obtain ⟨hbau, hcount⟩ := enterState_cut (new := .isolated) (.inl rfl) hx hsending
  exact ⟨by simpa [enterIsolated] using hbau, (enterIsolated_counter (by decide) s).trans hcount⟩

theorem enterIsolated_of_not_sending (hx : s.bau.tx = some x) (hsending : x.sending = false) :
    (enterIsolated s).bau = { s.bau with reply := none }
      ∧ (enterIsolated s).counter .framesCut = s.counter .framesCut := by
  have huncut : Uncut .isolated s := .inr ⟨nofun, .inr fun y hy => by rwa [Option.some.inj (hy.symm.trans hx)]⟩
  have hbau := enterState_bau huncut
  have hcount := enterState_countersSame huncut .framesCut (by decide)
  exact ⟨by simpa [enterIsolated, Bau.entered, takesPart] using hbau, (enterIsolated_counter (by decide) s).trans hcount⟩

/-- A GONE that reached its end marker before the gone timer expired completes in ISOLATED: it is counted, and its slot,
emptied meanwhile, stays empty (R26, R144; log 41). -/
theorem goneCompletes (hx : t.bau.tx = some x) (hsource : x.source = .internal .gone) (hended : x.ended = true)
    (hview : t.bau.view = .frame) (hslot : t.txs.slots.gone = .empty) (hstate : t.sec.state = .isolated) :
    ∃ u, exec .ownFrameComplete t = .next u ∧ u.sec = t.sec ∧ u.bau.view = .window ∧ u.bau.tx = none
      ∧ u.txs.slots.gone = .empty ∧ u.bau.pointer = Fin.ofNat 16 ((x.slot.val + 1) % t.cabinet) ∧ u.bau.collisions = 0
      ∧ Counted .framesSent t u ∧ CountersSame [.framesSent] t u := by
  have hexec := exec_ownFrameComplete hview hx hended
  rw [completeFrame_of_emptied hsource hslot, endSent_of_internal hsource, reportDrained_of_ne (by simp [hstate])] at hexec
  have hcounter : ∀ j, (clearKey keyX1 (bump .framesSent { t with bau := t.sentBus x })).counter j
      = if j = .framesSent then satAdd (t.counter .framesSent) 1 else t.counter j := fun j =>
    (counter_congr (s := bump .framesSent { t with bau := t.sentBus x }) (by simp) j).trans (counter_bump .framesSent j _)
  refine ⟨_, hexec, by simp, by simp [State.sentBus], ?_, by simpa using hslot, ?_, by simp [State.sentBus], ?_, fun j hj => ?_⟩
  · simp [State.sentBus, Transmission.awaitsReply, hsource]
  · simp [State.sentBus, State.pointerAfter]
  · exact (hcounter _).trans (if_pos rfl)
  · exact (hcounter j).trans (if_neg (by simpa using hj))

/-! ### JOINING and FORCED (R138, R139, R143) -/

theorem uncut_joining (s : State) : Uncut .joining s := .inr ⟨nofun, .inl rfl⟩

/-- LISTENING left for JOINING with JOIN requested (R139, R167). -/
theorem enterJoining_of_listening (hstate : s.sec.state = .listening) :
    (enterJoining s).txs.slots.join = s.txs.slots.join.requested ∧ (enterJoining s).alu.intervalTimer = some 12500000
      ∧ (enterJoining s).alu.table = s.alu.table ∧ (enterJoining s).txs.queues = s.txs.queues
      ∧ EventKind.seatingStateChange ∈ (enterJoining s).cpt.events ∧ (enterJoining s).tmu = s.tmu
      ∧ (enterJoining s).ptb = s.ptb := by
  have hslots := enterState_slots_of_kept (uncut_joining s) (by simp)
  obtain ⟨-, htmu⟩ := enterState_sources_of_idle (new := .joining) (by rw [hstate]; nofun) (by simp)
  have hptb := enterState_ptb (uncut_joining s) (by simp)
  have hsignal := enterState_signalled .joining s
  obtain ⟨-, -, -, -, -, halu⟩ := queuesLeft_frame .joining s
  have hsources : ∀ u, enterSources .listening .joining u = u := enterSources_of_idle nofun (by simp)
  have hstate' : enterState .joining s = enterSummaries .joining (enterBus .joining (queuesLeft .joining s)) := by
    rw [enterState_eq, hstate, hsources]
    rfl
  have hbus := enterBus_of_uncut (queuesLeft_uncut (uncut_joining s))
  have hqueues : (queuesLeft .joining s).txs.queues = s.txs.queues := by simp [queuesLeft, enterQueues, purgesOn, enterBase]
  refine ⟨?_, ?_, ?_, ?_, ?_, by simpa [enterJoining] using htmu, by simpa [enterJoining] using hptb⟩
  · rw [← hslots]
    rfl
  · simp [enterJoining, hstate', enterSummaries, Config.ms, Config.ticksPerMs]
  · simp [enterJoining, hstate', hbus, halu]
  · simp [enterJoining, hstate', hbus, hqueues]
  · simpa [enterJoining] using hsignal

theorem enterJoining_sec (s : State) : (enterJoining s).sec = { s.sec with
    state := .joining, drven := true, rmvok := false
    powerGoodTimer := none, listenTimer := none, drainTimer := none, goneTimer := none, noticeTimer := none } := by
  simp [enterJoining, enterState_sec, drvenIn, rmvokIn]

theorem enterForced_sec (cause : ForceCause) (s : State) : (enterForced cause s).sec = { s.sec with
    state := .forced, drven := true, rmvok := false, forceCause := some cause
    powerGoodTimer := none, listenTimer := none, drainTimer := none, goneTimer := some 2500000, noticeTimer := none } := by
  simp [enterForced, State.setSec, enterState_sec, drvenIn, rmvokIn, Config.ms, Config.ticksPerMs]

/-- Settles O50. -/
theorem seatingTimers : Obligations.SeatingTimers := by
  unfold Obligations.SeatingTimers
  refine ⟨fun s hstate htimer => ⟨fun hheard => ?_, fun hheard => ?_⟩, fun s hstate htimer hsilent => ?_,
    fun s hstate htimer => ?_, fun s hstate htimer => ?_⟩
  · have hexec : exec .listenTimerExpiry s = .next (enterJoining s) := by
      simp [exec, execListenTimerExpiry, hstate, htimer, hheard]
    refine ⟨_, hexec, ?_, ?_, ?_, ?_, enterJoining_of_listening hstate⟩
    iterate 4 rw [enterJoining_sec]
  · have hexec : exec .listenTimerExpiry s = .next (enterConflict .slotHeardWhileListening s) := by
      simp [exec, execListenTimerExpiry, hstate, htimer, hheard]
    refine ⟨_, hexec, ?_, ?_, ?_, ?_, enterConflict_alarm _ s⟩
    iterate 4 rw [enterConflict_sec]
  · have hexec : exec .drainTimerExpiry s = .next (raiseInternal keyH3 (enterForced .drain s)) := by
      simp [exec, execDrainTimerExpiry, hstate, htimer]
    have hforced := enterState_goneForced (.inl hsilent : Uncut .forced s)
    refine ⟨_, hexec, ?_, ?_, ?_, ?_, ?_, ?_, ?_, by simpa [enterForced, State.setSec] using hforced,
      raised_raiseKey keyH3 (catalogueSeverity keyH3) _, fun c e he => ?_, by simp⟩
    iterate 7 simp [enterForced_sec]
    · refine enterState_flying (c := c) (.inl hsilent : Uncut .forced s) rfl ?_
      rwa [queue_congr (s := enterState .forced s) (by simp [enterForced, State.setSec]) c] at he
  · have hexec : exec .goneTimerExpiry s = .next (enterIsolated s) := by
      simp [exec, execGoneTimerExpiry, hstate, htimer]
    obtain ⟨hraised, hfault⟩ := enterIsolated_alarm s
    refine ⟨_, hexec, ?_, ?_, ?_, ?_, ?_, enterIsolated_gone s, hraised, hfault, by simp, fun x hx hc hd hlen => ?_,
      fun x hx hstopped => ?_, fun x hx hsource hc hd hlen hview => ?_⟩
    iterate 5 rw [enterIsolated_sec]
    · obtain ⟨hbau, hcut⟩ := enterIsolated_of_sending hx ((sending_iff x).mpr ⟨hc, hd, hlen⟩)
      simp [hbau, hcut]
    · have hsending : x.sending = false := by
        rw [Bool.eq_false_iff, ne_eq, sending_iff]
        rintro ⟨hc, hd, hlen⟩
        simp [hc, hd] at hstopped
        omega
      exact enterIsolated_of_not_sending hx hsending
    · have hsending : x.sending = false := by
        rw [Bool.eq_false_iff, ne_eq, sending_iff]
        rintro ⟨-, -, hlt⟩
        omega
      obtain ⟨hbau, -⟩ := enterIsolated_of_not_sending hx hsending
      have hcabinet : (enterIsolated s).cabinet = s.cabinet := by
        simp [State.cabinet, enterIsolated, enterState_stl]
      have hcompleted := goneCompletes (t := enterIsolated s) (by simp [hbau, hx]) hsource ((ended_iff x).mpr ⟨hc, hd, hlen⟩)
        (by simp [hbau, hview]) (enterIsolated_gone s) (by rw [enterIsolated_sec])
      rwa [hcabinet] at hcompleted
  · exact congrArg Host.Outcome.next (if_pos ⟨hstate, htimer⟩)

end Sys2Proof.Machine
end

section
/-! SEATED, POWERING and CONFIG entered (R133 to R136, R190, R191). -/

namespace Sys2Proof.Machine

open Sys2Proof

variable {s t : State} {new : Seating} {straps : Straps}

/-! ### A change of state that only the controller, the bus view and the summary timers take part in -/

theorem enterState_quiet (h : Uncut new s)
    (hold : s.sec.state ≠ .joined ∧ s.sec.state ≠ .conflict ∧ s.sec.state ≠ .isolated)
    (hnew : new = .seated ∨ new = .powering ∨ new = .config ∨ new = .withdrawn ∨ new = .powerFault) :
    enterState new s = enterSummaries new { enterBase new s with bau := s.bau.entered new } := by
  have hleft : queuesLeft new s = enterBase new s := by
    rcases hnew with rfl | rfl | rfl | rfl | rfl <;> rfl
  have hbus : enterBus new (queuesLeft new s) = { enterBase new s with bau := s.bau.entered new } := by
    rw [hleft, enterBus_of_uncut (hleft ▸ queuesLeft_uncut h)]
    simp
  obtain ⟨hjoined, hconflict, hisolated⟩ := hold
  have hsources : ∀ u, enterSources s.sec.state new u = u :=
    enterSources_of_idle hjoined (by rcases hnew with rfl | rfl | rfl | rfl | rfl <;> simp)
  have hleave : ∀ u, leaveAlarms s.sec.state u = u := by
    intro u
    unfold leaveAlarms
    split <;> simp_all
  rw [enterState_eq, hbus, hsources, hleave]
  rcases hnew with rfl | rfl | rfl | rfl | rfl <;> rfl

/-! ### CONFIG (R136) -/

theorem enterConfig_sec (s : State) : (enterConfig s).sec = { s.sec with
    state := .config, drven := false, rmvok := false
    powerGoodTimer := none, listenTimer := none, drainTimer := none, goneTimer := none, noticeTimer := none } := by
  simp [enterConfig, enterState_sec, drvenIn, rmvokIn]

/-! ### POWERING (R135) -/

/-- POWERING as it is entered, before PGOOD is judged. -/
def poweringBegun (s : State) : State :=
  (clearKey keyH3 (clearCauses (setPower true (enterState .powering s)))).setSec
    (fun c => { c with powerGoodTimer := some (Config.ms 100) })

theorem poweringBegun_sec (s : State) : (poweringBegun s).sec = { s.sec with
    state := .powering, drven := false, rmvok := false, pwren := true
    withdrawCause := none, forceCause := none, conflictCause := none
    powerGoodTimer := some 12500000, listenTimer := none, drainTimer := none, goneTimer := none, noticeTimer := none } := by
  simp [poweringBegun, State.setSec, clearCauses, setPower, enterState_sec, drvenIn, rmvokIn, Config.ms, Config.ticksPerMs]

theorem enterPowering_of_power_bad (h : s.sec.pgood.level = false) : enterPowering s = poweringBegun s := by
  have hpgood : (poweringBegun s).sec.pgood.level = false := by rw [poweringBegun_sec]; exact h
  exact if_neg (Bool.eq_false_iff.mp hpgood)

theorem enterPowering_of_power_good (h : s.sec.pgood.level = true) : enterPowering s = powerUp (poweringBegun s) := by
  have hpgood : (poweringBegun s).sec.pgood.level = true := by rw [poweringBegun_sec]; exact h
  exact if_pos hpgood

/-- CONFIG, or LISTENING where the record is loaded (R135, R136). -/
theorem powerUp_sec (s : State) : (powerUp s).sec.state = (if s.sec.recordLoaded then .listening else .config)
    ∧ (powerUp s).sec.eject = s.sec.eject ∧ (powerUp s).sec.seat = s.sec.seat ∧ (powerUp s).sec.pwren = s.sec.pwren
    ∧ (s.sec.withdrawCause = none → (powerUp s).sec.withdrawCause = none)
    ∧ (s.sec.forceCause = none → (powerUp s).sec.forceCause = none) := by
  have hloaded : (clearKey keyH1 s).sec.recordLoaded = s.sec.recordLoaded := by simp
  unfold powerUp
  dsimp only
  cases hrecord : s.sec.recordLoaded with
  | true =>
    rw [hloaded, hrecord, if_pos rfl, if_pos rfl, enterListening_sec]
    simp
  | false =>
    rw [hloaded, hrecord, if_neg Bool.false_ne_true, if_neg Bool.false_ne_true, enterConfig_sec]
    simp

/-- POWERING entered (R135). -/
theorem enterPowering_sec (s : State) : (enterPowering s).sec.pwren = true ∧ (enterPowering s).sec.eject = s.sec.eject
    ∧ (enterPowering s).sec.seat = s.sec.seat
    ∧ (enterPowering s).sec.withdrawCause = none ∧ (enterPowering s).sec.forceCause = none
    ∧ (s.sec.pgood.level = false →
        (enterPowering s).sec.state = .powering ∧ (enterPowering s).sec.powerGoodTimer = some 12500000)
    ∧ (s.sec.pgood.level = true →
        (enterPowering s).sec.state = if s.sec.recordLoaded then .listening else .config) := by
  have hbegun := poweringBegun_sec s
  cases hpgood : s.sec.pgood.level with
  | false =>
    rw [enterPowering_of_power_bad hpgood, hbegun]
    simp
  | true =>
    obtain ⟨hstate, heject, hseat, hpwren, hwithdraw, hforce⟩ := powerUp_sec (poweringBegun s)
    rw [enterPowering_of_power_good hpgood, hstate, heject, hseat, hpwren, hwithdraw (by rw [hbegun]), hforce (by rw [hbegun]), hbegun]
    simp

/-- A station of SEATED with no power good: POWERING leaves all but the controller, the view, the alarms, the port and the
load (R135). -/
theorem poweringBegun_of_seated (hstate : s.sec.state = .seated) (hsilent : s.bau.tx = none) :
    EventKind.seatingStateChange ∈ (poweringBegun s).cpt.events ∧ SameOutside [.bau, .sec, .alu, .cpt, .stl] s (poweringBegun s) := by
  have hentered := enterState_quiet (new := .powering) (.inl hsilent) (by simp [hstate]) (by simp)
  refine ⟨?_, ?_⟩
  · exact clearKey_events _ keyH3 (enterState_signalled .powering s)
  · simp [sameOutside_iff, poweringBegun, State.setSec, clearCauses, setPower, hentered, enterSummaries, enterBase]

/-! ### What stays over POWERING, CONFIG and LISTENING -/

theorem powerUp_straps (s : State) : (powerUp s).stl.straps = s.stl.straps ∧ (powerUp s).bau.view = s.bau.view := by
  have hcleared : (clearKey keyH1 s).stl = s.stl ∧ (clearKey keyH1 s).bau = s.bau := by simp
  unfold powerUp
  dsimp only
  split
  · simp [enterListening, State.setSec, clearCauses, enterState_stl, enterState_view]
  · simp [enterConfig, enterState_stl, enterState_view]

theorem enterPowering_straps (s : State) :
    (enterPowering s).stl.straps = s.stl.straps ∧ (enterPowering s).bau.view = s.bau.view := by
  have hbegun : (poweringBegun s).stl.straps = s.stl.straps ∧ (poweringBegun s).bau.view = s.bau.view := by
    simp [poweringBegun, State.setSec, clearCauses, setPower, enterState_stl, enterState_view]
  cases hpgood : s.sec.pgood.level with
  | false => rwa [enterPowering_of_power_bad hpgood]
  | true =>
    obtain ⟨hstraps, hview⟩ := powerUp_straps (poweringBegun s)
    rw [enterPowering_of_power_good hpgood]
    exact ⟨hstraps.trans hbegun.1, hview.trans hbegun.2⟩

/-! ### SEATED (R133, R190, R191) -/

/-- SEATED as it is entered, with the straps sampled. -/
def seatedBegun (s : State) : State := refreshRelays (enterState .seated (sampleStraps s))

theorem seatedBegun_sec (s : State) : (seatedBegun s).sec = { s.sec with
    state := .seated, drven := false, rmvok := true
    powerGoodTimer := none, listenTimer := none, drainTimer := none, goneTimer := none, noticeTimer := none } := by
  simp [seatedBegun, sampleStraps, enterState_sec, drvenIn, rmvokIn]

/-- The straps as their synchroniser shows them, held and handed on (R190). -/
theorem seatedBegun_straps (s : State) :
    (seatedBegun s).stl = { s.stl with straps := some s.stl.synchronised, load := none }
      ∧ (seatedBegun s).alu.collector = s.stl.synchronised.collector
      ∧ (seatedBegun s).src.capable = effectiveCapable (some s.stl.synchronised) s.stl.image
      ∧ (seatedBegun s).bau.view = (if s.bau.view = .inactive then .settle else s.bau.view)
      ∧ LawRelays (seatedBegun s) := by
  refine ⟨?_, by simp [seatedBegun, sampleStraps], by simp [seatedBegun, sampleStraps], ?_, rfl, rfl⟩
  · simp [seatedBegun, sampleStraps, enterState_stl]
  · simp [seatedBegun, sampleStraps, enterState_view]

theorem enterSeated_of_valid (h : strapsValid s.stl.synchronised = true) :
    enterSeated s = if s.sec.eject.level then enterPowering (seatedBegun s) else seatedBegun s := by
  have heject : (seatedBegun s).sec.eject = s.sec.eject := by rw [seatedBegun_sec]
  rw [← heject]
  exact if_pos h

theorem enterSeated_of_invalid (h : strapsValid s.stl.synchronised = false) :
    enterSeated s = raiseInternal keyH5 (seatedBegun s) := if_neg (by simpa using h)

theorem ownSlot_of_straps (h : s.stl.straps = some straps) :
    s.ownSlot = if strapsValid straps then some (Fin.ofNat 16 straps.slot.toNat) else none := by rw [State.ownSlot, h]

theorem cabinet_of_straps (h : s.stl.straps = some straps) :
    s.cabinet = (match straps.size with | .eight => 8 | .sixteen => 16) := by
  rw [State.cabinet, h]
  change straps.size.slots = _
  cases straps.size <;> rfl

theorem effectiveCapable_some (straps : Straps) (image : Option RecordImage) : effectiveCapable (some straps) image
    = (match image.bind RecordImage.override with | some b => b | none => straps.sourceCapable) := rfl

theorem strapsValid_iff (straps : Straps) : strapsValid straps = true ↔
    (((straps.slot.getLsbD 0).toNat + (straps.slot.getLsbD 1).toNat + (straps.slot.getLsbD 2).toNat
        + (straps.slot.getLsbD 3).toNat + straps.parity.toNat) % 2 = 1
      ∧ straps.slot.toNat < (match straps.size with | .eight => 8 | .sixteen => 16)) := by
  have hsize : straps.size.slots = (match straps.size with | .eight => 8 | .sixteen => 16) := by cases straps.size <;> rfl
  have hones : ([0, 1, 2, 3].filter (fun i => straps.slot.getLsbD i)).length + (if straps.parity then 1 else 0)
      = (straps.slot.getLsbD 0).toNat + (straps.slot.getLsbD 1).toNat + (straps.slot.getLsbD 2).toNat
        + (straps.slot.getLsbD 3).toNat + straps.parity.toNat := by
    simp only [List.filter_cons, List.filter_nil]
    cases straps.slot.getLsbD 0 <;> cases straps.slot.getLsbD 1 <;> cases straps.slot.getLsbD 2
      <;> cases straps.slot.getLsbD 3 <;> cases straps.parity <;> rfl
  simp only [strapsValid, hones, hsize, Bool.and_eq_true, beq_iff_eq, decide_eq_true_eq]

/-- Every entry into SEATED: the straps held and handed on, and H5 for an invalid slot code (R190, R191). -/
theorem enterSeated_straps (s : State) : (enterSeated s).stl.straps = some s.stl.synchronised
    ∧ (enterSeated s).alu.collector = s.stl.synchronised.collector
    ∧ (enterSeated s).src.capable = effectiveCapable (some s.stl.synchronised) s.stl.image
    ∧ (enterSeated s).sec.seat = s.sec.seat
    ∧ (s.bau.view = .inactive → (enterSeated s).bau.view = .settle) := by
  obtain ⟨hstl, hcollector, hcapable, hview, -⟩ := seatedBegun_straps s
  have hsec := seatedBegun_sec s
  cases hvalid : strapsValid s.stl.synchronised with
  | true =>
    rw [enterSeated_of_valid hvalid]
    split
    · obtain ⟨hstraps, hkept⟩ := enterPowering_straps (seatedBegun s)
      obtain ⟨-, -, hseat, -⟩ := enterPowering_sec (seatedBegun s)
      refine ⟨hstraps.trans (by rw [hstl]), by simpa using hcollector, by simpa using hcapable, hseat.trans (by rw [hsec]),
        fun h => hkept.trans (hview.trans (if_pos h))⟩
    · exact ⟨by rw [hstl], hcollector, hcapable, by rw [hsec], fun h => hview.trans (if_pos h)⟩
  | false =>
    rw [enterSeated_of_invalid hvalid]
    refine ⟨by simp [hstl], by simpa using hcollector, by simpa using hcapable, by simp [hsec], fun h => ?_⟩
    simpa [h] using hview

/-- An invalid slot code (R191). -/
theorem enterSeated_invalid (hvalid : strapsValid s.stl.synchronised = false) :
    (enterSeated s).sec.state = .seated ∧ (enterSeated s).sec.rmvok = true ∧ (enterSeated s).sec.drven = false
      ∧ (enterSeated s).sec.pwren = s.sec.pwren ∧ Raised keyH5 (enterSeated s) := by
  have hsec := seatedBegun_sec s
  rw [enterSeated_of_invalid hvalid]
  refine ⟨by simp [hsec], by simp [hsec], by simp [hsec], by simp [hsec], raised_raiseKey keyH5 (catalogueSeverity keyH5) _⟩

/-- The entry into SEATED with the ejector open: the station waits there (R134). -/
theorem enterSeated_of_open (heject : s.sec.eject.level = false) :
    (enterSeated s).sec = (seatedBegun s).sec ∧ (enterSeated s).stl = (seatedBegun s).stl ∧ LawRelays (enterSeated s) := by
  obtain ⟨-, -, -, -, hrelays⟩ := seatedBegun_straps s
  cases hvalid : strapsValid s.stl.synchronised with
  | true =>
    rw [enterSeated_of_valid hvalid, heject]
    exact ⟨rfl, rfl, hrelays⟩
  | false =>
    rw [enterSeated_of_invalid hvalid]
    exact ⟨by simp, by simp, raiseInternal_keeps (l := .relays) keyH5 hrelays⟩

/-! ### The events of SEAT and EJECT -/

theorem exec_seatSeated (hstate : s.sec.state = .unseated) (hheld : Held s.sec.seat true) (hstraps : s.stl.synchronised = straps) :
    exec (.seatSeated straps) s = .next (enterSeated (s.setSec (fun c => { c with seat := .taken true }))) :=
  congrArg Host.Outcome.next (if_pos ⟨hstate, (Conditioner.due_iff _ _).mpr hheld, hstraps⟩)

theorem exec_ejectLatched_of_held (h : Held s.sec.eject true) : exec .ejectLatched s
    = .next (ejectorLatches (s.setSec (fun c => { c with eject := .taken true }))) :=
  congrArg Host.Outcome.next (if_pos ((Conditioner.due_iff _ _).mpr h))

theorem exec_eject_of_not_held (s : State) : (¬ Held s.sec.eject true → exec .ejectLatched s = .next s)
    ∧ (¬ Held s.sec.eject false → exec .ejectOpened s = .next s) :=
  ⟨fun h => by simp [exec, execEjectLatched, not_due_of_not_held h], fun h => by simp [exec, execEjectOpened, not_due_of_not_held h]⟩

/-- Settles O46. -/
theorem ejectLatchedPowersSeated : Obligations.EjectLatchedPowersSeated := by
  unfold Obligations.EjectLatchedPowersSeated
  refine ⟨fun own s hstate hown hheld hsilent => ?_, fun straps s hstate hheld hstraps hvalid => ?_, fun s hstate hheld => ?_,
    exec_eject_of_not_held⟩
  · have hlatches : ejectorLatches (s.setSec (fun c => { c with eject := .taken true }))
        = enterPowering (s.setSec (fun c => { c with eject := .taken true })) := by
      have hslot : (s.setSec (fun c => { c with eject := .taken true })).ownSlot = some own := hown
      simp [ejectorLatches, State.setSec, hstate] at hslot ⊢
      simp [hslot]
    obtain ⟨hpwren, heject, -, hwithdraw, hforce, hbad, hgood⟩ := enterPowering_sec (s.setSec (fun c => { c with eject := .taken true }))
    refine ⟨_, (exec_ejectLatched_of_held hheld).trans (congrArg _ hlatches), hpwren, heject, hwithdraw, hforce, fun hpgood => ?_, hgood⟩
    obtain ⟨hstate', htimer⟩ := hbad hpgood
    have hbegun : enterPowering (s.setSec (fun c => { c with eject := .taken true }))
        = poweringBegun (s.setSec (fun c => { c with eject := .taken true })) := enterPowering_of_power_bad hpgood
    obtain ⟨hsignal, hsame⟩ := poweringBegun_of_seated (s := s.setSec (fun c => { c with eject := .taken true })) hstate hsilent
    rw [← hbegun] at hsignal hsame
    refine ⟨hstate', htimer, ?_, ?_, hsignal, sameOutside_trans ?_ hsame⟩
    · rw [hbegun, poweringBegun_sec]
    · rw [hbegun, poweringBegun_sec]
    · simp [sameOutside_iff, State.setSec]
  · have hvalid' : strapsValid (s.setSec (fun c => { c with seat := .taken true })).stl.synchronised = true := by
      rw [← hstraps] at hvalid
      exact hvalid
    have hexec := exec_seatSeated hstate hheld hstraps
    rw [enterSeated_of_valid hvalid'] at hexec
    have hsec := seatedBegun_sec (s.setSec (fun c => { c with seat := .taken true }))
    obtain ⟨hpwren, -, -, -, -, hbad, hgood⟩ := enterPowering_sec (seatedBegun (s.setSec (fun c => { c with seat := .taken true })))
    rw [hsec] at hbad hgood
    refine ⟨_, hexec, fun heject => ?_, fun heject => ?_⟩
    · have hlatched : (s.setSec (fun c => { c with seat := .taken true })).sec.eject.level = true := heject
      rw [if_pos hlatched]
      exact ⟨hpwren, hbad, hgood⟩
    · have hopen : (s.setSec (fun c => { c with seat := .taken true })).sec.eject.level = false := heject
      rw [hopen, if_neg Bool.false_ne_true, hsec]
      exact ⟨rfl, rfl⟩
  · refine (exec_ejectOpened_of_held hheld).trans (congrArg _ ?_)
    simp [ejectorOpens, State.setSec, hstate, Conditioner.taken]

/-- Settles O47. -/
theorem seatSeated : Obligations.SeatSeated := by
  unfold Obligations.SeatSeated
  refine ⟨strapsValid_iff, fun straps s hno => ?_, fun straps s hstate hheld hstraps => ?_, fun straps s hstate hheld hstraps => ?_⟩
  · refine congrArg Host.Outcome.next (if_neg fun ⟨hstate, hdue, hstraps⟩ => hno ⟨hstate, ?_, hstraps⟩)
    exact (Conditioner.due_iff _ _).mp hdue
  · subst hstraps
    let u := setPower false (s.setSec (fun c => { c with eject := .taken false }))
    have hopens : ejectorOpens (s.setSec (fun c => { c with eject := .taken false })) = enterSeated u := by
      simp [ejectorOpens, State.setSec, hstate, u]
    obtain ⟨hheldStraps, hcollector, hcapable, -, -⟩ := enterSeated_straps u
    obtain ⟨hsec, hstl, hrelays⟩ := enterSeated_of_open (s := u) rfl
    have hbegun := hsec.trans (seatedBegun_sec u)
    refine ⟨_, (exec_ejectOpened_of_held hheld).trans (congrArg _ hopens), ?_, ?_, ?_, ?_, ?_, ?_, hcollector, hrelays,
      cabinet_of_straps hheldStraps, ?_, fun hvalid => ?_, fun hvalid => ⟨?_, ?_⟩⟩
    · rw [hbegun]
    · rw [hbegun]
      rfl
    · rw [hbegun]
    · rw [hbegun]
    · rw [hbegun]
    · exact hstl.trans (seatedBegun_straps u).1
    · rw [hcapable, effectiveCapable_some]
      rfl
    · exact (ownSlot_of_straps hheldStraps).trans (if_pos hvalid)
    · exact (ownSlot_of_straps hheldStraps).trans (if_neg (Bool.eq_false_iff.mp hvalid))
    · obtain ⟨-, -, -, -, hraised⟩ := enterSeated_invalid (s := u) hvalid
      exact hraised
  · subst hstraps
    let u := s.setSec (fun c => { c with seat := .taken true })
    obtain ⟨hheldStraps, hcollector, hcapable, hseat, hview⟩ := enterSeated_straps u
    refine ⟨_, exec_seatSeated hstate hheld rfl, hheldStraps, hcollector, ?_, cabinet_of_straps hheldStraps, ?_, hview,
      enterSeated_keeps (l := .timeIs s.tmu.time) (s := u) rfl, fun hvalid => ?_, fun hvalid => ⟨?_, enterSeated_invalid (s := u) hvalid⟩⟩
    · rw [hseat]
      rfl
    · rw [hcapable, effectiveCapable_some]
      rfl
    · exact (ownSlot_of_straps hheldStraps).trans (if_pos hvalid)
    · exact (ownSlot_of_straps hheldStraps).trans (if_neg (Bool.eq_false_iff.mp hvalid))

end Sys2Proof.Machine
end

section
/-! Seat loss: what it empties, and how it ends an own frame (R9 to R11, R40, R46, R64, R149; log 15, log 41). -/

namespace Sys2Proof.Machine

open Sys2Proof

variable {s t : State} {x : Transmission} {k : AlarmKey} {j : CounterId} {n : Fin 5}

/-! ### The controller (R149) -/

/-- UNSEATED as it is entered, before the seating alarms are cleared. -/
def unseatedBegun (s : State) : State := (clearCauses (setPower false (enterState .unseated s))).setSec
  (fun c => { c with slotHeard := false, ejectorOpened := false })

theorem unseatedBegun_blocks (s : State) : (unseatedBegun s).bau = (enterState .unseated s).bau
    ∧ (unseatedBegun s).txs = (enterState .unseated s).txs ∧ (unseatedBegun s).rxp = (enterState .unseated s).rxp
    ∧ (unseatedBegun s).ptb = (enterState .unseated s).ptb ∧ (unseatedBegun s).tmu = (enterState .unseated s).tmu
    ∧ (unseatedBegun s).src = (enterState .unseated s).src ∧ (unseatedBegun s).alu = (enterState .unseated s).alu
    ∧ (unseatedBegun s).cpt = (enterState .unseated s).cpt ∧ (unseatedBegun s).stl = (enterState .unseated s).stl
    ∧ (unseatedBegun s).counters = (enterState .unseated s).counters := by
  simp [unseatedBegun, State.setSec]

theorem unseatedBegun_sec (s : State) : (unseatedBegun s).sec = { s.sec with
    state := .unseated, drven := false, rmvok := false, pwren := false
    withdrawCause := none, forceCause := none, conflictCause := none, slotHeard := false, ejectorOpened := false
    powerGoodTimer := none, listenTimer := none, drainTimer := none, goneTimer := none, noticeTimer := none } := by
  simp [unseatedBegun, State.setSec, clearCauses, setPower, enterState_sec, drvenIn, rmvokIn]

/-- The five seating alarms cleared. -/
def clearSeatingAlarms (s : State) : State :=
  clearKey keyH5 (clearKey keyH4 (clearKey keyH3 (clearKey keyH2 (clearKey keyH1 s))))

theorem enterUnseated_eq (s : State) : enterUnseated s = refreshRelays { clearSeatingAlarms (unseatedBegun s) with
    alu := { (clearSeatingAlarms (unseatedBegun s)).alu with collector := false } } := by
  simp only [enterUnseated, clearSeatingAlarms, unseatedBegun]

theorem clearSeatingAlarms_isCleared (hlaw : LawTable s) (n : Fin 5) : IsCleared (.seating n) (clearSeatingAlarms s) := by
  have h1 : LawTable (clearKey keyH1 s) := clearKey_keeps (l := .table) keyH1 hlaw
  have h2 : LawTable (clearKey keyH2 (clearKey keyH1 s)) := clearKey_keeps (l := .table) keyH2 h1
  have h3 : LawTable (clearKey keyH3 (clearKey keyH2 (clearKey keyH1 s))) := clearKey_keeps (l := .table) keyH3 h2
  have h4 : LawTable (clearKey keyH4 (clearKey keyH3 (clearKey keyH2 (clearKey keyH1 s)))) :=
    clearKey_keeps (l := .table) keyH4 h3
  match n with
  | 0 => exact clearKey_isCleared _ (clearKey_isCleared _ (clearKey_isCleared _ (clearKey_isCleared _ (isCleared_clearKey hlaw))))
  | 1 => exact clearKey_isCleared _ (clearKey_isCleared _ (clearKey_isCleared _ (isCleared_clearKey h1)))
  | 2 => exact clearKey_isCleared _ (clearKey_isCleared _ (isCleared_clearKey h2))
  | 3 => exact clearKey_isCleared _ (isCleared_clearKey h3)
  | 4 => exact isCleared_clearKey h4

theorem clearSeatingAlarms_keeps_isCleared (h : IsCleared k s) : IsCleared k (clearSeatingAlarms s) :=
  clearKey_isCleared _ (clearKey_isCleared _ (clearKey_isCleared _ (clearKey_isCleared _ (clearKey_isCleared _ h))))

/-! ### The own frame on the pair (R9, R40; log 41) -/

theorem dropAwaited_bau (s : State) : (dropAwaited s).bau = { s.bau with tx := none } := by
  unfold dropAwaited
  split
  · simp
  next h => rw [← h]

theorem dropAwaited_countersSame (s : State) : CountersSame outcomeCounters s (dropAwaited s) := by
  unfold dropAwaited
  split
  next x _ =>
    have hdropped : CountersSame outcomeCounters s { s with bau := { s.bau with tx := none } } := countersSame_of_eq rfl
    exact hdropped.trans (lostOutcome_countersSame x .cut _)
  next => exact countersSame_of_eq rfl

/-- The bus access unit's part of seat loss, before the view becomes INACTIVE. -/
def seatLossEnding (s : State) : State :=
  dropAwaited (takeEnding { enterCut .unseated s with bau := { (enterCut .unseated s).bau with reply := none } })

theorem enterBus_unseated (s : State) : enterBus .unseated s = { seatLossEnding s with
    bau := { (seatLossEnding s).bau with view := .inactive, position := 0, positionNew := false, rx := none } } := rfl

theorem seatLossEnding_of_sending (hx : s.bau.tx = some x) (h : x.sending = true) :
    (seatLossEnding s).bau = { s.bau with tx := none, rx := some .ownCut, reply := none }
      ∧ ∀ j, j ∉ outcomeCounters →
          (seatLossEnding s).counter j = if j = .framesCut then satAdd (s.counter .framesCut) 1 else s.counter j := by
  have hcut : enterCut .unseated s = cutFrame x s := enterCut_of_cut hx (by simp [cutBy, h, drvenIn])
  have hbau := cutFrame_bau x s
  have hending : seatLossEnding s = { cutFrame x s with bau := { (cutFrame x s).bau with reply := none } } := by
    rw [seatLossEnding, hcut, dropAwaited_takeEnding_of_silent (by rw [hbau])]
  rw [hending]
  exact ⟨by rw [hbau], fun j hj => cutFrame_counter hj x s⟩

theorem seatLossEnding_of_not_sending (hx : s.bau.tx = some x) (h : x.sending = false) :
    seatLossEnding s = dropAwaited (takeEnding { s with bau := { s.bau with reply := none } }) := by
  rw [seatLossEnding, enterCut_of_not_sending .unseated fun y hy => by rwa [Option.some.inj (hy.symm.trans hx)]]

theorem seatLossEnding_of_collided (hx : s.bau.tx = some x) (h : x.collided = true) :
    (seatLossEnding s).bau = { s.bau with
        tx := none, rx := some .ownCollided, pointer := 0, collisions := min (s.bau.collisions + 1) 8, reply := none }
      ∧ ∀ j, j ∉ outcomeCounters →
          (seatLossEnding s).counter j = if j = .ownCollisions then satAdd (s.counter .ownCollisions) 1 else s.counter j := by
  have hended : x.ended = false := Bool.eq_false_iff.mpr fun hended => by simp [not_collided_of_ended hended] at h
  have hsending : x.sending = false := by simp [Transmission.sending, h]
  have htaken : takeEnding { s with bau := { s.bau with reply := none } }
      = endCollided x { s with bau := { s.bau with reply := none } } := by
    simp [takeEnding, hx, hended, h]
  have hbau := endCollided_bau x { s with bau := { s.bau with reply := none } }
  rw [seatLossEnding_of_not_sending hx hsending, htaken, dropAwaited_of_silent (by rw [hbau])]
  exact ⟨by rw [hbau], fun j hj => endCollided_counter hj x _⟩

theorem seatLossEnding_of_ended (hx : s.bau.tx = some x) (h : x.ended = true) :
    (seatLossEnding s).bau.tx = none ∧ (seatLossEnding s).bau.collisions = 0
      ∧ ∀ j, j ∉ outcomeCounters →
          (seatLossEnding s).counter j = if j = .framesSent then satAdd (s.counter .framesSent) 1 else s.counter j := by
  have hsending : x.sending = false := by simp [Transmission.sending, h]
  have htaken : takeEnding { s with bau := { s.bau with reply := none } }
      = endSent x { s with bau := { s.bau with reply := none } } := by
    simp [takeEnding, hx, h]
  have hbau := endSent_bau x { s with bau := { s.bau with reply := none } }
  rw [seatLossEnding_of_not_sending hx hsending, htaken]
  refine ⟨by rw [dropAwaited_bau], by rw [dropAwaited_bau, hbau], fun j hj => ?_⟩
  exact (dropAwaited_countersSame _ j hj).trans (endSent_counter hj x _)

/-- What seat loss leaves of the bus access unit, and what it counts, whatever is on the pair. -/
theorem enterUnseated_bus (s : State) :
    (enterUnseated s).bau = { (seatLossEnding (queuesLeft .unseated s)).bau with
        view := .inactive, position := 0, positionNew := false, rx := none }
      ∧ ∀ j, j ∉ outcomeCounters → (enterUnseated s).counter j = (seatLossEnding (queuesLeft .unseated s)).counter j := by
  have hbus : (enterUnseated s).bau = (enterBus .unseated (queuesLeft .unseated s)).bau := by
    simp [enterUnseated_eq, clearSeatingAlarms, unseatedBegun_blocks, enterState_eq]
  have hcounters : (enterUnseated s).counters = (enterState .unseated s).counters := by
    simp [enterUnseated_eq, clearSeatingAlarms, unseatedBegun_blocks]
  refine ⟨by rw [hbus, enterBus_unseated], fun j hj => ?_⟩
  have hentered := (enterState_countersSame_bus .unseated s).mono (l' := outcomeCounters) (by decide) j hj
  exact ((counter_congr hcounters j).trans hentered).trans (counter_congr (by rw [enterBus_unseated]) j)

theorem exec_seatLoss (hstate : s.sec.state ≠ .unseated) (hheld : Held s.sec.seat false) :
    exec .seatLoss s = .next (enterUnseated (s.setSec (fun c => { c with seat := .taken false }))) :=
  congrArg Host.Outcome.next (if_pos ⟨hstate, (Conditioner.due_iff _ _).mpr hheld⟩)

theorem exec_seatLoss_of_not (h : ¬ (s.sec.state ≠ .unseated ∧ Held s.sec.seat false)) : exec .seatLoss s = .next s :=
  congrArg Host.Outcome.next (if_neg fun ⟨hstate, hdue⟩ => h ⟨hstate, (Conditioner.due_iff _ _).mp hdue⟩)

theorem enterUnseated_sec (s : State) : (enterUnseated s).sec = (unseatedBegun s).sec := by
  simp [enterUnseated_eq, clearSeatingAlarms]

/-- An own frame at seat loss: cut, collided, or sent (log 41). -/
theorem seatLoss_ownFrame (hx : s.bau.tx = some x) (hc : x.complete = false) :
    (enterUnseated s).bau.tx = none ∧ (enterUnseated s).bau.view = .inactive ∧ (enterUnseated s).sec.state = .unseated
      ∧ (x.differed = true → Counted .ownCollisions s (enterUnseated s)
          ∧ (enterUnseated s).counter .framesCut = s.counter .framesCut
          ∧ (enterUnseated s).counter .framesSent = s.counter .framesSent ∧ (enterUnseated s).bau.pointer = 0
          ∧ (enterUnseated s).bau.collisions = min (s.bau.collisions + 1) 8)
      ∧ (x.differed = false → x.drive.length ≤ x.driven + 1 → Counted .framesSent s (enterUnseated s)
          ∧ (enterUnseated s).counter .framesCut = s.counter .framesCut ∧ (enterUnseated s).bau.collisions = 0)
      ∧ (x.differed = false → x.driven + 1 < x.drive.length → Counted .framesCut s (enterUnseated s)
          ∧ (enterUnseated s).counter .framesSent = s.counter .framesSent ∧ (enterUnseated s).bau.pointer = s.bau.pointer
          ∧ (enterUnseated s).bau.collisions = s.bau.collisions) := by
  obtain ⟨hbau, hcounters⟩ := enterUnseated_bus s
  obtain ⟨hleft, -⟩ := queuesLeft_frame .unseated s
  have hsame : ∀ j, (queuesLeft .unseated s).counter j = s.counter j := counter_congr (queuesLeft_counters _ s)
  have hx' : (queuesLeft .unseated s).bau.tx = some x := by rw [hleft, hx]
  have hstate : (enterUnseated s).sec.state = .unseated := by rw [enterUnseated_sec, unseatedBegun_sec]
  cases hd : x.differed with
  | true =>
    obtain ⟨hend, hcount⟩ := seatLossEnding_of_collided hx' (by simp [Transmission.collided, hd, hc])
    simp only [hsame] at hcount
    rw [hend, hleft] at hbau
    rw [hbau]
    refine ⟨rfl, rfl, hstate, fun _ => ⟨?_, ?_, ?_, rfl, rfl⟩, nofun, nofun⟩
    · exact (hcounters _ (by decide)).trans (hcount _ (by decide))
    · exact (hcounters _ (by decide)).trans (hcount _ (by decide))
    · exact (hcounters _ (by decide)).trans (hcount _ (by decide))
  | false =>
    by_cases hlen : x.drive.length ≤ x.driven + 1
    · obtain ⟨htx, hcollisions, hcount⟩ := seatLossEnding_of_ended hx' ((ended_iff x).mpr ⟨hc, hd, hlen⟩)
      simp only [hsame] at hcount
      rw [hbau]
      refine ⟨htx, rfl, hstate, nofun, fun _ _ => ⟨?_, ?_, hcollisions⟩, fun _ h => absurd hlen (Nat.not_le.mpr h)⟩
      · exact (hcounters _ (by decide)).trans (hcount _ (by decide))
      · exact (hcounters _ (by decide)).trans (hcount _ (by decide))
    · obtain ⟨hend, hcount⟩ := seatLossEnding_of_sending hx' ((sending_iff x).mpr ⟨hc, hd, Nat.not_le.mp hlen⟩)
      simp only [hsame] at hcount
      rw [hend, hleft] at hbau
      rw [hbau]
      refine ⟨rfl, rfl, hstate, nofun, fun _ h => absurd h hlen, fun _ _ => ⟨?_, ?_, rfl, rfl⟩⟩
      · exact (hcounters _ (by decide)).trans (hcount _ (by decide))
      · exact (hcounters _ (by decide)).trans (hcount _ (by decide))

/-! ### Seat loss with nothing on the pair -/

theorem setRole_src (r : Role) (s : State) : (setRole r s).src.role = r := by
  unfold setRole
  split
  next h => exact h
  · cases r <;> simp

/-- A selection that is lost makes the station a FOLLOWER (R106). -/
theorem clearSources_role (h : s.src.selection ≠ none) : (clearSources s).src.role = .follower := by
  have hselect : selectSource { s with src := { s.src with table := [], announceTimer := none } }
      = changeSelection none { s with src := { s.src with table := [], announceTimer := none } } := if_neg fun hsame => h hsame.symm
  have hrole := setRole_src .follower (signal .sourceChange { s with src := { s.src with
    table := [], announceTimer := none, selection := none, syncTimeout := none } })
  rw [clearSources]
  dsimp only
  rw [runSelection, hselect]
  simpa [changeSelection, State.roleFor, State.syncTimeoutFor] using hrole

theorem enterState_unseated_role (hsilent : s.bau.tx = none) (h : s.src.selection ≠ none) :
    (enterState .unseated s).src.role = .follower := by
  obtain ⟨-, -, -, -, hsrc, -⟩ := queuesLeft_frame .unseated s
  have henter : (enterState .unseated s).src
      = (clearSources (enterPeers .unseated (enterPool .unseated (enterBus .unseated (queuesLeft .unseated s))))).src := by
    simp [enterState_eq, enterSources]
  rw [henter]
  refine clearSources_role ?_
  rw [enterBus_of_uncut (queuesLeft_uncut (.inl hsilent))]
  simpa [hsrc] using h

theorem leaveAlarms_isCleared (old : Seating) (h : IsCleared k s) : IsCleared k (leaveAlarms old s) := by
  unfold leaveAlarms
  split
  iterate 2 exact clearKey_isCleared _ h
  all_goals exact h

theorem clearSources_isCleared (hne : k ≠ keyT1 ∧ k ≠ keyT2) (h : IsCleared k s) : IsCleared k (clearSources s) := by
  have hemptied : IsCleared k { s with src := { s.src with table := [], announceTimer := none } } := isCleared_congr rfl h
  exact runSelection_isCleared hne hemptied

/-- X2 ends with the refused set (R46). -/
theorem enterState_unseated_isCleared (hsilent : s.bau.tx = none) (hlaw : LawTable s) :
    IsCleared keyX2 (enterState .unseated s) := by
  obtain ⟨-, -, -, -, -, halu⟩ := queuesLeft_frame .unseated s
  have hbus : LawTable (enterBus .unseated (queuesLeft .unseated s)) := by
    rw [enterBus_of_uncut (queuesLeft_uncut (.inl hsilent))]
    simpa [LawTable, halu] using hlaw
  have hpool : IsCleared keyX2 (enterPool .unseated (enterBus .unseated (queuesLeft .unseated s))) :=
    isCleared_clearKey (s := { enterBus .unseated (queuesLeft .unseated s) with
      rxp := { (enterBus .unseated (queuesLeft .unseated s)).rxp with
        frames := [], free := Config.poolUnits, refused := [], readyOutstanding := false } }) hbus
  have hpeers : IsCleared keyX2 (enterPeers .unseated (enterPool .unseated (enterBus .unseated (queuesLeft .unseated s)))) :=
    isCleared_congr (by simp) hpool
  have hsources := clearSources_isCleared (k := keyX2) ⟨nofun, nofun⟩ hpeers
  have hsummaries : IsCleared keyX2 (enterSummaries .unseated (clearSources (enterPeers .unseated
      (enterPool .unseated (enterBus .unseated (queuesLeft .unseated s)))))) := isCleared_congr (by simp) hsources
  exact leaveAlarms_isCleared s.sec.state hsummaries

theorem enterUnseated_isCleared (h : IsCleared k (clearSeatingAlarms (unseatedBegun s))) : IsCleared k (enterUnseated s) :=
  isCleared_congr (by simp [enterUnseated_eq]) h

/-- Seat loss clears the five seating alarms and X2 (R46, R149). -/
theorem enterUnseated_cleared (hsilent : s.bau.tx = none) (hlaw : LawTable s) :
    (∀ n, IsCleared (.seating n) (enterUnseated s)) ∧ IsCleared keyX2 (enterUnseated s) := by
  obtain ⟨-, -, -, -, -, -, halu, -⟩ := unseatedBegun_blocks s
  have hentered : LawTable (enterState .unseated s) := enterState_keeps (l := .table) .unseated hlaw
  have hbegun : LawTable (unseatedBegun s) := by rwa [LawTable, halu]
  have hX2 : IsCleared keyX2 (unseatedBegun s) :=
    isCleared_congr (by rw [halu]) (enterState_unseated_isCleared hsilent hlaw)
  exact ⟨fun n => enterUnseated_isCleared (clearSeatingAlarms_isCleared hbegun n),
    enterUnseated_isCleared (clearSeatingAlarms_keeps_isCleared hX2)⟩

/-- The card queues are emptied with WITHDRAWN before any other result (R40; log 15). -/
theorem enterState_unseated_results (hsilent : s.bau.tx = none) (hidle : ∀ c e, e ∈ s.queue c → e.inFlight = false) :
    (∀ c, (enterState .unseated s).queue c = [])
      ∧ (enterState .unseated s).cpt.results = s.cpt.results
          ++ (s.queue .control ++ s.queue .deadline ++ s.queue .bulk).map (fun e => e.result .withdrawn) := by
  have hretires := enterState_retires (new := .unseated) (.inl hsilent)
  have hbase : enterQueues .unseated (enterBase .unseated s) = purgeQueues (fun _ => true) .withdrawn (enterBase .unseated s) := rfl
  have hqueues : ∀ c, (enterBase .unseated s).queue c = s.queue c := queue_congr (by simp [enterBase])
  have hempty : ∀ c, (enterQueues .unseated (enterBase .unseated s)).queue c = [] := by
    intro c
    refine List.eq_nil_iff_forall_not_mem.mpr fun e he => ?_
    rw [hbase, purgeQueues_queue] at he
    obtain ⟨e', he', -, -, hflight⟩ := of_mem_keptBy he
    rw [hqueues] at he'
    simp [hidle c e' he'] at hflight
  refine ⟨hretires.empty hempty, (hretires.idle hempty).trans ?_⟩
  have hall : purgedBy (fun _ => true) (s.queue .control ++ s.queue .deadline ++ s.queue .bulk)
      = s.queue .control ++ s.queue .deadline ++ s.queue .bulk := by
    refine List.filter_eq_self.mpr fun e he => ?_
    simp only [List.mem_append] at he
    obtain (he | he) | he := he <;> simp [hidle _ e he]
  rw [hbase, purgeQueues_results, hqueues, hqueues, hqueues, hall]
  simp [enterBase]

theorem enterUnseated_signalled (s : State) : EventKind.seatingStateChange ∈ (enterUnseated s).cpt.events := by
  obtain ⟨-, -, -, -, -, -, -, hcpt, -⟩ := unseatedBegun_blocks s
  have hbegun : EventKind.seatingStateChange ∈ (unseatedBegun s).cpt.events := by
    rw [hcpt]
    exact enterState_signalled .unseated s
  have hcleared := clearKey_events _ keyH5 (clearKey_events _ keyH4 (clearKey_events _ keyH3 (clearKey_events _ keyH2
    (clearKey_events _ keyH1 hbegun))))
  rw [enterUnseated_eq]
  simpa only [refreshRelays_frame, clearSeatingAlarms] using hcleared

/-- Settles O48. -/
theorem seatLoss : Obligations.SeatLoss := by
  unfold Obligations.SeatLoss
  refine ⟨fun s h => exec_seatLoss_of_not h, fun x s hstate hheld hx hc => ?_, fun s hstate hheld hsilent hidle hlaw => ?_⟩
  · have hended := seatLoss_ownFrame (s := s.setSec (fun c => { c with seat := .taken false })) hx hc
    exact ⟨_, exec_seatLoss hstate hheld, hended⟩
  let u := s.setSec (fun c => { c with seat := .taken false })
  have huncut : Uncut .unseated u := .inl hsilent
  have hsec := (enterUnseated_sec u).trans (unseatedBegun_sec u)
  have hbau : (enterUnseated u).bau = s.bau.entered .unseated := by
    have hentered : (enterState .unseated u).bau = s.bau.entered .unseated := enterState_bau huncut
    simpa [enterUnseated_eq, clearSeatingAlarms, unseatedBegun_blocks] using hentered
  obtain ⟨hempty, hresults⟩ := enterState_unseated_results (s := u) hsilent hidle
  have hrxp : (enterUnseated u).rxp = { s.rxp with frames := [], free := 192, refused := [], readyOutstanding := false } := by
    have hentered : (enterUnseated u).rxp = (enterState .unseated u).rxp := by
      simp [enterUnseated_eq, clearSeatingAlarms, unseatedBegun_blocks]
    exact hentered.trans (enterState_rxp_unseated u)
  have hsrc : (enterUnseated u).src = (enterState .unseated u).src := by
    simp [enterUnseated_eq, clearSeatingAlarms, unseatedBegun_blocks]
  have hstl : (enterUnseated u).stl = { s.stl with load := none } := by
    have hentered : (enterUnseated u).stl = (enterState .unseated u).stl := by
      simp [enterUnseated_eq, clearSeatingAlarms, unseatedBegun_blocks]
    exact hentered.trans (enterState_stl .unseated u)
  obtain ⟨htable, hselection⟩ := enterState_sources_cleared (new := .unseated) (.inl rfl) u
  obtain ⟨hseating, hX2⟩ := enterUnseated_cleared (s := u) hsilent hlaw
  refine ⟨_, exec_seatLoss hstate hheld, ?_, ?_, ?_, ?_, ?_, ?_, ?_, ?_, ?_, ?_, ?_, ?_, ?_, ?_, ?_, ?_, ?_, ?_, ?_,
    fun c => ?_, fun k => ?_, ?_, ?_, ?_, ?_, ?_, ?_, ?_, fun i => ?_, ?_, ?_, fun hsel => ?_, fun e he hkey => ?_, ?_, ?_, hstl, ?_⟩
  iterate 4 rw [hsec]
  · rw [hsec]
    rfl
  iterate 8 rw [hsec]
  · rw [hsec]
    rfl
  iterate 2 rw [hsec]
  iterate 3 rw [hbau]; rfl
  · rw [← hempty c]
    exact queue_congr (by simp [enterUnseated_eq, clearSeatingAlarms, unseatedBegun_blocks, u]) c
  · rw [← enterState_slots_unseated (s := u) hsilent k]
    simp [enterUnseated_eq, clearSeatingAlarms, unseatedBegun_blocks, u]
  · refine Eq.trans ?_ hresults
    simp [enterUnseated_eq, clearSeatingAlarms, unseatedBegun_blocks, u]
  iterate 6 rw [hrxp]
  · rw [← enterState_peer_cleared (.inl rfl) u i]
    exact peer_congr (by simp [enterUnseated_eq, clearSeatingAlarms, unseatedBegun_blocks, u]) i
  · rw [hsrc, htable]
  · rw [hsrc, hselection]
  · rw [hsrc, enterState_unseated_role (s := u) hsilent hsel]
  · obtain ⟨n, hn⟩ | hx := hkey
    · exact hseating n e he hn
    · exact hX2 e he hx
  · simp [State.setSec]
  · simp [State.setSec]
  · exact enterUnseated_signalled u

end Sys2Proof.Machine
end

section
/-! The entry in flight of a card queue, and the end of its reply window (R31 to R35). -/

namespace Sys2Proof.Machine

open Sys2Proof

variable {s t : State} {c d : CardClass} {pre post q : List QueueEntry} {e y : QueueEntry} {n : Nat} {code : ResultCode}

/-! ### The entry in flight -/

/-- Entry `e` of queue `c` is in flight, and no entry before it is. -/
structure Flying (c : CardClass) (pre : List QueueEntry) (e : QueueEntry) (post : List QueueEntry) (s : State) : Prop where
  queue : s.queue c = pre ++ e :: post
  inFlight : e.inFlight = true
  before : ∀ y, y ∈ pre → y.inFlight = false

theorem Flying.congr (h : Flying c pre e post s) (hqueues : t.txs.queues = s.txs.queues) : Flying c pre e post t :=
  ⟨(queue_congr hqueues c).trans h.queue, h.inFlight, h.before⟩

theorem Flying.flightOf (h : Flying c pre e post s) : flightOf (s.queue c) = some e := by
  have hbefore : pre.find? QueueEntry.inFlight = none := List.find?_eq_none.mpr fun y hy => by simp [h.before y hy]
  rw [h.queue, Machine.flightOf, List.find?_append, hbefore, Option.none_or, List.find?_cons_of_pos h.inFlight]

theorem Flying.withoutFlight (h : Flying c pre e post s) : withoutFlight (s.queue c) = pre ++ post := by
  rw [h.queue, Machine.withoutFlight, List.eraseP_append_right _ (fun y hy => by simp [h.before y hy]),
    List.eraseP_cons_of_pos h.inFlight]

theorem changeFlight_append (f : QueueEntry → QueueEntry) (hflight : e.inFlight = true)
    (hbefore : ∀ y, y ∈ pre → y.inFlight = false) : changeFlight f (pre ++ e :: post) = pre ++ f e :: post := by
  induction pre with
  | nil => simp [changeFlight, hflight]
  | cons y rest ih =>
    have hy : y.inFlight = false := hbefore y (by simp)
    simp [changeFlight, hy, ih fun z hz => hbefore z (by simp [hz])]

/-! ### An entry that leaves its queue (R33, R35) -/

theorem countResults_counter (code : ResultCode) (s : State) (i : CounterId) (hi : resultCounter code = some i) (j : CounterId) :
    (countResults code 1 s).counter j = if j = i then satAdd (s.counter i) 1 else s.counter j := by
  simp only [countResults, hi]
  exact counter_bumpBy i j 1 s

/-- What an entry in flight leaves behind when it is retired with a code. -/
theorem retireFlight_fields (h : Flying c pre e post s) (f : QueueEntry) (code : ResultCode) :
    (retireFlight c f code s).queue c = pre ++ post ∧ (∀ d, d ≠ c → (retireFlight c f code s).queue d = s.queue d)
      ∧ (retireFlight c f code s).txs.storeFree = s.txs.storeFree + f.units
      ∧ (retireFlight c f code s).cpt.results = s.cpt.results ++ [f.result code] := by
  have hleft : (retireFlight c f code s).txs = (leaveQueue c f s).txs := by simp [retireFlight]
  have hqueue : ∀ d, (retireFlight c f code s).queue d = (s.setQueue c (pre ++ post)).queue d := fun d => by
    rw [State.queue, hleft, leaveQueue, h.withoutFlight]
    rfl
  refine ⟨(hqueue c).trans (State.queue_setQueue _ _ _), fun d hd => (hqueue d).trans (State.queue_setQueue_ne s _ hd), ?_, ?_⟩
  · rw [hleft]
    rfl
  · simp [retireFlight, appendResults]

theorem retireFlight_counter (f : QueueEntry) (i : CounterId) (hi : resultCounter code = some i) (j : CounterId) :
    (retireFlight c f code s).counter j = if j = i then satAdd (s.counter i) 1 else s.counter j :=
  countResults_counter code _ i hi j

/-! ### An entry that returns to its place (R31, R32, R34) -/

/-- The state with the entry in flight back in its place, before late entries leave. -/
def returned (c : CardClass) (pre : List QueueEntry) (e : QueueEntry) (post : List QueueEntry) (n : Nat) (s : State) : State :=
  s.setQueue c (pre ++ { e with inFlight := false, attempts := n } :: post)

theorem returnFlight_eq (h : Flying c pre e post s) (n : Nat) : returnFlight c n s
    = match c with
      | .deadline => sweepLate (returned c pre e post n s)
      | .control | .bulk => returned c pre e post n s := by
  unfold returnFlight
  rw [h.queue, changeFlight_append _ h.inFlight h.before]
  cases c <;> rfl

theorem sweepLate_of_none (h : ∀ y, y ∈ s.queue .deadline → s.lateNow y = false) : sweepLate s = s := by
  have hkept : (s.queue .deadline).filter (fun e => !s.lateNow e) = s.queue .deadline :=
    List.filter_eq_self.mpr fun y hy => by simp [h y hy]
  have hlate : (s.queue .deadline).filter s.lateNow = [] := List.filter_eq_nil_iff.mpr fun y hy => by simp [h y hy]
  rw [sweepLate]
  simp only [hkept, hlate, retireAll]
  rfl

/-- One late entry leaves its queue with LATE (R31). -/
theorem sweepLate_of_one (hqueue : s.queue .deadline = pre ++ e :: post) (he : s.lateNow e = true)
    (hothers : ∀ y, y ∈ pre ++ post → s.lateNow y = false) :
    sweepLate s = retireLate e (s.setQueue .deadline (pre ++ post)) := by
  have hpre : ∀ y, y ∈ pre → s.lateNow y = false := fun y hy => hothers y (List.mem_append_left _ hy)
  have hpost : ∀ y, y ∈ post → s.lateNow y = false := fun y hy => hothers y (List.mem_append_right _ hy)
  have hlate : (s.queue .deadline).filter s.lateNow = [e] := by
    rw [hqueue, List.filter_append, List.filter_cons_of_pos he, List.filter_eq_nil_iff.mpr fun y hy => by simp [hpre y hy],
      List.filter_eq_nil_iff.mpr fun y hy => by simp [hpost y hy]]
    rfl
  have hkept : (s.queue .deadline).filter (fun e => !s.lateNow e) = pre ++ post := by
    rw [hqueue, List.filter_append, List.filter_cons_of_neg (by simp [he]),
      List.filter_eq_self.mpr fun y hy => by simp [hpre y hy], List.filter_eq_self.mpr fun y hy => by simp [hpost y hy]]
  rw [sweepLate]
  simp only [hlate, hkept, retireAll]

/-- No class-2 entry's due time has passed: the entry in flight stays in its place (R34). -/
theorem returnFlight_of_kept (h : Flying c pre e post s)
    (hkept : c = .deadline → ∀ y, y ∈ s.queue c → ∀ d, y.due = some d → s.duePassed d = false) (n : Nat) :
    returnFlight c n s = returned c pre e post n s := by
  rw [returnFlight_eq h]
  cases c with
  | control => rfl
  | bulk => rfl
  | deadline =>
    refine sweepLate_of_none fun y hy => ?_
    have hdue : ∀ z, z ∈ s.queue .deadline → z.due.any s.duePassed = false := fun z hz => by
      cases hz' : z.due with
      | none => rfl
      | some d => exact hkept rfl z hz d hz'
    have hsame : (returned .deadline pre e post n s).duePassed = s.duePassed := rfl
    rw [returned, State.queue_setQueue, List.mem_append, List.mem_cons] at hy
    rw [State.lateNow, hsame]
    obtain hy | rfl | hy := hy
    · simp [hdue y (by simp [h.queue, hy])]
    · simp [hdue e (by simp [h.queue])]
    · simp [hdue y (by simp [h.queue, hy])]

/-- The entry's own due time has passed, alone in its queue: it leaves with LATE (R31). -/
theorem returnFlight_of_overdue (h : Flying .deadline pre e post s) (he : e.due.any s.duePassed = true)
    (hothers : ∀ y, y ∈ pre ++ post → ∀ d, y.due = some d → s.duePassed d = false) (n : Nat) :
    returnFlight .deadline n s
      = retireLate { e with inFlight := false, attempts := n } ((returned .deadline pre e post n s).setQueue .deadline (pre ++ post)) := by
  rw [returnFlight_eq h]
  refine sweepLate_of_one (State.queue_setQueue _ _ _) ?_ fun y hy => ?_
  · rw [State.lateNow]
    exact he
  · have hdue : y.due.any s.duePassed = false := by
      cases hy' : y.due with
      | none => rfl
      | some d => exact hothers y hy d hy'
    have hsame : (returned .deadline pre e post n s).duePassed = s.duePassed := rfl
    rw [State.lateNow, hsame, hdue, Bool.and_false]

/-- What a late entry leaves behind (R31). -/
theorem retireLate_fields (y : QueueEntry) (s : State) :
    (retireLate y s).txs.queues = s.txs.queues ∧ (retireLate y s).txs.storeFree = s.txs.storeFree + y.units
      ∧ (retireLate y s).cpt.results = s.cpt.results ++ [y.result .late] ∧ Raised keyX3 (retireLate y s)
      ∧ (∀ j, j ∉ [CounterId.raisesDropped, .evictions] →
          (retireLate y s).counter j = if j = .late then satAdd (s.counter .late) 1 else s.counter j) := by
  have halarm := retireAll_cons_alarm y [] s
  refine ⟨by simp, retireLate_storeFree y s, retireLate_results y s, halarm.2, fun j hj => ?_⟩
  exact (raiseKey_countersSame keyX3 _ _ j hj).trans (counter_bump .late j _)

/-! ### The reply window (R13, R33 to R35) -/

/-- The bus access unit once an own reply window is over. -/
def windowClosed (s : State) : State := { s with bau := { s.bau with view := .settle, reply := none, tx := none } }

theorem exec_replyWindowEnd {x : Transmission} (hview : s.bau.view = .window) (hx : s.bau.tx = some x)
    (hsource : x.source = .card c) (w : WindowContent) : exec (.replyWindowEnd w) s
      = .next (reportDrained (cardOutcome c (windowOutcome (classifyWindow w).1) (countWindow (classifyWindow w) (windowClosed s)))) := by
  refine congrArg Host.Outcome.next ?_
  rw [if_pos hview]
  simp only [State.setBau, hx, closeOwnWindow, hsource]
  rfl

theorem cardOutcome_of_unmarked (h : Flying c pre e post s) (horphan : e.orphan = false) (hmark : e.mark = none) :
    cardOutcome c .accept s = retireFlight c e .sent s
      ∧ cardOutcome c .full s = returnFlight c e.attempts (blockPeer e.dest (bump .fullReplies s))
      ∧ cardOutcome c .noReply s = outcomeNoReply c e s := by
  refine ⟨?_, ?_, ?_⟩ <;> simp [cardOutcome, h.flightOf, horphan, hmark, TxOutcome.success]

/-- The classification of a window that holds neither reply pattern (R13). -/
theorem classifyWindow_of_none {w : WindowContent} (haccept : w ≠ .bits true (ReplyCode.accept.bits.map codeBit))
    (hfull : w ≠ .bits true (ReplyCode.full.bits.map codeBit)) : classifyWindow w = (none, decide (w ≠ .quiet)) := by
  cases w with
  | quiet => rfl
  | garbled => rfl
  | bits onTime p =>
    have hp : ¬ (onTime = true ∧ p = ReplyCode.accept.bits.map codeBit) := fun ⟨h1, h2⟩ => haccept (by rw [h1, h2])
    have hp' : ¬ (onTime = true ∧ p = ReplyCode.full.bits.map codeBit) := fun ⟨h1, h2⟩ => hfull (by rw [h1, h2])
    simp only [classifyWindow, Bool.and_eq_true, beq_iff_eq, hp, hp', if_false]
    simp

theorem blockPeer_peer {dest : Dest} (hdest : dest.val < 16) (s : State) :
    (blockPeer dest s).peer (Fin.ofNat 16 dest.val)
        = { s.peer (Fin.ofNat 16 dest.val) with blocked := true, blockedTimer := some 250000 }
      ∧ OtherPeersSame (Fin.ofNat 16 dest.val) s (blockPeer dest s) := by
  have hblocked : blockPeer dest s = s.setPeer (Fin.ofNat 16 dest.val)
      { s.peer (Fin.ofNat 16 dest.val) with blocked := true, blockedTimer := some 250000 } := if_pos hdest
  rw [hblocked]
  exact ⟨State.peer_setPeer _ _ _, fun j hj => State.peer_setPeer_ne s _ hj⟩

end Sys2Proof.Machine
end

section
/-! The outcomes of an own unicast frame (R13, R31, R33 to R35). -/

namespace Sys2Proof.Machine

open Sys2Proof

variable {s t u : State} {c d : CardClass} {pre post q : List QueueEntry} {e y : QueueEntry} {n : Nat} {code : ResultCode}

/-! ### What the end of a window leaves -/

/-- A state that differs from the one before the window's end in the bus view alone, and in what its outcome touched. -/
theorem windowClosed_blocks (s : State) : (windowClosed s).txs = s.txs ∧ (windowClosed s).cpt = s.cpt
    ∧ (windowClosed s).counters = s.counters ∧ (windowClosed s).tmu = s.tmu := ⟨rfl, rfl, rfl, rfl⟩

theorem countWindow_frame (x : Option ReplyCode × Bool) (s : State) : (countWindow x s).bau = s.bau
    ∧ (countWindow x s).txs = s.txs ∧ (countWindow x s).cpt.results = s.cpt.results ∧ (countWindow x s).tmu = s.tmu
    ∧ (countWindow x s).alu = s.alu ∧ SameOutside [.cpt, .counters] s (countWindow x s) := by
  unfold countWindow
  dsimp only
  split <;> split <;> simp [sameOutside_iff]

theorem countWindow_counter (faulty : Bool) (s : State) (j : CounterId) : (countWindow (none, faulty) s).counter j
    = if j = .replyFaults then (if faulty then satAdd (s.counter .replyFaults) 1 else s.counter .replyFaults)
      else if j = .noReply then satAdd (s.counter .noReply) 1 else s.counter j := by
  cases faulty with
  | false =>
    have hwindow : countWindow (none, false) s = bump .noReply s := rfl
    rw [hwindow, counter_bump]
    by_cases hj : j = .replyFaults <;> simp [hj]
  | true =>
    have hwindow : countWindow (none, true) s = bump .replyFaults (bump .noReply s) := rfl
    rw [hwindow, counter_bump]
    by_cases hj : j = .replyFaults <;> simp [hj, counter_bump]

/-- The entry in flight is retired: it leaves its queue and its result joins the list (R33, R35). -/
def Left (c : CardClass) (pre : List QueueEntry) (e : QueueEntry) (post : List QueueEntry) (code : ResultCode) (n : Nat)
    (s t : State) : Prop :=
  t.queue c = pre ++ post ∧ t.txs.storeFree = s.txs.storeFree + unitsFor e.payload.length
    ∧ t.cpt.results = s.cpt.results ++ [{ tag := e.tag, code := code, attempts := n }]

theorem Left.congr (h : Left c pre e post code n s t) (hqueues : u.txs.queues = t.txs.queues)
    (hstore : u.txs.storeFree = t.txs.storeFree) (hresults : u.cpt.results = t.cpt.results) : Left c pre e post code n s u := by
  obtain ⟨hqueue, hfree, hlist⟩ := h
  exact ⟨(queue_congr hqueues c).trans hqueue, hstore.trans hfree, hresults.trans hlist⟩

theorem Left.reported (h : Left c pre e post code n s t) : Left c pre e post code n s (reportDrained t) :=
  h.congr (by simp) (by simp) (by simp)

theorem Left.before (h : Left c pre e post code n u t) (hstore : u.txs.storeFree = s.txs.storeFree)
    (hresults : u.cpt.results = s.cpt.results) : Left c pre e post code n s t := by
  obtain ⟨hqueue, hfree, hlist⟩ := h
  exact ⟨hqueue, by rw [hfree, hstore], by rw [hlist, hresults]⟩

theorem retireFlight_left (h : Flying c pre e post s) (code : ResultCode) (n : Nat) :
    Left c pre e post code n s (retireFlight c { e with attempts := n } code s) := by
  obtain ⟨hqueue, -, hfree, hresults⟩ := retireFlight_fields h { e with attempts := n } code
  exact ⟨hqueue, hfree, hresults⟩

/-- A class-2 entry whose due time has passed as it returns (R31). -/
theorem returnFlight_left (h : Flying .deadline pre e post s) (he : e.due.any s.duePassed = true)
    (hothers : ∀ y, y ∈ pre ++ post → ∀ d, y.due = some d → s.duePassed d = false) (n : Nat) :
    Left .deadline pre e post .late n s (returnFlight .deadline n s) ∧ Raised keyX3 (returnFlight .deadline n s)
      ∧ (∀ d, d ≠ .deadline → (returnFlight .deadline n s).queue d = s.queue d)
      ∧ ∀ j, j ∉ [CounterId.raisesDropped, .evictions] →
          (returnFlight .deadline n s).counter j = if j = .late then satAdd (s.counter .late) 1 else s.counter j := by
  rw [returnFlight_of_overdue h he hothers]
  obtain ⟨hqueues, hfree, hresults, hraised, hcounter⟩ := retireLate_fields { e with inFlight := false, attempts := n }
    ((returned .deadline pre e post n s).setQueue .deadline (pre ++ post))
  refine ⟨⟨(queue_congr hqueues _).trans (State.queue_setQueue _ _ _), hfree.trans rfl, hresults.trans rfl⟩, hraised,
    fun d hd => ?_, fun j hj => (hcounter j hj).trans rfl⟩
  rw [queue_congr hqueues d, State.queue_setQueue_ne _ _ hd, returned, State.queue_setQueue_ne _ _ hd]

/-- An entry that stays in its place (R34). -/
theorem returned_fields (c : CardClass) (pre : List QueueEntry) (e : QueueEntry) (post : List QueueEntry) (n : Nat) (s : State) :
    (returned c pre e post n s).queue c = pre ++ { e with inFlight := false, attempts := n } :: post
      ∧ (∀ d, d ≠ c → (returned c pre e post n s).queue d = s.queue d)
      ∧ SameOutside [.txs] s (returned c pre e post n s) :=
  ⟨State.queue_setQueue _ _ _, fun _ hd => State.queue_setQueue_ne _ _ hd, by simp [sameOutside_iff, returned]⟩

theorem outcomeNoReply_of_few (h : e.attempts < 2) : outcomeNoReply c e s = returnFlight c (e.attempts + 1) s :=
  if_pos (by omega)

/-- The third window without a reply (R35). -/
def undelivered (c : CardClass) (e : QueueEntry) (s : State) : State :=
  raiseInternal keyX4 (retireFlight c { e with attempts := 3 } .undeliverable s)

theorem outcomeNoReply_of_many (h : 2 ≤ e.attempts) : outcomeNoReply c e s = { undelivered c e s with
    txs := { (undelivered c e s).txs with undeliverableTimer := some 125000000 } } := by
  unfold outcomeNoReply
  rw [if_neg (by omega)]
  rfl

theorem undelivered_fields (h : Flying c pre e post s) : Left c pre e post .undeliverable 3 s (undelivered c e s)
    ∧ Raised keyX4 (undelivered c e s) ∧ (∀ d, d ≠ c → (undelivered c e s).queue d = s.queue d)
    ∧ Counted .undeliverable s (undelivered c e s) := by
  obtain ⟨-, hothers, -, -⟩ := retireFlight_fields h { e with attempts := 3 } .undeliverable
  refine ⟨(retireFlight_left h .undeliverable 3).congr (by simp [undelivered]) (by simp [undelivered]) (by simp [undelivered]),
    raised_raiseKey keyX4 (catalogueSeverity keyX4) _, fun d hd => ?_, ?_⟩
  · exact (queue_congr (by simp [undelivered]) d).trans (hothers d hd)
  · have hraised := raiseKey_countersSame keyX4 (catalogueSeverity keyX4)
      (retireFlight c { e with attempts := 3 } .undeliverable s) .undeliverable (by decide)
    have hcount := retireFlight_counter (c := c) (s := s) { e with attempts := 3 } .undeliverable (code := .undeliverable) rfl .undeliverable
    exact hraised.trans (hcount.trans (if_pos rfl))

/-- No other queue than that of the class changes. -/
theorem returnFlight_queue_ne (hd : d ≠ c) (n : Nat) (s : State) : (returnFlight c n s).queue d = s.queue d := by
  unfold returnFlight
  cases c with
  | deadline =>
    have hswept : ∀ u, (sweepLate u).queue d = u.queue d := fun u =>
      (queue_congr (retireAll_queues _ _) d).trans (State.queue_setQueue_ne u _ hd)
    exact (hswept _).trans (State.queue_setQueue_ne s _ hd)
  | control => exact State.queue_setQueue_ne s _ hd
  | bulk => exact State.queue_setQueue_ne s _ hd

theorem outcomeNoReply_queue_ne (h : Flying c pre e post s) (hd : d ≠ c) : (outcomeNoReply c e s).queue d = s.queue d := by
  by_cases hn : e.attempts < 2
  · rw [outcomeNoReply_of_few hn]
    exact returnFlight_queue_ne hd _ s
  · obtain ⟨-, -, hothers, -⟩ := undelivered_fields h
    rw [outcomeNoReply_of_many (by omega)]
    exact hothers d hd

end Sys2Proof.Machine
end

section
/-! The reply window of an own unicast frame, from the content it held to the entry's result (R13, R31, R33 to R35). -/

namespace Sys2Proof.Machine

open Sys2Proof

variable {s t : State} {c d : CardClass} {pre post : List QueueEntry} {e : QueueEntry} {w : WindowContent}

theorem SameOutside.mono {l l' : List Block} (h : SameOutside l s t) (hsub : ∀ b, b ∈ l → b ∈ l') : SameOutside l' s t :=
  fun b hb => h b fun hmem => hb (hsub b hmem)

/-- An ACCEPT retires the entry SENT (R33). -/
theorem windowAccepted (h : Flying c pre e post s) : ∃ t, t = reportDrained (retireFlight c e .sent (windowClosed s))
    ∧ t.bau = (windowClosed s).bau ∧ (∀ d, d ≠ c → t.queue d = s.queue d) ∧ Left c pre e post .sent e.attempts s t
    ∧ Counted .sent s t ∧ CountersSame [.sent] s t ∧ SameOutside [.bau, .txs, .cpt, .counters] s t := by
  have h' : Flying c pre e post (windowClosed s) := h.congr rfl
  obtain ⟨-, hothers, -, -⟩ := retireFlight_fields h' e .sent
  have hcounter : ∀ j, (reportDrained (retireFlight c e .sent (windowClosed s))).counter j
      = if j = .sent then satAdd (s.counter .sent) 1 else s.counter j := fun j =>
    (reportDrained_counter _ j).trans (retireFlight_counter (code := .sent) e .sent rfl j)
  have hleft : Left c pre e post .sent e.attempts (windowClosed s) (retireFlight c e .sent (windowClosed s)) :=
    retireFlight_left h' .sent e.attempts
  refine ⟨_, rfl, by simp, fun d hd => (queue_congr (by simp) d).trans (hothers d hd), (hleft.before rfl rfl).reported,
    (hcounter _).trans (if_pos rfl), fun j hj => (hcounter j).trans (if_neg (by simpa using hj)), ?_⟩
  simp [sameOutside_iff, windowClosed]

/-- The state once a FULL has blocked the entry's destination and been counted (R34, R77). -/
def fullTaken (e : QueueEntry) (s : State) : State := blockPeer e.dest (bump .fullReplies (windowClosed s))

theorem fullTaken_fields (hdest : e.dest.val < 16) (s : State) : (fullTaken e s).txs = s.txs
    ∧ (fullTaken e s).tmu = s.tmu ∧ (fullTaken e s).cpt.results = s.cpt.results ∧ (fullTaken e s).bau = (windowClosed s).bau
    ∧ (fullTaken e s).peer (Fin.ofNat 16 e.dest.val)
        = { s.peer (Fin.ofNat 16 e.dest.val) with blocked := true, blockedTimer := some 250000 }
    ∧ OtherPeersSame (Fin.ofNat 16 e.dest.val) s (fullTaken e s)
    ∧ (∀ j, (fullTaken e s).counter j = if j = .fullReplies then satAdd (s.counter .fullReplies) 1 else s.counter j)
    ∧ SameOutside [.bau, .ptb, .cpt, .counters] s (fullTaken e s) := by
  obtain ⟨hpeer, hothers⟩ := blockPeer_peer hdest (bump .fullReplies (windowClosed s))
  refine ⟨by simp [fullTaken, windowClosed], by simp [fullTaken, windowClosed], by simp [fullTaken, windowClosed],
    by simp [fullTaken], ?_, fun j hj => ?_, fun j => ?_, by simp [sameOutside_iff, fullTaken, windowClosed]⟩
  · rw [fullTaken, hpeer, bump_peer]
    rfl
  · exact (hothers j hj).trans (bump_peer _ _ _)
  · exact (counter_congr (s := bump .fullReplies (windowClosed s)) (by simp [fullTaken]) j).trans (counter_bump .fullReplies j _)

/-- A FULL keeps an entry whose due time, like every other of its queue, is still ahead (R34). -/
theorem windowFull_kept (h : Flying c pre e post s) (hdest : e.dest.val < 16)
    (hkept : c = .deadline → ∀ y, y ∈ s.queue c → ∀ d, y.due = some d → s.duePassed d = false) :
    ∃ t, t = reportDrained (returnFlight c e.attempts (fullTaken e s)) ∧ t.bau = (windowClosed s).bau
      ∧ (∀ d, d ≠ c → t.queue d = s.queue d)
      ∧ t.peer (Fin.ofNat 16 e.dest.val)
          = { s.peer (Fin.ofNat 16 e.dest.val) with blocked := true, blockedTimer := some 250000 }
      ∧ OtherPeersSame (Fin.ofNat 16 e.dest.val) s t ∧ t.queue c = pre ++ { e with inFlight := false } :: post
      ∧ t.cpt.results = s.cpt.results ∧ Counted .fullReplies s t ∧ CountersSame [.fullReplies] s t
      ∧ SameOutside [.bau, .txs, .ptb, .cpt, .counters] s t := by
  obtain ⟨htxs, htmu, hresults, hbau, hpeer, hothers, hcounter, hsame⟩ := fullTaken_fields hdest s
  have hreturned : returnFlight c e.attempts (fullTaken e s) = returned c pre e post e.attempts (fullTaken e s) := by
    refine returnFlight_of_kept (h.congr (by rw [htxs])) (fun hc y hy d hd => ?_) _
    have hqueue : (fullTaken e s).queue c = s.queue c := queue_congr (by rw [htxs]) c
    simpa [State.duePassed, htmu] using hkept hc y (hqueue ▸ hy) d hd
  obtain ⟨hqueue, hqueues, -⟩ := returned_fields c pre e post e.attempts (fullTaken e s)
  have hcounter' : ∀ j, (reportDrained (returned c pre e post e.attempts (fullTaken e s))).counter j
      = if j = .fullReplies then satAdd (s.counter .fullReplies) 1 else s.counter j := fun j =>
    (reportDrained_counter _ j).trans ((counter_congr (by simp [returned]) j).trans (hcounter j))
  have hptb : (reportDrained (returned c pre e post e.attempts (fullTaken e s))).ptb = (fullTaken e s).ptb := by simp [returned]
  rw [hreturned]
  refine ⟨_, rfl, by simp [returned, hbau], fun d hd => ?_, (peer_congr hptb _).trans hpeer,
    fun j hj => (peer_congr hptb j).trans (hothers j hj), (queue_congr (by simp) c).trans hqueue, by simp [returned, hresults],
    (hcounter' _).trans (if_pos rfl), fun j hj => (hcounter' j).trans (if_neg (by simpa using hj)), ?_⟩
  · exact (queue_congr (by simp) d).trans ((hqueues d hd).trans (queue_congr (by rw [htxs]) d))
  · simp [sameOutside_iff, returned, fullTaken, windowClosed]

/-- A FULL returns an entry whose due time has passed: it leaves with LATE (R31, R34). -/
theorem windowFull_overdue (h : Flying .deadline pre e post s) (hdest : e.dest.val < 16) (he : e.due.any s.duePassed = true)
    (hothers : ∀ y, y ∈ pre ++ post → ∀ d, y.due = some d → s.duePassed d = false) :
    ∃ t, t = reportDrained (returnFlight .deadline e.attempts (fullTaken e s)) ∧ t.bau = (windowClosed s).bau
      ∧ (∀ d, d ≠ .deadline → t.queue d = s.queue d)
      ∧ t.peer (Fin.ofNat 16 e.dest.val)
          = { s.peer (Fin.ofNat 16 e.dest.val) with blocked := true, blockedTimer := some 250000 }
      ∧ OtherPeersSame (Fin.ofNat 16 e.dest.val) s t ∧ Left .deadline pre e post .late e.attempts s t
      ∧ Raised keyX3 t ∧ Counted .fullReplies s t ∧ Counted .late s t
      ∧ SameOutside [.bau, .txs, .ptb, .alu, .cpt, .counters] s t := by
  obtain ⟨htxs, htmu, hresults, hbau, hpeer, hpeers, hcounter, hsame⟩ := fullTaken_fields hdest s
  have hdue : (fullTaken e s).duePassed = s.duePassed := by
    funext d
    simp [State.duePassed, htmu]
  obtain ⟨hleft, hraised, hqueues, hlate⟩ := returnFlight_left (s := fullTaken e s) (h.congr (by rw [htxs])) (by rwa [hdue])
    (by rwa [hdue]) e.attempts
  have hptb : (reportDrained (returnFlight .deadline e.attempts (fullTaken e s))).ptb = (fullTaken e s).ptb := by simp
  have hcounter' : ∀ j, j ∉ [CounterId.raisesDropped, .evictions] →
      (reportDrained (returnFlight .deadline e.attempts (fullTaken e s))).counter j
        = if j = .late then satAdd ((fullTaken e s).counter .late) 1 else (fullTaken e s).counter j := fun j hj =>
    (reportDrained_counter _ j).trans (hlate j hj)
  refine ⟨_, rfl, by simp [hbau], fun d hd => ?_, (peer_congr hptb _).trans hpeer, fun j hj => (peer_congr hptb j).trans (hpeers j hj),
    (hleft.before (by rw [htxs]) hresults).reported, by simpa [Raised] using hraised, ?_, ?_, ?_⟩
  · exact (queue_congr (by simp) d).trans ((hqueues d hd).trans (queue_congr (by rw [htxs]) d))
  · exact (hcounter' _ (by decide)).trans (hcounter .fullReplies)
  · exact (hcounter' _ (by decide)).trans (congrArg (satAdd · 1) (hcounter .late))
  · simp [sameOutside_iff, fullTaken, windowClosed]

/-- The state once a window with no reply has been counted (R13, R17). -/
def silenceTaken (w : WindowContent) (s : State) : State := countWindow (none, decide (w ≠ .quiet)) (windowClosed s)

theorem silenceTaken_blocks (w : WindowContent) (s : State) : (silenceTaken w s).bau = (windowClosed s).bau
    ∧ (silenceTaken w s).txs = s.txs ∧ (silenceTaken w s).cpt.results = s.cpt.results ∧ (silenceTaken w s).tmu = s.tmu
    ∧ (silenceTaken w s).alu = s.alu ∧ SameOutside [.bau, .cpt, .counters] s (silenceTaken w s) := by
  obtain ⟨hbau, htxs, hresults, htmu, halu, hsame⟩ := countWindow_frame (none, decide (w ≠ .quiet)) (windowClosed s)
  have hclosed : SameOutside [.bau, .cpt, .counters] s (windowClosed s) := by simp [sameOutside_iff, windowClosed]
  exact ⟨hbau, htxs, hresults, htmu, halu, sameOutside_trans hclosed (hsame.mono (by simp))⟩

/-- A window with no reply (R13, R31, R35). -/
theorem windowSilent (h : Flying c pre e post s) (w : WindowContent) :
    ∃ t, t = reportDrained (outcomeNoReply c e (silenceTaken w s)) ∧ t.bau = (windowClosed s).bau
      ∧ (∀ d, d ≠ c → t.queue d = s.queue d) ∧ Counted .noReply s t ∧ (w ≠ .quiet → Counted .replyFaults s t)
      ∧ (w = .quiet → t.counter .replyFaults = s.counter .replyFaults) ∧ SameOutside [.bau, .txs, .alu, .cpt, .counters] s t
      ∧ (e.attempts < 2 → (c = .deadline → ∀ y, y ∈ s.queue c → ∀ d, y.due = some d → s.duePassed d = false) →
          t.queue c = pre ++ { e with inFlight := false, attempts := e.attempts + 1 } :: post
            ∧ t.cpt.results = s.cpt.results ∧ t.alu = s.alu ∧ CountersSame [.noReply, .replyFaults] s t)
      ∧ (e.attempts < 2 → (c = .deadline ∧ e.due.any s.duePassed = true
            ∧ ∀ y, y ∈ pre ++ post → ∀ d, y.due = some d → s.duePassed d = false) →
          Left c pre e post .late (e.attempts + 1) s t ∧ Raised keyX3 t ∧ Counted .late s t)
      ∧ (2 ≤ e.attempts → Left c pre e post .undeliverable 3 s t ∧ t.txs.undeliverableTimer = some 125000000
          ∧ Raised keyX4 t ∧ Counted .undeliverable s t) := by
  obtain ⟨hbau, htxs, hresults, htmu, halu, hsame⟩ := silenceTaken_blocks w s
  have hcounter : ∀ j, (silenceTaken w s).counter j = _ := countWindow_counter (decide (w ≠ .quiet)) (windowClosed s)
  have h' : Flying c pre e post (silenceTaken w s) := h.congr (by rw [htxs])
  have hdue : (silenceTaken w s).duePassed = s.duePassed := by
    funext d
    simp [State.duePassed, htmu]
  have hoff : ∀ j, j ∉ outcomeCounters →
      (reportDrained (outcomeNoReply c e (silenceTaken w s))).counter j = (silenceTaken w s).counter j := fun j hj =>
    (reportDrained_counter _ j).trans (outcomeNoReply_countersSame c e _ j hj)
  refine ⟨_, rfl, by simp [hbau], fun d hd => ?_, ?_, fun hw => ?_, fun hw => ?_, ?_, fun hn hkept => ?_, fun hn hover => ?_, fun hn => ?_⟩
  · exact (queue_congr (by simp) d).trans ((outcomeNoReply_queue_ne h' hd).trans (queue_congr (by rw [htxs]) d))
  · exact (hoff _ (by decide)).trans (hcounter _)
  · refine (hoff _ (by decide)).trans ((hcounter _).trans ?_)
    simp [hw, windowClosed, State.counter]
  · refine (hoff _ (by decide)).trans ((hcounter _).trans ?_)
    simp [hw, windowClosed, State.counter]
  · exact sameOutside_trans (hsame.mono (by simp)) (by simp [sameOutside_iff])
  · have hreturned : outcomeNoReply c e (silenceTaken w s) = returned c pre e post (e.attempts + 1) (silenceTaken w s) := by
      rw [outcomeNoReply_of_few hn]
      refine returnFlight_of_kept h' (fun hc y hy => ?_) _
      have hqueue : (silenceTaken w s).queue c = s.queue c := queue_congr (by rw [htxs]) c
      rw [hdue]
      exact hkept hc y (hqueue ▸ hy)
    obtain ⟨hqueue, -, -⟩ := returned_fields c pre e post (e.attempts + 1) (silenceTaken w s)
    rw [hreturned]
    refine ⟨(queue_congr (by simp) c).trans hqueue, by simp [returned, hresults], by simp [returned, halu], fun j hj => ?_⟩
    simp only [List.mem_cons, List.not_mem_nil, or_false, not_or] at hj
    refine (reportDrained_counter _ j).trans ((counter_congr (by simp [returned]) j).trans ((hcounter j).trans ?_))
    rw [if_neg hj.2, if_neg hj.1]
    rfl
  · obtain ⟨rfl, he, hothers⟩ := hover
    rw [outcomeNoReply_of_few hn]
    obtain ⟨hleft, hraised, -, hlate⟩ := returnFlight_left h' (by rwa [hdue]) (by rwa [hdue]) (e.attempts + 1)
    refine ⟨(hleft.before (by rw [htxs]) hresults).reported, by simpa [Raised] using hraised, ?_⟩
    exact (reportDrained_counter _ _).trans ((hlate .late (by decide)).trans (congrArg (satAdd · 1) (hcounter .late)))
  · obtain ⟨hleft, hraised, -, hcount⟩ := undelivered_fields h'
    rw [outcomeNoReply_of_many hn]
    refine ⟨((hleft.congr (u := { undelivered c e (silenceTaken w s) with
        txs := { (undelivered c e (silenceTaken w s)).txs with undeliverableTimer := some 125000000 } }) rfl rfl rfl).before
      (by rw [htxs]) hresults).reported, by simp, by simpa [Raised] using hraised, ?_⟩
    refine (reportDrained_counter _ _).trans (Eq.trans ?_ (hcount.trans (congrArg (satAdd · 1) (hcounter .undeliverable))))
    exact counter_congr rfl _

/-- Settles O36. -/
theorem unicastOutcome : Obligations.UnicastOutcome := by
  unfold Obligations.UnicastOutcome
  intro x c pre post e s hview hx hsource hqueue hflight hbefore horphan hmark hdest _ accept full kept overdue closed left blocked
  have h : Flying c pre e post s := ⟨hqueue, hflight, hbefore⟩
  have hexec := exec_replyWindowEnd hview hx hsource
  obtain ⟨haccepted, hrefused, -⟩ := cardOutcome_of_unmarked (s := windowClosed s) (h.congr rfl) horphan hmark
  have hexecFull : exec (.replyWindowEnd full) s = .next (reportDrained (returnFlight c e.attempts (fullTaken e s))) := by
    rw [hexec full]
    exact congrArg (fun u => Host.Outcome.next (reportDrained u)) hrefused
  refine ⟨?_, fun hkept => ?_, fun hover => ?_, fun w haccept hfull => ?_⟩
  · obtain ⟨t, rfl, hbau, hothers, hleft, hsent, hcounters, hsame⟩ := windowAccepted h
    refine ⟨_, (hexec accept).trans ?_, ⟨hbau, hothers⟩, hleft, hsent, hcounters, hsame⟩
    exact congrArg (fun u => Host.Outcome.next (reportDrained u)) haccepted
  · obtain ⟨t, rfl, hbau, hothers, hpeer, hpeers, hrest⟩ := windowFull_kept h hdest hkept
    exact ⟨_, hexecFull, ⟨hbau, hothers⟩, ⟨hpeer, hpeers⟩, hrest⟩
  · obtain ⟨rfl, he, hlate⟩ := hover
    obtain ⟨t, rfl, hbau, hothers, hpeer, hpeers, hrest⟩ := windowFull_overdue h hdest he hlate
    exact ⟨_, hexecFull, ⟨hbau, hothers⟩, ⟨hpeer, hpeers⟩, hrest⟩
  · obtain ⟨t, rfl, hbau, hothers, hrest⟩ := windowSilent h w
    have hclass : classifyWindow w = (none, decide (w ≠ .quiet)) := classifyWindow_of_none haccept hfull
    refine ⟨_, ?_, ⟨hbau, hothers⟩, hrest⟩
    rw [hexec w, hclass]
    obtain ⟨-, htxs, -⟩ := silenceTaken_blocks w s
    obtain ⟨-, -, hsilent⟩ := cardOutcome_of_unmarked (s := silenceTaken w s) (h.congr (by rw [htxs])) horphan hmark
    exact congrArg (fun u => Host.Outcome.next (reportDrained u)) hsilent

end Sys2Proof.Machine
end

section
/-! An own frame that has reached its end marker: what it leaves, and what its producer is told (R6, R9 to R11, R26, R33). -/

namespace Sys2Proof.Machine

open Sys2Proof

variable {s t : State} {x : Transmission} {c : CardClass} {k : InternalKind} {a : AlarmKey} {new old : Seating} {j : CounterId}

/-! ### Alarm keys over a change of seating state (R107, R108, R121) -/

theorem judgeSourceLost_isCleared (hne : a ≠ keyT1) (h : IsCleared a s) : IsCleared a (judgeSourceLost s) := by
  unfold judgeSourceLost
  dsimp only
  split
  · exact h
  · split
    · exact raiseKey_isCleared hne _ (isCleared_congr rfl h)
    · exact clearKey_isCleared keyT1 (isCleared_congr rfl h)

theorem updateCandidacy_isCleared (hne : a ≠ keyT1 ∧ a ≠ keyT2) (h : IsCleared a s) : IsCleared a (updateCandidacy s) := by
  have hrun : ∀ l, IsCleared a (runSelection (s.setTable l)) := fun l =>
    runSelection_isCleared hne (isCleared_congr (by simp [State.setTable]) h)
  unfold updateCandidacy dropSource
  split
  · exact h
  · split
    · split
      · exact h
      · exact hrun _
    · split
      · exact hrun _
      · exact h

theorem enterSources_isCleared (hne : a ≠ keyT1 ∧ a ≠ keyT2) (old new : Seating) (h : IsCleared a s) :
    IsCleared a (enterSources old new s) := by
  have hleft : IsCleared a (if old = .joined then sourcesLeft s else s) := by
    split
    · have hstopped : IsCleared a { s with src := { s.src with announceTimer := none } } := isCleared_congr rfl h
      exact judgeSourceLost_isCleared hne.1 (updateCandidacy_isCleared hne hstopped)
    · exact h
  have hjoined : IsCleared a (sourcesJoined s) := by
    have hjudged := judgeSourceLost_isCleared hne.1 (updateCandidacy_isCleared hne h)
    unfold sourcesJoined
    dsimp only
    split
    · exact isCleared_congr (by simp) hjudged
    · exact hjudged
  cases new with
  | unseated => exact clearSources_isCleared hne h
  | listening => exact clearSources_isCleared hne h
  | joined => exact hjoined
  | _ => exact hleft

theorem enterPool_isCleared (new : Seating) (h : IsCleared a s) : IsCleared a (enterPool new s) := by
  cases new with
  | unseated => exact clearKey_isCleared keyX2 (isCleared_congr rfl h)
  | forced | conflict | isolated => exact isCleared_congr (by simp [enterPool]) h
  | _ => exact h

theorem enterState_isCleared (hne : a ≠ keyT1 ∧ a ≠ keyT2) (huncut : Uncut new s) (h : IsCleared a s) :
    IsCleared a (enterState new s) := by
  obtain ⟨-, -, -, -, -, halu⟩ := queuesLeft_frame new s
  have hbus : IsCleared a (enterBus new (queuesLeft new s)) := by
    rw [enterBus_of_uncut (queuesLeft_uncut huncut)]
    exact isCleared_congr (by rw [halu]) h
  have hpeers : IsCleared a (enterPeers new (enterPool new (enterBus new (queuesLeft new s)))) :=
    isCleared_congr (by simp) (enterPool_isCleared new hbus)
  have hsummaries : IsCleared a (enterSummaries new (enterSources s.sec.state new
      (enterPeers new (enterPool new (enterBus new (queuesLeft new s)))))) :=
    isCleared_congr (by simp) (enterSources_isCleared hne s.sec.state new hpeers)
  exact leaveAlarms_isCleared s.sec.state hsummaries

/-! ### An own frame that is good (R6, R9 to R11) -/

/-- The state once a frame has reached its end marker, before its card entry or its producer is told. -/
def frameSent (x : Transmission) (s : State) : State := clearKey keyX1 (bump .framesSent { s with bau := s.sentBus x })

theorem endSent_eq (x : Transmission) (s : State) : endSent x s = match x.source with
    | .card c => if x.awaitsReply then frameSent x s else cardOutcome c .transmitted (frameSent x s)
    | .internal _ => frameSent x s := by
  unfold endSent
  rfl

theorem frameSent_fields (x : Transmission) (s : State) : (frameSent x s).bau = s.sentBus x
    ∧ (frameSent x s).txs = s.txs ∧ (frameSent x s).sec = s.sec ∧ (frameSent x s).ptb = s.ptb
    ∧ (frameSent x s).cpt.results = s.cpt.results
    ∧ (∀ j, (frameSent x s).counter j = if j = .framesSent then satAdd (s.counter .framesSent) 1 else s.counter j)
    ∧ SameOutside [.bau, .alu, .cpt, .counters] s (frameSent x s) := by
  refine ⟨by simp [frameSent], by simp [frameSent], by simp [frameSent], by simp [frameSent], by simp [frameSent], fun j => ?_,
    by simp [sameOutside_iff, frameSent]⟩
  exact (counter_congr (s := bump .framesSent { s with bau := s.sentBus x }) (by simp [frameSent]) j).trans
    (counter_bump .framesSent j _)

/-- A good own frame clears X1 (R11). -/
theorem frameSent_isCleared (hlaw : LawTable s) : IsCleared keyX1 (frameSent x s) := by
  have hbumped : LawTable (bump .framesSent { s with bau := s.sentBus x }) :=
    bump_keeps (l := .table) (s := { s with bau := s.sentBus x }) .framesSent hlaw
  exact isCleared_clearKey hbumped

/-! ### JOINED (R140) -/

theorem uncut_joined (s : State) : Uncut .joined s := .inr ⟨nofun, .inl rfl⟩

/-- JOINED as it is entered, before the ejector is judged. -/
def joinedBegun (s : State) : State := clearCauses (enterState .joined s)

theorem enterJoined_eq (s : State) : enterJoined s
    = if s.sec.eject.level then joinedBegun s else enterDraining .ejector (joinedBegun s) := by
  have heject : (joinedBegun s).sec.eject = s.sec.eject := by simp [joinedBegun, clearCauses, State.setSec]
  rw [← heject]
  rfl

theorem joinedBegun_fields (s : State) : (joinedBegun s).sec.state = .joined ∧ (joinedBegun s).sec.drven = true
    ∧ (joinedBegun s).bau = s.bau ∧ (joinedBegun s).ptb = s.ptb
    ∧ EventKind.seatingStateChange ∈ (joinedBegun s).cpt.events := by
  have hbau : (enterState .joined s).bau = s.bau := enterState_bau (uncut_joined s)
  have hptb := enterState_ptb (uncut_joined s) (by simp)
  refine ⟨by simp [joinedBegun, clearCauses, State.setSec, enterState_sec],
    by simp [joinedBegun, clearCauses, State.setSec, enterState_sec, drvenIn], ?_, ?_, ?_⟩
  · simpa [joinedBegun, clearCauses, State.setSec] using hbau
  · simpa [joinedBegun, clearCauses, State.setSec] using hptb
  · simpa [joinedBegun, clearCauses, State.setSec] using enterState_signalled .joined s

theorem enterDraining_fields (cause : WithdrawCause) (s : State) : (enterDraining cause s).bau = s.bau
    ∧ (enterDraining cause s).ptb = s.ptb := by
  have hbau : (enterState .draining s).bau = s.bau := enterState_bau (uncut_draining s)
  have hptb := enterState_ptb (uncut_draining s) (by simp)
  exact ⟨by simpa [enterDraining, State.setSec] using hbau, by simpa [enterDraining, State.setSec] using hptb⟩

/-- JOINED entered, or DRAINING with the ejector open (R140). -/
theorem enterJoined_fields (s : State) : (enterJoined s).sec.state = (if s.sec.eject.level then .joined else .draining)
    ∧ (enterJoined s).sec.drven = true ∧ (enterJoined s).bau = s.bau ∧ (enterJoined s).ptb = s.ptb
    ∧ EventKind.seatingStateChange ∈ (enterJoined s).cpt.events := by
  obtain ⟨hstate, hdrven, hbau, hptb, hsignal⟩ := joinedBegun_fields s
  rw [enterJoined_eq]
  split
  · exact ⟨hstate, hdrven, hbau, hptb, hsignal⟩
  · obtain ⟨hbau', hptb'⟩ := enterDraining_fields .ejector (joinedBegun s)
    exact ⟨by rw [enterDraining_sec], by rw [enterDraining_sec], hbau'.trans hbau, hptb'.trans hptb,
      enterDraining_events _ _ hsignal⟩

theorem enterDraining_isCleared (hne : a ≠ keyT1 ∧ a ≠ keyT2) (cause : WithdrawCause) (h : IsCleared a s) :
    IsCleared a (enterDraining cause s) :=
  isCleared_congr (by simp [enterDraining, State.setSec]) (enterState_isCleared hne (uncut_draining s) h)

theorem enterJoined_isCleared (hne : a ≠ keyT1 ∧ a ≠ keyT2) (h : IsCleared a s) : IsCleared a (enterJoined s) := by
  have hbegun : IsCleared a (joinedBegun s) :=
    isCleared_congr (by simp [joinedBegun, clearCauses, State.setSec]) (enterState_isCleared hne (uncut_joined s) h)
  rw [enterJoined_eq]
  split
  · exact hbegun
  · exact enterDraining_isCleared hne .ejector hbegun

theorem enterDraining_countersSame (cause : WithdrawCause) (s : State) :
    CountersSame [.raisesDropped, .evictions] s (enterDraining cause s) :=
  (enterState_countersSame (uncut_draining s)).trans (countersSame_of_eq (by simp [enterDraining, State.setSec]))

theorem enterJoined_countersSame (s : State) : CountersSame [.raisesDropped, .evictions] s (enterJoined s) := by
  have hbegun : CountersSame [.raisesDropped, .evictions] s (joinedBegun s) :=
    (enterState_countersSame (uncut_joined s)).trans (countersSame_of_eq (by simp [joinedBegun, clearCauses, State.setSec]))
  rw [enterJoined_eq]
  split
  · exact hbegun
  · exact hbegun.trans (enterDraining_countersSame _ _)

end Sys2Proof.Machine
end

section
/-! The producers of internal frames, and the completion of an own frame of each kind (R26, R33, R75, R140, R142, R144). -/

namespace Sys2Proof.Machine

open Sys2Proof

variable {s t : State} {x : Transmission} {c : CardClass} {k : InternalKind} {a : AlarmKey} {j i : CounterId}
  {pre post : List QueueEntry} {e : QueueEntry}

/-! ### Entries into states with nothing on the pair count no frame (R17) -/

theorem silent_enterState {new : Seating} (h : s.bau.tx = none) : (enterState new s).bau.tx = none :=
  enterState_keeps (l := .silent) new h

theorem enterListening_countersSame (h : s.bau.tx = none) : CountersSame [.raisesDropped, .evictions] s (enterListening s) :=
  (enterState_countersSame (new := .listening) (.inl h)).trans
    (countersSame_of_eq (by simp [enterListening, State.setSec, clearCauses]))

theorem enterConfig_countersSame (h : s.bau.tx = none) : CountersSame [.raisesDropped, .evictions] s (enterConfig s) :=
  (enterState_countersSame (new := .config) (.inl h)).trans (countersSame_of_eq (by simp [enterConfig]))

theorem powerUp_countersSame (h : s.bau.tx = none) : CountersSame [.raisesDropped, .evictions] s (powerUp s) := by
  have hcleared : CountersSame [.raisesDropped, .evictions] s (clearKey keyH1 s) := countersSame_of_eq (by simp)
  have hsilent : (clearKey keyH1 s).bau.tx = none := by simpa using h
  unfold powerUp
  dsimp only
  split
  · exact hcleared.trans (enterListening_countersSame hsilent)
  · exact hcleared.trans (enterConfig_countersSame hsilent)

theorem enterPowering_countersSame (h : s.bau.tx = none) : CountersSame [.raisesDropped, .evictions] s (enterPowering s) := by
  have hbegun : CountersSame [.raisesDropped, .evictions] s (poweringBegun s) :=
    (enterState_countersSame (new := .powering) (.inl h)).trans
      (countersSame_of_eq (by simp [poweringBegun, State.setSec, clearCauses, setPower]))
  have hsilent : (poweringBegun s).bau.tx = none := by
    simpa [poweringBegun, State.setSec, clearCauses, setPower] using silent_enterState (new := .powering) h
  cases hpgood : s.sec.pgood.level with
  | false => rwa [enterPowering_of_power_bad hpgood]
  | true =>
    rw [enterPowering_of_power_good hpgood]
    exact hbegun.trans (powerUp_countersSame hsilent)

/-- WITHDRAWN entered from DRAINING or FORCED (R145). -/
theorem enterWithdrawn_eq (hstate : s.sec.state = .draining ∨ s.sec.state = .forced) : enterWithdrawn s
    = if s.sec.withdrawCause = some .ejector then
        (if s.sec.eject.level then enterPowering (enterState .withdrawn s)
         else if s.sec.pwren then startNotice (enterState .withdrawn s) else enterState .withdrawn s)
      else enterState .withdrawn s := by
  obtain hstate | hstate := hstate <;> simp [enterWithdrawn, hstate]

theorem enterWithdrawn_countersSame (h : s.bau.tx = none) (hstate : s.sec.state = .draining ∨ s.sec.state = .forced) :
    CountersSame [.raisesDropped, .evictions] s (enterWithdrawn s) := by
  have hentered := enterState_countersSame (new := .withdrawn) (.inl h)
  rw [enterWithdrawn_eq hstate]
  split
  · split
    · exact hentered.trans (enterPowering_countersSame (silent_enterState h))
    · split
      · exact hentered.trans (countersSame_of_eq (by simp))
      · exact hentered
  · exact hentered

/-- A card's withdrawal ends in WITHDRAWN (R145). -/
theorem enterWithdrawn_of_card (hstate : s.sec.state = .draining ∨ s.sec.state = .forced) (hcause : s.sec.withdrawCause = some .card) :
    enterWithdrawn s = enterState .withdrawn s := by
  rw [enterWithdrawn_eq hstate, if_neg (by rw [hcause]; nofun)]

theorem enterPowerFault_countersSame (h : s.bau.tx = none) : CountersSame [.raisesDropped, .evictions] s (enterPowerFault s) :=
  (enterState_countersSame (new := .powerFault) (.inl h)).trans
    (countersSame_of_eq (by simp [enterPowerFault, State.setSec, setPower]))

theorem goneTransmitted_countersSame (h : s.bau.tx = none) : CountersSame [.raisesDropped, .evictions] s (goneTransmitted s) := by
  unfold goneTransmitted
  split
  next hstate => exact enterWithdrawn_countersSame h (.inl hstate)
  next hstate =>
    split
    · exact enterPowerFault_countersSame h
    · exact enterWithdrawn_countersSame h (.inr hstate)
  all_goals exact countersSame_of_eq rfl

theorem joinTransmitted_cases (s : State) : joinTransmitted s = if s.sec.state = .joining then enterJoined s else s := by
  unfold joinTransmitted
  split <;> simp_all

/-! ### The producers (R26) -/

/-- The counters a producer may touch. -/
def producerCounters : List CounterId := [.summariesSent, .announcesSent, .syncsSent, .raisesDropped, .evictions]

theorem tellProducer_countersSame (h : s.bau.tx = none) (k : InternalKind) :
    CountersSame producerCounters s (tellProducer k s) := by
  have hbump : ∀ i, i ∈ producerCounters → CountersSame producerCounters s (bump i s) := fun i hi j hj => by
    rw [counter_bump, if_neg fun hji : j = i => hj (hji ▸ hi)]
  cases k with
  | join =>
    have hforgotten : CountersSame producerCounters s (forgetSequences s) := countersSame_of_eq (by simp)
    refine hforgotten.trans ?_
    rw [tellProducer, joinTransmitted_cases]
    split
    · exact (enterJoined_countersSame _).mono (by decide)
    · exact countersSame_of_eq rfl
  | gone => exact (goneTransmitted_countersSame h).mono (by decide)
  | withdraw => exact countersSame_of_eq rfl
  | ready => exact countersSame_of_eq (by simp [tellProducer])
  | summary => exact hbump _ (by decide)
  | announce => exact hbump _ (by decide)
  | sync => exact hbump _ (by decide)

/-- A producer other than that of GONE leaves the bus access unit, and raises no other key than T1 and T2. -/
theorem tellProducer_kept (hk : k ≠ .gone) (hne : a ≠ keyT1 ∧ a ≠ keyT2) (s : State) :
    (tellProducer k s).bau = s.bau ∧ (IsCleared a s → IsCleared a (tellProducer k s)) := by
  cases k with
  | gone => exact absurd rfl hk
  | join =>
    rw [tellProducer, joinTransmitted_cases]
    split
    · obtain ⟨-, -, hbau, -⟩ := enterJoined_fields (forgetSequences s)
      exact ⟨hbau, fun h => enterJoined_isCleared hne (isCleared_congr rfl h)⟩
    · exact ⟨rfl, fun h => isCleared_congr rfl h⟩
  | withdraw => exact ⟨rfl, id⟩
  | ready =>
    refine ⟨by simp [tellProducer], fun h => ?_⟩
    have hemptied : IsCleared a { s with rxp := { s.rxp with refused := [], readyOutstanding := false } } := isCleared_congr rfl h
    exact isCleared_congr (by simp [tellProducer, readyTransmitted]) (clearKey_isCleared keyX2 hemptied)
  | summary | announce | sync => exact ⟨by simp [tellProducer], fun h => isCleared_congr (by simp [tellProducer]) h⟩

/-- The state in which a producer is told: its slot has been transmitted. -/
def slotTransmitted (k : InternalKind) (s : State) : State := s.setSlots (s.txs.slots.set k (s.txs.slots.get k).transmitted)

theorem internalTransmitted_eq (k : InternalKind) (s : State) : internalTransmitted k s
    = if (s.txs.slots.get k).flying then tellProducer k (slotTransmitted k s) else s := rfl

theorem internalTransmitted_countersSame (h : s.bau.tx = none) (k : InternalKind) :
    CountersSame producerCounters s (internalTransmitted k s) := by
  rw [internalTransmitted_eq]
  split
  · have hslot : CountersSame producerCounters s (slotTransmitted k s) := countersSame_of_eq rfl
    exact hslot.trans (tellProducer_countersSame (s := slotTransmitted k s) h k)
  · exact countersSame_of_eq rfl

theorem internalTransmitted_kept (hk : k ≠ .gone) (hne : a ≠ keyT1 ∧ a ≠ keyT2) (s : State) :
    (internalTransmitted k s).bau = s.bau ∧ (IsCleared a s → IsCleared a (internalTransmitted k s)) := by
  rw [internalTransmitted_eq]
  split
  · obtain ⟨hbau, hcleared⟩ := tellProducer_kept hk hne (slotTransmitted k s)
    exact ⟨hbau, fun h => hcleared (isCleared_congr rfl h)⟩
  · exact ⟨rfl, id⟩

theorem internalTransmitted_of_flying (h : s.txs.slots.get k = .inFlight) :
    internalTransmitted k s = tellProducer k (slotTransmitted k s) := by
  rw [internalTransmitted_eq, h]
  rfl

end Sys2Proof.Machine
end

section
/-! OWN_FRAME_COMPLETE (R6, R9 to R11, R26, R33, R75, R103, R110, R140, R142, R144). -/

namespace Sys2Proof.Machine

open Sys2Proof

variable {s t : State} {x : Transmission} {c : CardClass} {k : InternalKind} {a : AlarmKey} {j i : CounterId}
  {pre post : List QueueEntry} {e : QueueEntry}

/-! ### The completed frame of each kind -/

theorem completeFrame_of_internal (hx : x.source = .internal k) : completeFrame x s = internalTransmitted k (frameSent x s) := by
  unfold completeFrame
  rw [endSent_eq]
  simp only [hx]

theorem completeFrame_of_awaited (hx : x.source = .card c) (hdest : x.dest.val < 16) : completeFrame x s = frameSent x s := by
  have hawaits : x.awaitsReply = true := by simp [Transmission.awaitsReply, hx, hdest]
  unfold completeFrame
  rw [endSent_eq]
  simp only [hx, hawaits, if_true]

theorem completeFrame_of_broadcast (hx : x.source = .card c) (hdest : 16 ≤ x.dest.val) :
    completeFrame x s = cardOutcome c .transmitted (frameSent x s) := by
  have hawaits : x.awaitsReply = false := by simpa [Transmission.awaitsReply, hx] using hdest
  unfold completeFrame
  rw [endSent_eq]
  simp only [hx, hawaits, Bool.false_eq_true, if_false]

theorem cardOutcome_transmitted_isCleared (h : IsCleared a s) (c : CardClass) : IsCleared a (cardOutcome c .transmitted s) := by
  unfold cardOutcome
  split
  · exact h
  · split
    · exact isCleared_congr (by simp) h
    · exact isCleared_congr (by simp [TxOutcome.success]) h

theorem sentBus_tx_of_internal (hx : x.source = .internal k) (s : State) : (s.sentBus x).tx = none := by
  simp [State.sentBus, Transmission.awaitsReply, hx]

/-- Whatever was sent, but GONE: the view, the pointer, the collision count, and X1 (R6, R11). -/
theorem completeFrame_kept (hk : x.source ≠ .internal .gone) (hlaw : LawTable s) :
    (completeFrame x s).bau = s.sentBus x ∧ IsCleared keyX1 (completeFrame x s) := by
  obtain ⟨hbau, -⟩ := frameSent_fields x s
  have hcleared : IsCleared keyX1 (frameSent x s) := frameSent_isCleared hlaw
  cases hx : x.source with
  | internal k =>
    rw [completeFrame_of_internal hx]
    obtain ⟨hsame, hkept⟩ := internalTransmitted_kept (a := keyX1) (k := k) (fun hgone => hk (hx.trans (congrArg _ hgone)))
      ⟨nofun, nofun⟩ (frameSent x s)
    exact ⟨hsame.trans hbau, hkept hcleared⟩
  | card c =>
    by_cases hdest : x.dest.val < 16
    · rw [completeFrame_of_awaited hx hdest]
      exact ⟨hbau, hcleared⟩
    · rw [completeFrame_of_broadcast hx (Nat.not_lt.mp hdest)]
      exact ⟨by simpa using hbau, cardOutcome_transmitted_isCleared hcleared c⟩

/-- FRAMES SENT (R17). -/
theorem completeFrame_counted (x : Transmission) (s : State) : Counted .framesSent s (completeFrame x s) := by
  obtain ⟨hbau, -, -, -, -, hcounter, -⟩ := frameSent_fields x s
  cases hx : x.source with
  | internal k =>
    have hsilent : (frameSent x s).bau.tx = none := by rw [hbau]; exact sentBus_tx_of_internal hx s
    rw [completeFrame_of_internal hx]
    exact (internalTransmitted_countersSame hsilent k _ (by decide)).trans (hcounter _)
  | card c =>
    by_cases hdest : x.dest.val < 16
    · rw [completeFrame_of_awaited hx hdest]
      exact hcounter _
    · rw [completeFrame_of_broadcast hx (Nat.not_lt.mp hdest)]
      exact (cardOutcome_countersSame c .transmitted _ _ (by decide)).trans (hcounter _)

/-- Unicast DATA awaits its reply (R10). -/
theorem completeFrame_awaited (hx : x.source = .card c) (hdest : x.dest.val < 16) :
    (completeFrame x s).bau.tx = some { x with complete := true } ∧ (completeFrame x s).txs = s.txs
      ∧ CountersSame [.framesSent] s (completeFrame x s)
      ∧ SameOutside [.bau, .alu, .cpt, .counters] s (completeFrame x s) := by
  obtain ⟨hbau, htxs, -, -, -, hcounter, hsame⟩ := frameSent_fields x s
  rw [completeFrame_of_awaited hx hdest]
  refine ⟨?_, htxs, fun j hj => (hcounter j).trans (if_neg (by simpa using hj)), hsame⟩
  rw [hbau]
  simp [State.sentBus, Transmission.awaitsReply, hx, hdest]

/-- A group or broadcast frame is retired SENT at its end marker (R33). -/
theorem completeFrame_broadcast (hx : x.source = .card c) (hdest : 16 ≤ x.dest.val) (h : Flying c pre e post s)
    (horphan : e.orphan = false) : (completeFrame x s).bau.tx = none ∧ Left c pre e post .sent e.attempts s (completeFrame x s)
      ∧ Counted .sent s (completeFrame x s) ∧ CountersSame [.framesSent, .sent] s (completeFrame x s)
      ∧ SameOutside [.bau, .txs, .alu, .cpt, .counters] s (completeFrame x s) := by
  obtain ⟨hbau, htxs, -, -, hresults, hcounter, hsame⟩ := frameSent_fields x s
  have h' : Flying c pre e post (frameSent x s) := h.congr (by rw [htxs])
  have hretired : completeFrame x s = retireFlight c e .sent (frameSent x s) := by
    rw [completeFrame_of_broadcast hx hdest]
    simp [cardOutcome, h'.flightOf, horphan, TxOutcome.success]
  have hleft : Left c pre e post .sent e.attempts (frameSent x s) (retireFlight c e .sent (frameSent x s)) :=
    retireFlight_left h' .sent e.attempts
  have hcounter' : ∀ j, (retireFlight c e .sent (frameSent x s)).counter j
      = if j = .sent then satAdd ((frameSent x s).counter .sent) 1 else (frameSent x s).counter j :=
    retireFlight_counter (code := .sent) e .sent rfl
  rw [hretired]
  refine ⟨?_, hleft.before (by rw [htxs]) hresults, ?_, fun j hj => ?_, ?_⟩
  · simp [hbau, State.sentBus, Transmission.awaitsReply, hx, Nat.not_lt.mpr hdest]
  · exact (hcounter' .sent).trans (congrArg (satAdd · 1) (hcounter .sent))
  · simp only [List.mem_cons, List.not_mem_nil, or_false, not_or] at hj
    exact (hcounter' j).trans ((if_neg hj.2).trans ((hcounter j).trans (if_neg hj.1)))
  · exact sameOutside_trans (hsame.mono (by simp)) (by simp [sameOutside_iff])

/-- The producers that only count their frame (R17, R167, R103, R110). -/
theorem completeFrame_reported (hki : (k = .summary ∧ i = .summariesSent) ∨ (k = .announce ∧ i = .announcesSent)
      ∨ (k = .sync ∧ i = .syncsSent)) (hx : x.source = .internal k) (hslot : s.txs.slots.get k = .inFlight) :
    (completeFrame x s).bau.tx = none ∧ (completeFrame x s).txs.slots.get k = .empty ∧ Counted i s (completeFrame x s)
      ∧ CountersSame [.framesSent, i] s (completeFrame x s)
      ∧ SameOutside [.bau, .txs, .alu, .cpt, .counters] s (completeFrame x s) := by
  obtain ⟨hbau, htxs, -, -, -, hcounter, hsame⟩ := frameSent_fields x s
  have htold : completeFrame x s = bump i (slotTransmitted k (frameSent x s)) := by
    rw [completeFrame_of_internal hx, internalTransmitted_of_flying (by rw [htxs, hslot])]
    obtain ⟨rfl, rfl⟩ | ⟨rfl, rfl⟩ | ⟨rfl, rfl⟩ := hki <;> rfl
  have hne : i ≠ .framesSent := by obtain ⟨-, rfl⟩ | ⟨-, rfl⟩ | ⟨-, rfl⟩ := hki <;> decide
  have hcounter' : ∀ j, (bump i (slotTransmitted k (frameSent x s))).counter j
      = if j = i then satAdd ((frameSent x s).counter i) 1 else (frameSent x s).counter j :=
    fun j => counter_bump i j _
  rw [htold]
  refine ⟨?_, ?_, ?_, fun j hj => ?_, ?_⟩
  · simp [slotTransmitted, State.setSlots, hbau, sentBus_tx_of_internal hx]
  · simp [slotTransmitted, State.setSlots, htxs, hslot, SlotState.transmitted]
  · refine (hcounter' i).trans ((if_pos rfl).trans (congrArg (satAdd · 1) ((hcounter i).trans (if_neg hne))))
  · simp only [List.mem_cons, List.not_mem_nil, or_false, not_or] at hj
    exact (hcounter' j).trans ((if_neg hj.2).trans ((hcounter j).trans (if_neg hj.1)))
  · exact sameOutside_trans (hsame.mono (by simp)) (by simp [sameOutside_iff, slotTransmitted, State.setSlots])

/-- The JOIN of JOINING (R75, R140). -/
theorem completeFrame_join (hx : x.source = .internal .join) (hslot : s.txs.slots.get .join = .inFlight)
    (hstate : s.sec.state = .joining) :
    (∀ i : Slot, ((completeFrame x s).peer i).sequence = { control := none, deadline := none, bulk := none })
      ∧ (completeFrame x s).sec.state = (if s.sec.eject.level then .joined else .draining)
      ∧ (completeFrame x s).sec.drven = true ∧ EventKind.seatingStateChange ∈ (completeFrame x s).cpt.events := by
  obtain ⟨-, htxs, hsec, -⟩ := frameSent_fields x s
  let u := forgetSequences (slotTransmitted .join (frameSent x s))
  have husec : u.sec = s.sec := by simp [u, slotTransmitted, State.setSlots, hsec]
  have htold : completeFrame x s = enterJoined u := by
    rw [completeFrame_of_internal hx, internalTransmitted_of_flying (by rw [htxs, hslot])]
    exact (joinTransmitted_cases u).trans (if_pos (by rw [husec, hstate]))
  obtain ⟨hstate', hdrven, -, hptb, hsignal⟩ := enterJoined_fields u
  rw [htold]
  refine ⟨fun i => ?_, by rw [hstate', husec], hdrven, hsignal⟩
  rw [peer_congr hptb i]
  simp [u, forgetSequences, State.peer, mapVector, PeerEntry.forgotten, PerClass.all]

/-- The GONE of DRAINING or FORCED (R142, R144). -/
theorem completeFrame_gone (hx : x.source = .internal .gone) (hslot : s.txs.slots.get .gone = .inFlight) :
    (s.sec.state = .draining ∨ (s.sec.state = .forced ∧ s.sec.forceCause = some .drain) →
        s.sec.withdrawCause = some .card → (completeFrame x s).sec.state = .withdrawn
          ∧ (completeFrame x s).sec.drven = false ∧ (completeFrame x s).sec.rmvok = true)
      ∧ (s.sec.state = .forced → s.sec.forceCause = some .power → (completeFrame x s).sec.state = .powerFault
          ∧ (completeFrame x s).sec.drven = false ∧ (completeFrame x s).sec.pwren = false) := by
  obtain ⟨-, htxs, hsec, -⟩ := frameSent_fields x s
  let u := slotTransmitted .gone (frameSent x s)
  have husec : u.sec = s.sec := hsec
  have htold : completeFrame x s = goneTransmitted u := by
    rw [completeFrame_of_internal hx, internalTransmitted_of_flying (by rw [htxs, hslot])]
    rfl
  rw [htold]
  refine ⟨fun hstate hcause => ?_, fun hstate hcause => ?_⟩
  · have hwithdrawn : goneTransmitted u = enterState .withdrawn u := by
      obtain hstate | ⟨hstate, hforce⟩ := hstate
      · simp only [goneTransmitted, husec, hstate]
        exact enterWithdrawn_of_card (.inl (by rw [husec, hstate])) (by rw [husec, hcause])
      · simp only [goneTransmitted, husec, hstate, hforce]
        exact enterWithdrawn_of_card (.inr (by rw [husec, hstate])) (by rw [husec, hcause])
    rw [hwithdrawn, enterState_sec]
    exact ⟨rfl, rfl, rfl⟩
  · have hfault : goneTransmitted u = enterPowerFault u := by simp only [goneTransmitted, husec, hstate, hcause, if_true]
    rw [hfault]
    simp [enterPowerFault, State.setSec, setPower, enterState_sec, drvenIn]

/-! ### The report that a drain may add (R42) -/

theorem reportDrained_slot (hk : k ≠ .gone) (s : State) : (reportDrained s).txs.slots.get k = s.txs.slots.get k := by
  unfold reportDrained
  split
  · cases k with
    | gone => exact absurd rfl hk
    | _ => rfl
  · rfl

theorem reportDrained_of_onPair (h : s.bau.tx = some x) : reportDrained s = s :=
  if_neg fun ⟨_, _, hdrained⟩ => by simp [State.drained, h] at hdrained

/-- Settles O34. -/
theorem ownFrameCompletes : Obligations.OwnFrameCompletes := by
  unfold Obligations.OwnFrameCompletes
  refine ⟨fun x s hx hstopped => exec_ownFrameComplete_of_not_ended hx ?_, fun x s hview hx hc hd hlen hlaw _ => ?_⟩
  · rw [Bool.eq_false_iff, ne_eq, ended_iff]
    rintro ⟨-, hd, hlen⟩
    rcases hstopped with hstopped | hstopped
    · simp [hd] at hstopped
    · omega
  · have hcounter : ∀ j, (reportDrained (completeFrame x s)).counter j = (completeFrame x s).counter j := reportDrained_counter _
    have hbau : (reportDrained (completeFrame x s)).bau = (completeFrame x s).bau := by simp
    have hsec : (reportDrained (completeFrame x s)).sec = (completeFrame x s).sec := by simp
    have hsame : SameOutside [.txs] (completeFrame x s) (reportDrained (completeFrame x s)) := by simp [sameOutside_iff]
    refine ⟨_, exec_ownFrameComplete hview hx ((ended_iff x).mpr ⟨hc, hd, hlen⟩), fun hsource => ?_,
      (hcounter _).trans (completeFrame_counted x s), fun c hsource hdest => ?_,
      fun c pre e post hsource hdest hqueue hflight hbefore horphan => ?_, fun k i hki hsource hslot => ?_,
      fun hsource hslot hstate => ?_, fun hsource hslot => ?_⟩
    · obtain ⟨hsent, hcleared⟩ := completeFrame_kept hsource hlaw
      refine ⟨by rw [hbau, hsent]; rfl, by rw [hbau, hsent]; rfl, by rw [hbau, hsent]; rfl, ?_⟩
      exact isCleared_congr (by simp) hcleared
    · obtain ⟨htx, htxs, hcounters, hblocks⟩ := completeFrame_awaited (s := s) hsource hdest
      rw [reportDrained_of_onPair htx]
      exact ⟨htx, htxs, hcounters, hblocks⟩
    · obtain ⟨htx, hleft, hcount, hcounters, hblocks⟩ :=
        completeFrame_broadcast (s := s) hsource hdest ⟨hqueue, hflight, hbefore⟩ horphan
      obtain ⟨hqueue', hfree, hresults⟩ := hleft.reported
      exact ⟨by rw [hbau, htx], hqueue', hfree, hresults, (hcounter _).trans hcount,
        fun j hj => (hcounter j).trans (hcounters j hj), sameOutside_trans hblocks (hsame.mono (by simp))⟩
    · obtain ⟨htx, hempty, hcount, hcounters, hblocks⟩ := completeFrame_reported hki hsource hslot
      have hk : k ≠ .gone := by obtain ⟨rfl, -⟩ | ⟨rfl, -⟩ | ⟨rfl, -⟩ := hki <;> nofun
      exact ⟨by rw [hbau, htx], (reportDrained_slot hk _).trans hempty, (hcounter _).trans hcount,
        fun j hj => (hcounter j).trans (hcounters j hj), sameOutside_trans hblocks (hsame.mono (by simp))⟩
    · obtain ⟨hsequence, hstate', hdrven, hsignal⟩ := completeFrame_join hsource hslot hstate
      have hptb : (reportDrained (completeFrame x s)).ptb = (completeFrame x s).ptb := by simp
      exact ⟨fun i => by rw [peer_congr hptb i, hsequence], by rw [hsec, hstate'], by rw [hsec, hdrven], by simpa using hsignal⟩
    · rw [hsec]
      exact completeFrame_gone hsource hslot

end Sys2Proof.Machine
end

section
/-! Candidates, claim positions and the start of a frame (R3, R4, R7, R25, R28, R29). -/

namespace Sys2Proof.Machine

open Sys2Proof

variable {s t : State} {c d : CardClass} {k : InternalKind} {n m cls : Nat} {e : QueueEntry} {q rest : List QueueEntry}
  {blocked : Dest → Bool} {seen : List Dest} {own : Slot}

/-! ### The card candidate of a queue (R29) -/

/-- The entry at a place of a queue may be sent, where `seen` lists the destinations of the entries before the queue. -/
def MayFly (blocked : Dest → Bool) (seen : List Dest) (q : List QueueEntry) (n : Nat) : Prop :=
  ∃ e, q[n]? = some e ∧ e.inFlight = false ∧ e.dest ∉ seen ∧ (∀ m e', m < n → q[m]? = some e' → e'.dest ≠ e.dest)
    ∧ blocked e.dest = false ∧ e.released = true

theorem mayFly_zero : MayFly blocked seen (e :: rest) 0
    ↔ (!seen.contains e.dest && !blocked e.dest && e.released && !e.inFlight) = true := by
  constructor
  · rintro ⟨x, hx, hflight, hseen, -, hblocked, hreleased⟩
    obtain rfl : e = x := Option.some.inj hx
    simp [hflight, hseen, hblocked, hreleased]
  · intro h
    simp only [Bool.and_eq_true, Bool.not_eq_true'] at h
    obtain ⟨⟨⟨hseen, hblocked⟩, hreleased⟩, hflight⟩ := h
    exact ⟨e, rfl, hflight, by simpa using hseen, fun m _ hm => absurd hm (Nat.not_lt_zero m), hblocked, hreleased⟩

theorem mayFly_succ : MayFly blocked seen (e :: rest) (n + 1) ↔ MayFly blocked (e.dest :: seen) rest n := by
  constructor
  · rintro ⟨x, hx, hflight, hseen, hbefore, hblocked, hreleased⟩
    refine ⟨x, by simpa using hx, hflight, ?_, fun m e' hm he' => hbefore (m + 1) e' (by omega) (by simpa using he'),
      hblocked, hreleased⟩
    rw [List.mem_cons, not_or]
    exact ⟨fun h => hbefore 0 e (by omega) rfl h.symm, hseen⟩
  · rintro ⟨x, hx, hflight, hseen, hbefore, hblocked, hreleased⟩
    rw [List.mem_cons, not_or] at hseen
    refine ⟨x, by simpa using hx, hflight, hseen.2, fun m e' hm he' => ?_, hblocked, hreleased⟩
    cases m with
    | zero =>
      obtain rfl : e = e' := by simpa using he'
      exact fun h => hseen.1 h.symm
    | succ m => exact hbefore m e' (by omega) (by simpa using he')

/-- The head candidate is the first entry that may be sent (R29). -/
theorem headCandidate_of_first (h : MayFly blocked seen q n) (hfirst : ∀ m, m < n → ¬ MayFly blocked seen q m) :
    headCandidate blocked seen q = some n := by
  induction q generalizing seen n with
  | nil =>
    obtain ⟨e, he, -⟩ := h
    simp at he
  | cons e rest ih =>
    unfold headCandidate
    cases n with
    | zero => rw [if_pos (mayFly_zero.mp h)]
    | succ n =>
      rw [if_neg fun hzero => hfirst 0 (by omega) (mayFly_zero.mpr hzero),
        ih (mayFly_succ.mp h) fun m hm hmay => hfirst (m + 1) (by omega) (mayFly_succ.mpr hmay)]
      rfl

theorem headCandidate_of_none (h : ∀ n, ¬ MayFly blocked seen q n) : headCandidate blocked seen q = none := by
  induction q generalizing seen with
  | nil => rfl
  | cons e rest ih =>
    unfold headCandidate
    rw [if_neg fun hzero => h 0 (mayFly_zero.mpr hzero), ih fun n hmay => h (n + 1) (mayFly_succ.mpr hmay)]
    rfl

theorem mayFly_of_headCandidate (h : headCandidate blocked seen q = some n) : MayFly blocked seen q n := by
  induction q generalizing seen n with
  | nil => cases h
  | cons e rest ih =>
    unfold headCandidate at h
    split at h
    next hzero =>
      obtain rfl := Option.some.inj h
      exact mayFly_zero.mpr hzero
    next =>
      obtain ⟨m, hm, rfl⟩ := Option.map_eq_some_iff.mp h
      exact mayFly_succ.mpr (ih hm)

theorem destBlocked_iff (s : State) (dest : Dest) :
    s.destBlocked dest = false ↔ ∀ i : Slot, i.val = dest.val → (s.peer i).blocked = false := by
  by_cases hlt : dest.val < 16
  · have hslot : ∀ i : Slot, i.val = dest.val ↔ i = Fin.ofNat 16 dest.val := fun i => by
      rw [Fin.ext_iff, Fin.val_ofNat, Nat.mod_eq_of_lt hlt]
    rw [State.destBlocked, decide_eq_true hlt, Bool.true_and]
    simp only [hslot, forall_eq]
  · have hblocked : s.destBlocked dest = false := by rw [State.destBlocked, decide_eq_false hlt, Bool.false_and]
    exact iff_of_true hblocked fun i hi => absurd (hi ▸ i.isLt) hlt

theorem eligible_iff : Eligible c n s ↔ MayFly s.destBlocked [] (s.queue c) n ∧ (c = .deadline → s.timeValid = true) := by
  constructor
  · rintro ⟨e, he, hflight, hbefore, hblocked, hreleased, hvalid⟩
    exact ⟨⟨e, he, hflight, List.not_mem_nil, hbefore, (destBlocked_iff s e.dest).mpr hblocked, hreleased⟩, hvalid⟩
  · rintro ⟨⟨e, he, hflight, -, hbefore, hblocked, hreleased⟩, hvalid⟩
    exact ⟨e, he, hflight, hbefore, (destBlocked_iff s e.dest).mp hblocked, hreleased, hvalid⟩

theorem cardCandidate_eq (h : c = .deadline → s.timeValid = true) :
    s.cardCandidate c = headCandidate s.destBlocked [] (s.queue c) := by
  cases c with
  | deadline => exact if_pos (h rfl)
  | control => rfl
  | bulk => rfl

theorem cardCandidate_some (h : CardCandidate c n s) : s.cardCandidate c = some n := by
  obtain ⟨heligible, hfirst⟩ := h
  obtain ⟨hmay, hvalid⟩ := eligible_iff.mp heligible
  rw [cardCandidate_eq hvalid]
  exact headCandidate_of_first hmay fun m hm hmay' => hfirst m hm (eligible_iff.mpr ⟨hmay', hvalid⟩)

theorem cardCandidate_none (h : ∀ n, ¬ Eligible c n s) : s.cardCandidate c = none := by
  by_cases hvalid : c = .deadline → s.timeValid = true
  · rw [cardCandidate_eq hvalid]
    exact headCandidate_of_none fun n hmay => h n (eligible_iff.mpr ⟨hmay, hvalid⟩)
  · rw [Classical.not_imp] at hvalid
    obtain ⟨rfl, hinvalid⟩ := hvalid
    exact if_neg hinvalid

theorem eligible_of_cardCandidate (h : s.cardCandidate c = some n) : Eligible c n s := by
  by_cases hvalid : c = .deadline → s.timeValid = true
  · rw [cardCandidate_eq hvalid] at h
    exact eligible_iff.mpr ⟨mayFly_of_headCandidate h, hvalid⟩
  · rw [Classical.not_imp] at hvalid
    obtain ⟨rfl, hinvalid⟩ := hvalid
    have hnone : s.cardCandidate .deadline = none := if_neg hinvalid
    exact absurd (hnone.symm.trans h) nofun

/-! ### The candidate of a class (R28) -/

theorem firstPending_some {pre post : List InternalKind} (hpre : ∀ j, j ∈ pre → s.txs.slots.get j ≠ .pending)
    (hk : s.txs.slots.get k = .pending) : s.firstPending (pre ++ k :: post) = some k := by
  rw [State.firstPending, List.find?_eq_some_iff_append]
  exact ⟨by simp [SlotState.offered, hk], pre, post, rfl, fun j hj => by simpa [SlotState.offered] using hpre j hj⟩

theorem firstPending_none {ks : List InternalKind} (h : ∀ j, j ∈ ks → s.txs.slots.get j ≠ .pending) :
    s.firstPending ks = none :=
  List.find?_eq_none.mpr fun j hj => by simpa [SlotState.offered] using h j hj

theorem firstPending_single (k : InternalKind) : s.firstPending [k] = if s.txs.slots.get k = .pending then some k else none := by
  split
  next h => exact firstPending_some (pre := []) (post := []) (fun _ hj => absurd hj List.not_mem_nil) h
  next h => exact firstPending_none fun j hj => by rwa [List.mem_singleton.mp hj]

section
variable (hstate : s.sec.state = .joined ∨ s.sec.state = .draining)
include hstate

theorem candidateOf_zero : s.candidateOf 0 = (s.firstPending [.sync, .announce]).map .internal := by
  obtain hstate | hstate := hstate <;> simp [State.candidateOf, hstate]

theorem candidateOf_one : s.candidateOf 1 = match s.firstPending [.withdraw, .gone, .join, .ready, .summary] with
    | some k => some (.internal k)
    | none => (s.cardCandidate .control).map (.card .control) := by
  obtain hstate | hstate := hstate <;> simp [State.candidateOf, hstate] <;> rfl

theorem candidateOf_two : s.candidateOf 2 = (s.cardCandidate .deadline).map (.card .deadline) := by
  obtain hstate | hstate := hstate <;> simp [State.candidateOf, hstate]

theorem candidateOf_three : s.candidateOf 3 = (s.cardCandidate .bulk).map (.card .bulk) := by
  obtain hstate | hstate := hstate <;> simp [State.candidateOf, hstate]

theorem candidateOf_more (hn : 4 ≤ n) : s.candidateOf n = none := by
  obtain ⟨m, rfl⟩ := Nat.exists_eq_add_of_le' hn
  obtain hstate | hstate := hstate <;> simp [State.candidateOf, hstate]

end

theorem candidateOf_joining (hstate : s.sec.state = .joining) (cls : Nat) : s.candidateOf cls
    = if cls = 1 ∧ s.txs.slots.join = .pending then some (.internal .join) else none := by
  have hslot : s.txs.slots.get .join = s.txs.slots.join := rfl
  simp only [State.candidateOf, hstate, firstPending_single, hslot]
  by_cases hcls : cls = 1 <;> by_cases hpending : s.txs.slots.join = .pending <;> simp [hcls, hpending]

theorem candidateOf_forced (hstate : s.sec.state = .forced) (cls : Nat) : s.candidateOf cls
    = if cls = 1 ∧ s.txs.slots.gone = .pending then some (.internal .gone) else none := by
  have hslot : s.txs.slots.get .gone = s.txs.slots.gone := rfl
  simp only [State.candidateOf, hstate, firstPending_single, hslot]
  by_cases hcls : cls = 1 <;> by_cases hpending : s.txs.slots.gone = .pending <;> simp [hcls, hpending]

theorem candidateOf_elsewhere (hjoined : s.sec.state ≠ .joined) (hdraining : s.sec.state ≠ .draining)
    (hjoining : s.sec.state ≠ .joining) (hforced : s.sec.state ≠ .forced) (cls : Nat) : s.candidateOf cls = none := by
  cases hstate : s.sec.state with
  | joined => exact absurd hstate hjoined
  | draining => exact absurd hstate hdraining
  | joining => exact absurd hstate hjoining
  | forced => exact absurd hstate hforced
  | _ => simp [State.candidateOf, hstate]

end Sys2Proof.Machine
end

section
/-! The start of a candidate at the own position (R3, R4, R7, R25). -/

namespace Sys2Proof.Machine

open Sys2Proof

variable {s t : State} {c d : CardClass} {k : EdgeDelay} {ik : InternalKind} {n m p : Nat} {e : QueueEntry}
  {q rest : List QueueEntry} {own : Slot} {x : Candidate}

/-! ### The class of a candidate (R28) -/

/-- The class a candidate is sent in. -/
def Candidate.cls : Candidate → Nat
  | .internal k => k.cls.val
  | .card c _ => c.number

theorem candidateOf_cls {cls : Nat} (h : s.candidateOf cls = some x) : x.cls = cls := by
  have hfirst : ∀ ks : List InternalKind, (∀ j, j ∈ ks → j.cls.val = cls) → (s.firstPending ks).map Candidate.internal = some x →
      x.cls = cls := by
    intro ks hks hx
    obtain ⟨j, hj, rfl⟩ := Option.map_eq_some_iff.mp hx
    exact hks j (List.mem_of_find?_eq_some hj)
  have hcard : ∀ c : CardClass, c.number = cls → (s.cardCandidate c).map (Candidate.card c) = some x → x.cls = cls := by
    intro c hc hx
    obtain ⟨j, -, rfl⟩ := Option.map_eq_some_iff.mp hx
    exact hc
  unfold State.candidateOf at h
  split at h
  iterate 2
    next =>
      split at h
      · exact hfirst _ (by simp [InternalKind.cls]) h
      · split at h
        next j hj =>
          obtain rfl := Option.some.inj h
          have hmem := List.mem_of_find?_eq_some hj
          simp only [List.mem_cons, List.not_mem_nil, or_false] at hmem
          obtain rfl | rfl | rfl | rfl | rfl := hmem <;> rfl
        next => exact hcard .control rfl h
      · exact hcard .deadline rfl h
      · exact hcard .bulk rfl h
      · cases h
  · split at h
    next hcls => exact hfirst _ (by simp [InternalKind.cls, hcls]) h
    next => cases h
  · split at h
    next hcls => exact hfirst _ (by simp [InternalKind.cls, hcls]) h
    next => cases h
  all_goals cases h

theorem candidateOf_card {cls : Nat} (h : s.candidateOf cls = some (.card c n)) : Eligible c n s := by
  have hcard : ∀ d : CardClass, (s.cardCandidate d).map (Candidate.card d) = some (.card c n) → Eligible c n s := by
    intro d hd
    obtain ⟨j, hj, hcard⟩ := Option.map_eq_some_iff.mp hd
    cases hcard
    exact eligible_of_cardCandidate hj
  have hfirst : ∀ ks, (s.firstPending ks).map Candidate.internal ≠ some (.card c n) := by
    intro ks hks
    obtain ⟨j, -, hj⟩ := Option.map_eq_some_iff.mp hks
    cases hj
  unfold State.candidateOf at h
  split at h
  iterate 2
    next =>
      split at h
      · exact absurd h (hfirst _)
      · split at h
        · cases h
        · exact hcard .control h
      · exact hcard .deadline h
      · exact hcard .bulk h
      · cases h
  iterate 2
    next =>
      split at h
      · exact absurd h (hfirst _)
      · cases h
  all_goals cases h

/-! ### The entry marked in flight -/

theorem flyAt_getElem (n : Nat) (q : List QueueEntry) (m : Nat) :
    (flyAt n q)[m]? = if m = n then (q[m]?).map (fun e => { e with inFlight := true }) else q[m]? := by
  induction q generalizing n m with
  | nil => cases n <;> simp [flyAt]
  | cons e rest ih =>
    cases n with
    | zero => cases m <;> simp [flyAt]
    | succ n => cases m <;> simp [flyAt, ih]

/-! ### The own position (R3, R4) -/

/-- The state in which a claim position has begun. -/
def atPosition (p : Nat) (s : State) : State := s.setBau (fun b => { b with position := Fin.ofNat 64 p, positionNew := false })

theorem slots_le (z : CabinetSize) : 0 < z.slots ∧ z.slots ≤ 16 := by cases z <;> decide

theorem cabinet_le (s : State) : 0 < s.cabinet ∧ s.cabinet ≤ 16 := by
  unfold State.cabinet
  split
  · exact slots_le _
  · exact slots_le _

theorem nextPosition_val (hp : p = if s.bau.positionNew then 0 else (s.bau.position.val + 1) % (4 * s.cabinet)) :
    s.nextPosition = Fin.ofNat 64 p ∧ s.nextPosition.val = p := by
  obtain ⟨hpos, hle⟩ := cabinet_le s
  subst hp
  unfold State.nextPosition
  split
  · exact ⟨rfl, rfl⟩
  · have hlt : (s.bau.position.val + 1) % (4 * s.cabinet) < 64 :=
      Nat.lt_of_lt_of_le (Nat.mod_lt _ (by omega)) (by omega)
    exact ⟨rfl, by rw [Fin.val_ofNat, Nat.mod_eq_of_lt hlt]⟩

theorem exec_claimPositionBegin (hview : s.bau.view = .claim)
    (hp : p = if s.bau.positionNew then 0 else (s.bau.position.val + 1) % (4 * s.cabinet)) (k : EdgeDelay) :
    exec (.claimPositionBegin k) s = .next (claimPosition p k (atPosition p s)) := by
  obtain ⟨hposition, hval⟩ := nextPosition_val hp
  refine congrArg Host.Outcome.next ?_
  rw [if_pos hview, hval, hposition]
  rfl

theorem rankOf_iff (own : Slot) (p : Nat) (s : State) :
    p % s.cabinet = s.rankOf own ↔ ((own.val : Int) - s.bau.pointer.val) % s.cabinet = (p % s.cabinet : Nat) := by
  obtain ⟨hpos, -⟩ := cabinet_le s
  have hnonneg : 0 ≤ ((own.val : Int) - s.bau.pointer.val) % s.cabinet := Int.emod_nonneg _ (by omega)
  rw [State.rankOf]
  omega

theorem ownPosition_iff (own : Slot) (p : Nat) (s : State) : (atPosition p s).ownPosition own p = true
    ↔ s.sec.drven = true ∧ ((own.val : Int) - s.bau.pointer.val) % s.cabinet = (p % s.cabinet : Nat) := by
  rw [← rankOf_iff, State.ownPosition, Bool.and_eq_true, decide_eq_true_eq]
  rfl

theorem candidateOf_atPosition (p cls : Nat) (s : State) : (atPosition p s).candidateOf cls = s.candidateOf cls := rfl

/-- With no late entry the class-2 position changes nothing before the candidate is looked for (R31). -/
theorem claimPosition_eq (hown : s.ownSlot = some own) (hposition : (atPosition p s).ownPosition own p = true)
    (hlate : ∀ e, e ∈ s.queue .deadline → s.lateNow e = false) (hdrained : LawDrained s) (k : EdgeDelay) :
    claimPosition p k (atPosition p s) = match s.candidateOf (p / s.cabinet) with
      | none => atPosition p s
      | some x => startCandidate x own (s.stamp k) (atPosition p s) := by
  have hsweep : sweepLate (atPosition p s) = atPosition p s := sweepLate_of_none hlate
  have hreport : reportDrained (atPosition p s) = atPosition p s := reportDrained_of_lawDrained hdrained rfl rfl rfl rfl
  have hslot : (atPosition p s).ownSlot = some own := hown
  have hswept : (if p / (atPosition p s).cabinet = 2 then reportDrained (sweepLate (atPosition p s)) else atPosition p s)
      = atPosition p s := by
    rw [hsweep, hreport, ite_self]
  unfold claimPosition
  simp only [hslot, hposition, if_true, hswept]
  rfl

theorem claimPosition_of_not_own (hown : s.ownSlot = some own) (hposition : ¬ (atPosition p s).ownPosition own p = true)
    (k : EdgeDelay) : claimPosition p k (atPosition p s) = atPosition p s := by
  have hslot : (atPosition p s).ownSlot = some own := hown
  unfold claimPosition
  simp only [hslot]
  exact if_neg hposition

/-! ### Starts (R4, R7, R25) -/

/-- The transmission of an internal frame at its start. -/
def internalStart (ik : InternalKind) (own : Slot) (stamp : FullTime) (s : State) : Transmission :=
  { source := .internal ik, cls := ik.cls, slot := own, dest := 31, sequence := 0, due := none,
    body := s.internalBody ik stamp, claimWord := s.bau.tickCount, stamp := stamp, complete := false }

/-- The transmission of a card frame at its start. -/
def cardStart (c : CardClass) (e : QueueEntry) (own : Slot) (stamp : FullTime) (s : State) : Transmission :=
  { source := .card c, cls := Fin.ofNat 4 c.number, slot := own, dest := e.dest, sequence := e.sequence.getD 0, due := e.due,
    body := e.payload, claimWord := s.bau.tickCount, stamp := stamp, complete := false }

theorem startInternal_eq (ik : InternalKind) (own : Slot) (stamp : FullTime) (s : State) : startInternal ik own stamp (atPosition p s)
    = beginFrame (internalStart ik own stamp s) ((atPosition p s).setSlots (s.txs.slots.set ik .inFlight)) := rfl

theorem startCard_eq (he : (s.queue c)[n]? = some e) (own : Slot) (stamp : FullTime) : startCard c n own stamp (atPosition p s)
    = beginFrame (cardStart c e own stamp s) ((atPosition p s).setQueue c (flyAt n (s.queue c))) := by
  have he' : ((atPosition p s).queue c)[n]? = some e := he
  unfold startCard
  simp only [he']
  rfl

theorem beginFrame_fields (x : Transmission) (s : State) : (beginFrame x s).bau.tx = some x ∧ (beginFrame x s).bau.view = .frame
    ∧ (beginFrame x s).bau.position = s.bau.position ∧ (beginFrame x s).txs = s.txs
    ∧ SameOutside [.bau] s (beginFrame x s) := ⟨rfl, rfl, rfl, rfl, by simp [sameOutside_iff, beginFrame, State.setBau]⟩

theorem pairDrive_beginFrame {x : Transmission} (hc : x.complete = false) (h0 : x.driven = 0) (hd : x.differed = false) (s : State) :
    (beginFrame x s).pairDrive = x.drive := by
  obtain ⟨htx, -⟩ := beginFrame_fields x s
  rw [pairDrive_of_sending htx hc, left_of_begun h0 hd]

theorem number_lt (c : CardClass) : (Fin.ofNat 4 c.number).val = c.number := by cases c <;> rfl

/-- Settles O31. -/
theorem claimPositionBegins : Obligations.ClaimPositionBegins := by
  unfold Obligations.ClaimPositionBegins
  refine ⟨fun s => ⟨fun hstate => ?_, candidateOf_joining, candidateOf_forced, candidateOf_elsewhere⟩,
    fun k own p s hview hown hp => ⟨fun hno => ?_, fun hdrven hrank hlate hdrained => ?_⟩⟩
  · have hone := candidateOf_one hstate
    refine ⟨fun hsync => ?_, fun hsync hannounce => ?_, fun hsync hannounce => ?_, fun pre ik post hks hpre hik => ?_,
      fun hnone => ⟨fun n hn => ?_, fun hn => ?_⟩, fun n hn => ?_, fun hn => ?_, fun n hn => ?_, fun hn => ?_⟩
    · have hfirst : s.firstPending [.sync, .announce] = some .sync :=
        firstPending_some (pre := []) (post := [.announce]) (fun _ hj => absurd hj List.not_mem_nil) hsync
      rw [candidateOf_zero hstate, hfirst]
      rfl
    · have hfirst : s.firstPending [.sync, .announce] = some .announce :=
        firstPending_some (pre := [.sync]) (post := []) (fun j hj => by rw [List.mem_singleton.mp hj]; exact hsync) hannounce
      rw [candidateOf_zero hstate, hfirst]
      rfl
    · rw [candidateOf_zero hstate, firstPending_none fun j hj => by
        simp only [List.mem_cons, List.not_mem_nil, or_false] at hj
        obtain rfl | rfl := hj
        · exact hsync
        · exact hannounce]
      rfl
    · rw [hone, hks, firstPending_some hpre hik]
    · rw [hone, firstPending_none hnone, cardCandidate_some hn]
      rfl
    · rw [hone, firstPending_none hnone, cardCandidate_none hn]
      rfl
    · rw [candidateOf_two hstate, cardCandidate_some hn]
      rfl
    · rw [candidateOf_two hstate, cardCandidate_none hn]
      rfl
    · rw [candidateOf_three hstate, cardCandidate_some hn]
      rfl
    · rw [candidateOf_three hstate, cardCandidate_none hn]
      rfl
  · rw [exec_claimPositionBegin hview hp, claimPosition_of_not_own hown (by rwa [ownPosition_iff])]
    rfl
  · have hexec := exec_claimPositionBegin hview hp k
    rw [claimPosition_eq hown ((ownPosition_iff own p s).mpr ⟨hdrven, hrank⟩) hlate hdrained] at hexec
    have hposition : SameOutside [.bau, .txs] s (atPosition p s) := by simp [sameOutside_iff, atPosition, State.setBau]
    refine ⟨fun hnone => ?_, fun ik hsome => ?_, fun c n hsome => ?_⟩
    · rw [hexec, hnone]
      rfl
    · rw [hsome] at hexec
      have hstart : startCandidate (.internal ik) own (s.stamp k) (atPosition p s)
        = beginFrame (internalStart ik own (s.stamp k) s) ((atPosition p s).setSlots (s.txs.slots.set ik .inFlight)) := rfl
      obtain ⟨htx, hview', hplace, htxs, hsame⟩ := beginFrame_fields (internalStart ik own (s.stamp k) s)
        ((atPosition p s).setSlots (s.txs.slots.set ik .inFlight))
      have hdrive := pairDrive_beginFrame (x := internalStart ik own (s.stamp k) s) rfl rfl rfl
        ((atPosition p s).setSlots (s.txs.slots.set ik .inFlight))
      rw [← hstart] at htx hview' hplace htxs hsame hdrive
      have hcls : ik.cls.val = p / s.cabinet := candidateOf_cls hsome
      have hslots : SameOutside [.bau, .txs] (atPosition p s) ((atPosition p s).setSlots (s.txs.slots.set ik .inFlight)) := by
        simp [sameOutside_iff, State.setSlots]
      refine ⟨_, internalStart ik own (s.stamp k) s, hexec, htx, hview', hplace, rfl, hcls, rfl, rfl, rfl, rfl, rfl, rfl, rfl, rfl,
        rfl, rfl, hdrive, ?_, fun j hj => ?_, by rw [htxs]; rfl, ?_⟩
      · rw [htxs]
        exact Slots.get_set _ _ _
      · rw [htxs]
        exact Slots.get_set_ne _ _ hj
      · exact sameOutside_trans hposition (sameOutside_trans hslots (hsame.mono (by simp)))
    · rw [hsome] at hexec
      obtain ⟨e, he, hflight, -, -, hreleased, -⟩ := candidateOf_card hsome
      have hstart : startCandidate (.card c n) own (s.stamp k) (atPosition p s)
        = beginFrame (cardStart c e own (s.stamp k) s) ((atPosition p s).setQueue c (flyAt n (s.queue c))) := startCard_eq he own _
      obtain ⟨htx, hview', hplace, htxs, hsame⟩ := beginFrame_fields (cardStart c e own (s.stamp k) s)
        ((atPosition p s).setQueue c (flyAt n (s.queue c)))
      have hdrive := pairDrive_beginFrame (x := cardStart c e own (s.stamp k) s) rfl rfl rfl
        ((atPosition p s).setQueue c (flyAt n (s.queue c)))
      rw [← hstart] at htx hview' hplace htxs hsame hdrive
      have hcls : (Fin.ofNat 4 c.number).val = p / s.cabinet := (number_lt c).trans (candidateOf_cls hsome)
      have hqueues : SameOutside [.bau, .txs] (atPosition p s) ((atPosition p s).setQueue c (flyAt n (s.queue c))) := by
        simp [sameOutside_iff]
      have hqueue : ∀ d, (startCandidate (.card c n) own (s.stamp k) (atPosition p s)).queue d
          = ((atPosition p s).setQueue c (flyAt n (s.queue c))).queue d := queue_congr (by rw [htxs])
      refine ⟨_, cardStart c e own (s.stamp k) s, e, hexec, htx, he, hflight, hreleased, hview', ?_, rfl, hcls, rfl, rfl, rfl,
        rfl, rfl, rfl, rfl, rfl, rfl, rfl, hdrive, ?_, fun m hm => ?_, fun d hd => ?_, ?_, ?_⟩
      · rw [hplace]
        simp [atPosition, State.setBau]
      · rw [hqueue, State.queue_setQueue, flyAt_getElem, if_pos rfl, he]
        rfl
      · rw [hqueue, State.queue_setQueue, flyAt_getElem, if_neg hm]
      · rw [hqueue, State.queue_setQueue_ne _ _ hd]
        rfl
      · rw [htxs]
        simp [atPosition, State.setBau]
      · exact sameOutside_trans hposition (sameOutside_trans hqueues (hsame.mono (by simp)))

end Sys2Proof.Machine
end

section
/-! What the servo does with one sample, state by state (R94, R115, R117 to R121). -/

namespace Sys2Proof.Machine

open Sys2Proof

variable {s t : State} {e f : Int} {k : AlarmKey} {j : CounterId} {n : Nat}

/-! ### A servo update (R115, R116) -/

theorem servoUpdate_values (e f : Int) (s : State) :
    (servoUpdate e f s).tmu.integral = newIntegral s e f ∧ (servoUpdate e f s).tmu.rate = newRate s e f := by
  unfold servoUpdate countClamp
  split
  · split
    · exact ⟨rfl, rfl⟩
    · dsimp only
      split <;> simp
  · simp

/-- An update raises and clears T4 alone (R116). -/
theorem servoUpdate_isCleared (hne : k ≠ keyT4) (e f : Int) (h : IsCleared k s) : IsCleared k (servoUpdate e f s) := by
  unfold servoUpdate countClamp
  split
  · split
    · exact isCleared_congr rfl h
    · dsimp only
      split
      · exact raiseKey_isCleared hne _ (isCleared_congr rfl h)
      · exact isCleared_congr rfl h
  · exact clearKey_isCleared keyT4 (isCleared_congr rfl h)

theorem within_iff (e : Int) (ns : Nat) : within e ns = true ↔ e.natAbs ≤ 65536 * ns := by
  simp [within, Config.unitsPerNs]

/-! ### The servo in ACQUIRE (R117, R118) -/

theorem enterAcquire_tmu (s : State) : (enterAcquire s).tmu.servo = .acquire ∧ (enterAcquire s).tmu.lockCount = 0
    ∧ (enterAcquire s).tmu.outlierCount = 0 :=
  ⟨setServo_servo _ _, by simp [enterAcquire], by simp [enterAcquire]⟩

/-- The lock count after a sample within the step threshold (R118). -/
def lockCountAfter (e : Int) (s : State) : Nat :=
  if within e s.tmu.settings.lockThreshold then s.tmu.lockCount + 1 else 0

/-- The state once a sample within the step threshold has been counted in ACQUIRE. -/
def lockCounted (e f : Int) (s : State) : State :=
  { servoUpdate e f s with tmu := { (servoUpdate e f s).tmu with lockCount := lockCountAfter e s } }

theorem acquireSample_within (h : within e s.tmu.settings.stepThreshold = true) :
    acquireSample e f s = if lockCountAfter e s = 4 then reachLocked (lockCounted e f s) else lockCounted e f s := by
  have hcount : (servoUpdate e f s).tmu.lockCount = s.tmu.lockCount := by simp
  simp only [acquireSample, h, hcount, if_true]
  rfl

/-- A sample within the step threshold (R115, R118). -/
theorem acquireSample_inStep (h : within e s.tmu.settings.stepThreshold = true) :
    (acquireSample e f s).tmu.time = s.tmu.time ∧ (acquireSample e f s).tmu.integral = newIntegral s e f
      ∧ (acquireSample e f s).tmu.rate = newRate s e f
      ∧ CountersSame [.raisesDropped, .evictions] s (acquireSample e f s)
      ∧ (acquireSample e f s).tmu.lockCount = lockCountAfter e s
      ∧ (lockCountAfter e s ≠ 4 → (acquireSample e f s).tmu.servo = s.tmu.servo
          ∧ (acquireSample e f s).tmu.everLocked = s.tmu.everLocked)
      ∧ (lockCountAfter e s = 4 → (acquireSample e f s).tmu.servo = .locked
          ∧ (acquireSample e f s).tmu.everLocked = true ∧ (acquireSample e f s).tmu.outlierCount = 0) := by
  obtain ⟨hintegral, hrate⟩ := servoUpdate_values e f s
  have hcounters : CountersSame [.raisesDropped, .evictions] s (lockCounted e f s) :=
    (servoUpdate_countersSame e f s).trans (countersSame_of_eq rfl)
  rw [acquireSample_within h]
  split
  next hfour =>
    refine ⟨by simp [lockCounted], by simp [lockCounted, hintegral], by simp [lockCounted, hrate],
      hcounters.trans (countersSame_of_eq (by simp [reachLocked])), by simp [lockCounted], fun hne => absurd hfour hne, fun _ => ?_⟩
    exact ⟨setServo_servo _ _, by simp [reachLocked], by simp [reachLocked]⟩
  next hne =>
    exact ⟨by simp [lockCounted], by simp [lockCounted, hintegral], by simp [lockCounted, hrate], hcounters, rfl,
      fun _ => ⟨by simp [lockCounted], by simp [lockCounted]⟩, fun hfour => absurd hfour hne⟩

theorem acquireSample_beyond (h : within e s.tmu.settings.stepThreshold = false) : acquireSample e f s = stepTime e s :=
  if_neg (Bool.eq_false_iff.mp h)

/-- A step of the counter (R88, R118). -/
theorem stepTime_fields (e : Int) (s : State) : (stepTime e s).tmu = { s.tmu with time := s.tmu.time.add e, lockCount := 0 }
    ∧ (stepTime e s).txs = s.txs ∧ (stepTime e s).alu = s.alu
    ∧ ∀ j, (stepTime e s).counter j = if j = .steps then satAdd (s.counter .steps) 1 else s.counter j :=
  ⟨by simp [stepTime], by simp [stepTime], by simp [stepTime], fun j => counter_bump .steps j _⟩

/-! ### The gate and C2 (R38, R94, R97) -/

/-- ACQUIRE entered from a state in which time was valid purges C2 (R94, R97). -/
theorem setServo_acquire_flying (h : s.timeValid = true) {y : QueueEntry} (hy : y ∈ (setServo .acquire s).queue .deadline) :
    y.inFlight = true := by
  have hservo : s.tmu.servo ≠ .acquire := fun hacquire => by simp [State.timeValid, hacquire, validIn] at h
  have hinvalid : (signal .timeStateChange { s with tmu := { s.tmu with servo := .acquire } }).timeValid = false := by
    simp [State.timeValid, validIn]
  have hshut : setServo .acquire s = shutGate (signal .timeStateChange { s with tmu := { s.tmu with servo := .acquire } }) := by
    rw [setServo, if_neg hservo, reevaluate, hinvalid, h]
    rfl
  rw [hshut, shutGate, purgeTimeLost, purgeQueue_queue, if_pos rfl] at hy
  obtain ⟨y', -, -, hflight, hnamed⟩ := of_mem_keptBy hy
  exact hflight.trans (hnamed rfl)

theorem enterAcquire_flying (h : s.timeValid = true) {y : QueueEntry} (hy : y ∈ (enterAcquire s).queue .deadline) :
    y.inFlight = true :=
  setServo_acquire_flying (s := { s with tmu := { s.tmu with lockCount := 0, outlierCount := 0 } }) h hy

/-! ### FREE and ACQUIRE (R117, R118) -/

/-- The state in which a sample is judged in FREE or ACQUIRE. -/
def acquiring (s : State) : State := if s.tmu.servo = .free then enterAcquire s else s

theorem judgeSample_acquiring (h : s.tmu.servo = .free ∨ s.tmu.servo = .acquire) (e f : Int) :
    judgeSample e f s = acquireSample e f (acquiring s) := by
  obtain h | h := h <;> simp [judgeSample, acquiring, h]

theorem acquiring_fields (h : s.tmu.servo = .free ∨ s.tmu.servo = .acquire) : (acquiring s).tmu.servo = .acquire
    ∧ (acquiring s).tmu.lockCount = (if s.tmu.servo = .free then 0 else s.tmu.lockCount)
    ∧ (acquiring s).tmu.settings = s.tmu.settings ∧ (acquiring s).tmu.time = s.tmu.time
    ∧ (acquiring s).tmu.integral = s.tmu.integral ∧ (acquiring s).tmu.rate = s.tmu.rate
    ∧ (acquiring s).tmu.everLocked = s.tmu.everLocked ∧ (acquiring s).counters = s.counters := by
  obtain ⟨hservo, hlock, -⟩ := enterAcquire_tmu s
  obtain h | h := h
  · simp [acquiring, h, hservo, hlock, enterAcquire_counters]
  · simp [acquiring, h]

/-- A sample beyond the step threshold in FREE or ACQUIRE. -/
theorem judgeSample_acquiring_beyond (h : s.tmu.servo = .free ∨ s.tmu.servo = .acquire)
    (hstep : within e s.tmu.settings.stepThreshold = false) : judgeSample e f s = stepTime e (acquiring s) := by
  obtain ⟨-, -, hsettings, -⟩ := acquiring_fields h
  rw [judgeSample_acquiring h, acquireSample_beyond (by rwa [hsettings])]

/-! ### LOCKED (R119) -/

theorem judgeSample_locked_within (h : s.tmu.servo = .locked) (hstep : within e s.tmu.settings.stepThreshold = true) :
    judgeSample e f s = { servoUpdate e f s with tmu := { (servoUpdate e f s).tmu with outlierCount := 0 } } := by
  simp [judgeSample, h, hstep]

/-- An outlier that has been counted. -/
def outlierCounted (s : State) : State := bump .outliers { s with tmu := { s.tmu with outlierCount := s.tmu.outlierCount + 1 } }

theorem judgeSample_locked_beyond (h : s.tmu.servo = .locked) (hstep : within e s.tmu.settings.stepThreshold = false) :
    judgeSample e f s = if 3 ≤ s.tmu.outlierCount then stepTime e (enterAcquire (outlierCounted s)) else outlierCounted s := by
  have hcount : (outlierCounted s).tmu.outlierCount = s.tmu.outlierCount + 1 := by simp [outlierCounted]
  have hbeyond : acquireSample e f (enterAcquire (outlierCounted s)) = stepTime e (enterAcquire (outlierCounted s)) :=
    acquireSample_beyond (by simpa [outlierCounted] using hstep)
  have hjudged : judgeSample e f s
      = if 4 ≤ (outlierCounted s).tmu.outlierCount then acquireSample e f (enterAcquire (outlierCounted s)) else outlierCounted s := by
    simp only [judgeSample, h, hstep]
    rfl
  rw [hjudged, hbeyond, hcount]
  by_cases hthree : 3 ≤ s.tmu.outlierCount
  · rw [if_pos (by omega), if_pos hthree]
  · rw [if_neg (by omega), if_neg hthree]

/-! ### HOLDOVER (R120, R121) -/

theorem leaveHoldover_fields (hlaw : LawTable s) : (leaveHoldover s).tmu = { s.tmu with holdoverTimer := none }
    ∧ IsCleared keyT2 (leaveHoldover s) ∧ IsCleared keyT3 (leaveHoldover s) := by
  have hT2 : IsCleared keyT2 (clearKey keyT2 s) := isCleared_clearKey hlaw
  have hlaw' : LawTable (clearKey keyT2 s) := clearKey_keeps (l := .table) keyT2 hlaw
  refine ⟨by simp [leaveHoldover], ?_, ?_⟩
  · exact isCleared_congr rfl (clearKey_isCleared keyT3 hT2)
  · exact isCleared_congr rfl (isCleared_clearKey hlaw')

theorem judgeSample_holdover_within (h : s.tmu.servo = .holdover) (hstep : within e s.tmu.settings.stepThreshold = true) :
    judgeSample e f s = { servoUpdate e f (setServo .locked (leaveHoldover s)) with
      tmu := { (servoUpdate e f (setServo .locked (leaveHoldover s))).tmu with outlierCount := 0 } } := by
  simp [judgeSample, h, hstep]

theorem judgeSample_holdover_beyond (h : s.tmu.servo = .holdover) (hstep : within e s.tmu.settings.stepThreshold = false) :
    judgeSample e f s = stepTime e (enterAcquire (leaveHoldover s)) := by
  have hbeyond : acquireSample e f (enterAcquire (leaveHoldover s)) = stepTime e (enterAcquire (leaveHoldover s)) :=
    acquireSample_beyond (by simpa using hstep)
  rw [← hbeyond]
  simp [judgeSample, h, hstep]

end Sys2Proof.Machine
end

section
/-! A SYNC sample in each of the four servo states (R94, R111 to R121). -/

namespace Sys2Proof.Machine

open Sys2Proof

variable {s t : State} {e f : Int} {i own : Slot} {stamp : FullTime}

/-! ### What a sample leaves, whatever the servo state -/

/-- What a servo update leaves: time stands, and integral and rate word take their clamped values (R115). -/
structure ServoUpdated (e f : Int) (s t : State) : Prop where
  time : t.tmu.time = s.tmu.time
  integral : t.tmu.integral = newIntegral s e f
  rate : t.tmu.rate = newRate s e f
  counted : CountersSame [.raisesDropped, .evictions] s t

theorem judgeSample_acquiring_updated (h : s.tmu.servo = .free ∨ s.tmu.servo = .acquire)
    (hstep : within e s.tmu.settings.stepThreshold = true) : ServoUpdated e f s (judgeSample e f s) := by
  obtain ⟨-, -, hsettings, htime, hintegral, -, -, hcounters⟩ := acquiring_fields h
  obtain ⟨htime', hintegral', hrate', hcounters', -⟩ :=
    acquireSample_inStep (s := acquiring s) (e := e) (f := f) (by rwa [hsettings])
  have hnew : newIntegral (acquiring s) e f = newIntegral s e f := by simp only [newIntegral, hintegral, hsettings]
  rw [judgeSample_acquiring h]
  exact ⟨htime'.trans htime, hintegral'.trans hnew, hrate'.trans (by simp only [newRate, hnew, hsettings]),
    (countersSame_of_eq hcounters).trans hcounters'⟩

/-- A sample within the step threshold is a servo update, in every state (R115). -/
theorem judgeSample_updated (hstep : within e s.tmu.settings.stepThreshold = true) :
    ServoUpdated e f s (judgeSample e f s) := by
  cases hservo : s.tmu.servo with
  | free => exact judgeSample_acquiring_updated (.inl hservo) hstep
  | acquire => exact judgeSample_acquiring_updated (.inr hservo) hstep
  | locked =>
    obtain ⟨hintegral, hrate⟩ := servoUpdate_values e f s
    rw [judgeSample_locked_within hservo hstep]
    exact ⟨by simp, hintegral, hrate, (servoUpdate_countersSame e f s).trans (countersSame_of_eq rfl)⟩
  | holdover =>
    obtain ⟨hintegral, hrate⟩ := servoUpdate_values e f (setServo .locked (leaveHoldover s))
    rw [judgeSample_holdover_within hservo hstep]
    refine ⟨by simp, hintegral.trans (by simp [newIntegral]), hrate.trans (by simp [newRate, newIntegral]), ?_⟩
    exact (countersSame_of_eq (by simp)).trans ((servoUpdate_countersSame e f _).trans (countersSame_of_eq rfl))

/-- A sample beyond the step threshold is no servo update (R118, R119). -/
theorem judgeSample_beyond (hstep : within e s.tmu.settings.stepThreshold = false) :
    (judgeSample e f s).tmu.integral = s.tmu.integral ∧ (judgeSample e f s).tmu.rate = s.tmu.rate := by
  by_cases hacquiring : s.tmu.servo = .free ∨ s.tmu.servo = .acquire
  · obtain ⟨-, -, -, -, hintegral, hrate, -⟩ := acquiring_fields hacquiring
    rw [judgeSample_acquiring_beyond hacquiring hstep]
    exact ⟨by simp [hintegral], by simp [hrate]⟩
  · cases hservo : s.tmu.servo with
    | free => exact absurd (.inl hservo) hacquiring
    | acquire => exact absurd (.inr hservo) hacquiring
    | locked =>
      rw [judgeSample_locked_beyond hservo hstep]
      split <;> simp [outlierCounted]
    | holdover =>
      rw [judgeSample_holdover_beyond hservo hstep]
      simp

/-! ### The servo state a sample leaves -/

/-- A sample within the step threshold in FREE or ACQUIRE (R117, R118). -/
theorem judgeSample_acquiring_counts (h : s.tmu.servo = .free ∨ s.tmu.servo = .acquire)
    (hstep : within e s.tmu.settings.stepThreshold = true) :
    (judgeSample e f s).tmu.lockCount = lockCountAfter e (acquiring s)
      ∧ (lockCountAfter e (acquiring s) ≠ 4 → (judgeSample e f s).tmu.servo = .acquire
          ∧ (judgeSample e f s).tmu.everLocked = s.tmu.everLocked)
      ∧ (lockCountAfter e (acquiring s) = 4 → (judgeSample e f s).tmu.servo = .locked
          ∧ (judgeSample e f s).tmu.everLocked = true ∧ (judgeSample e f s).tmu.outlierCount = 0) := by
  obtain ⟨hservo, -, hsettings, -, -, -, hever, -⟩ := acquiring_fields h
  obtain ⟨-, -, -, -, hlock, hbelow, hfour⟩ :=
    acquireSample_inStep (s := acquiring s) (e := e) (f := f) (by rwa [hsettings])
  rw [judgeSample_acquiring h]
  rw [hservo, hever] at hbelow
  exact ⟨hlock, hbelow, hfour⟩

theorem lockCountAfter_acquiring (h : s.tmu.servo = .free ∨ s.tmu.servo = .acquire) :
    lockCountAfter e (acquiring s) = if within e s.tmu.settings.lockThreshold then
      (if s.tmu.servo = .free then 0 else s.tmu.lockCount) + 1 else 0 := by
  obtain ⟨-, hlock, hsettings, -⟩ := acquiring_fields h
  rw [lockCountAfter, hlock, hsettings]

/-- A sample beyond the step threshold in FREE or ACQUIRE: time is stepped (R118). -/
theorem judgeSample_acquiring_steps (h : s.tmu.servo = .free ∨ s.tmu.servo = .acquire)
    (hstep : within e s.tmu.settings.stepThreshold = false) :
    (judgeSample e f s).tmu.servo = .acquire ∧ (judgeSample e f s).tmu.time = s.tmu.time.add e
      ∧ (judgeSample e f s).tmu.lockCount = 0 ∧ Counted .steps s (judgeSample e f s) := by
  obtain ⟨hservo, -, -, htime, -, -, -, hcounters⟩ := acquiring_fields h
  obtain ⟨htmu, -, -, hcounter⟩ := stepTime_fields e (acquiring s)
  rw [judgeSample_acquiring_beyond h hstep, htmu]
  refine ⟨hservo, congrArg (FullTime.add · e) htime, rfl, (hcounter .steps).trans ?_⟩
  rw [if_pos rfl, counter_congr hcounters]

theorem judgeSample_locked_stays (h : s.tmu.servo = .locked) (hstep : within e s.tmu.settings.stepThreshold = true) :
    (judgeSample e f s).tmu.servo = .locked ∧ (judgeSample e f s).tmu.outlierCount = 0 := by
  rw [judgeSample_locked_within h hstep]
  exact ⟨by simp [h], rfl⟩

/-- An outlier that is not the fourth in a row changes nothing (R119). -/
theorem judgeSample_locked_outlier (h : s.tmu.servo = .locked) (hstep : within e s.tmu.settings.stepThreshold = false)
    (hfew : s.tmu.outlierCount < 3) :
    (judgeSample e f s).tmu.servo = .locked ∧ (judgeSample e f s).tmu.time = s.tmu.time
      ∧ (judgeSample e f s).tmu.outlierCount = s.tmu.outlierCount + 1 ∧ Counted .outliers s (judgeSample e f s) := by
  rw [judgeSample_locked_beyond h hstep, if_neg (by omega)]
  exact ⟨by simp [outlierCounted, h], by simp [outlierCounted], by simp [outlierCounted], counter_bump .outliers .outliers _⟩

/-- What entering ACQUIRE from a state with valid time and stepping leaves (R118 to R120). -/
theorem stepTime_enterAcquire (hvalid : s.timeValid = true) (e : Int) :
    (stepTime e (enterAcquire s)).tmu.servo = .acquire ∧ (stepTime e (enterAcquire s)).tmu.time = s.tmu.time.add e
      ∧ (stepTime e (enterAcquire s)).tmu.lockCount = 0 ∧ (stepTime e (enterAcquire s)).tmu.outlierCount = 0
      ∧ (∀ j, (stepTime e (enterAcquire s)).counter j = if j = .steps then satAdd (s.counter .steps) 1 else s.counter j)
      ∧ ∀ y, y ∈ (stepTime e (enterAcquire s)).queue .deadline → y.inFlight = true := by
  obtain ⟨hservo, -, houtlier⟩ := enterAcquire_tmu s
  obtain ⟨htmu, htxs, -, hcounter⟩ := stepTime_fields e (enterAcquire s)
  have hsame : ∀ j, (enterAcquire s).counter j = s.counter j := counter_congr (enterAcquire_counters s)
  rw [htmu]
  refine ⟨hservo, by simp, rfl, houtlier, fun j => ?_, fun y hy => ?_⟩
  · rw [hcounter, hsame, hsame]
  · rw [queue_congr (s := enterAcquire s) (by rw [htxs])] at hy
    exact enterAcquire_flying hvalid hy

/-- The fourth outlier in a row: ACQUIRE is entered, and time is stepped there (R119). -/
theorem judgeSample_locked_reacquires (h : s.tmu.servo = .locked) (hstep : within e s.tmu.settings.stepThreshold = false)
    (hmany : 3 ≤ s.tmu.outlierCount) :
    (judgeSample e f s).tmu.servo = .acquire ∧ (judgeSample e f s).tmu.time = s.tmu.time.add e
      ∧ (judgeSample e f s).tmu.lockCount = 0 ∧ (judgeSample e f s).tmu.outlierCount = 0
      ∧ Counted .outliers s (judgeSample e f s) ∧ Counted .steps s (judgeSample e f s)
      ∧ ∀ y, y ∈ (judgeSample e f s).queue .deadline → y.inFlight = true := by
  have hvalid : (outlierCounted s).timeValid = true := by simp [outlierCounted, State.timeValid, h, validIn]
  have hcounted : ∀ j, (outlierCounted s).counter j = if j = .outliers then satAdd (s.counter .outliers) 1 else s.counter j :=
    fun j => counter_bump .outliers j _
  obtain ⟨hservo, htime, hlock, houtlier, hcounter, hflying⟩ := stepTime_enterAcquire hvalid e
  rw [judgeSample_locked_beyond h hstep, if_pos hmany]
  exact ⟨hservo, htime.trans (by simp [outlierCounted]), hlock, houtlier, by simp [Counted, hcounter, hcounted],
    by simp [Counted, hcounter, hcounted], hflying⟩

/-- A sample in HOLDOVER ends T2 and T3 and stops the holdover timer (R120, R121). -/
theorem judgeSample_holdover_ends (h : s.tmu.servo = .holdover) (hlaw : LawTable s) :
    (judgeSample e f s).tmu.holdoverTimer = none
      ∧ ∀ k, k = keyT2 ∨ k = keyT3 → IsCleared k (judgeSample e f s) := by
  obtain ⟨htmu, hT2, hT3⟩ := leaveHoldover_fields hlaw
  have hleft : ∀ k, k = keyT2 ∨ k = keyT3 → IsCleared k (leaveHoldover s) ∧ k ≠ keyT4 := by
    rintro k (rfl | rfl)
    · exact ⟨hT2, by decide⟩
    · exact ⟨hT3, by decide⟩
  cases hstep : within e s.tmu.settings.stepThreshold with
  | true =>
    rw [judgeSample_holdover_within h hstep]
    refine ⟨by simp [htmu], fun k hk => ?_⟩
    obtain ⟨hcleared, hne⟩ := hleft k hk
    exact isCleared_congr rfl (servoUpdate_isCleared hne e f (isCleared_congr (by simp) hcleared))
  | false =>
    rw [judgeSample_holdover_beyond h hstep]
    refine ⟨by simp [htmu], fun k hk => isCleared_congr (by simp) (hleft k hk).1⟩

theorem judgeSample_holdover_locks (h : s.tmu.servo = .holdover) (hstep : within e s.tmu.settings.stepThreshold = true) :
    (judgeSample e f s).tmu.servo = .locked ∧ (judgeSample e f s).tmu.outlierCount = 0 := by
  rw [judgeSample_holdover_within h hstep]
  exact ⟨by simp [setServo_servo], rfl⟩

theorem judgeSample_holdover_reacquires (h : s.tmu.servo = .holdover)
    (hstep : within e s.tmu.settings.stepThreshold = false) :
    (judgeSample e f s).tmu.servo = .acquire ∧ (judgeSample e f s).tmu.time = s.tmu.time.add e
      ∧ (judgeSample e f s).tmu.lockCount = 0 ∧ (judgeSample e f s).tmu.outlierCount = 0
      ∧ Counted .steps s (judgeSample e f s)
      ∧ ∀ y, y ∈ (judgeSample e f s).queue .deadline → y.inFlight = true := by
  have hvalid : (leaveHoldover s).timeValid = true := by simp [State.timeValid, h, validIn]
  obtain ⟨hservo, htime, hlock, houtlier, hcounter, hflying⟩ := stepTime_enterAcquire hvalid e
  rw [judgeSample_holdover_beyond h hstep]
  refine ⟨hservo, htime.trans (by simp), hlock, houtlier, (hcounter .steps).trans ?_, hflying⟩
  rw [if_pos rfl, counter_congr (leaveHoldover_counters s)]

end Sys2Proof.Machine
end

section
/-! A SYNC taken as a sample (R111 to R113): the whole of its effect. -/

namespace Sys2Proof.Machine

open Sys2Proof

variable {s t : State} {e f : Int} {i own : Slot} {stamp : FullTime} {body : List Byte}

/-- The state in which a sample of a SYNC heard from slot `i` is judged (R111, R113). -/
def sampled (i : Slot) (body : List Byte) (e : Int) (s : State) : State :=
  let heard := heardFrom i .sync body s
  bump .samples { heard with
    src := { heard.src with syncTimeout := some (Config.ms 250) }
    tmu := { heard.tmu with lastError := some (e, .sync) } }

section
variable (i body e s)

theorem sampled_tmu : (sampled i body e s).tmu = { s.tmu with lastError := some (e, .sync) } := by
  obtain ⟨-, -, htmu, -⟩ := heardFrom_frame i .sync body s
  simp [sampled, htmu]

theorem sampled_src : (sampled i body e s).src = { s.src with syncTimeout := some 31250000 } := by
  obtain ⟨-, -, -, hsrc, -⟩ := heardFrom_frame i .sync body s
  simp [sampled, hsrc, Config.ms, Config.ticksPerMs]

theorem sampled_alu : (sampled i body e s).alu = s.alu := by
  obtain ⟨-, -, -, -, -, halu, -⟩ := heardFrom_frame i .sync body s
  simp [sampled, halu]

theorem sampled_bau : (sampled i body e s).bau = heardBus s i := by
  obtain ⟨hbau, -⟩ := heardFrom_frame i .sync body s
  simp [sampled, hbau]

end

theorem sampled_counter (hp : (s.peer i).state = .present) {j : CounterId} (hj : j ≠ .framesHeard) :
    (sampled i body e s).counter j = if j = .samples then satAdd (s.counter .samples) 1 else s.counter j := by
  have hk : FrameKind.sync.plain := ⟨nofun, nofun, nofun⟩
  have hheard : ∀ c : CounterId, c ≠ .framesHeard → (heardFrom i .sync body s).counter c = s.counter c := fun c hc => by
    rw [heardFrom_counter hk (.inl hp), if_neg hc]
  rw [sampled, counter_bump]
  split
  · exact congrArg (satAdd · 1) (hheard .samples nofun)
  · exact hheard j hj

theorem sampled_peer (hp : (s.peer i).state = .present) (j : Slot) :
    (sampled i body e s).peer j = if j = i then (s.peer i).heard else s.peer j := by
  rw [← heardFrom_peer (body := body) (k := .sync) ⟨nofun, nofun, nofun⟩ (.inl hp)]
  simp [sampled, State.peer]

theorem sampled_sameOutside (hp : (s.peer i).state = .present) :
    SameOutside [.bau, .txs, .ptb, .tmu, .src, .alu, .cpt, .counters] s (sampled i body e s) := by
  have hheard := heardFrom_sameOutside (body := body) (k := .sync) ⟨nofun, nofun, nofun⟩ (.inl hp)
  exact sameOutside_trans (hheard.mono (by decide)) (by simp [sameOutside_iff, sampled])

/-- A SYNC of the selected source, heard by a FOLLOWER, is judged as a sample (R111). -/
theorem takeSync_of_selected (hown : s.ownSlot = some own) (hrole : s.src.role = .follower)
    (hsel : s.src.selection = some i) (transmit : Nat) :
    takeSync i transmit stamp (heardFrom i .sync body s)
      = judgeSample (syncError transmit (pathUnits s.tmu.settings own i) stamp) 17592
          (sampled i body (syncError transmit (pathUnits s.tmu.settings own i) stamp) s) := by
  obtain ⟨-, -, htmu, hsrc, -⟩ := heardFrom_frame i .sync body s
  have howns : (heardFrom i .sync body s).ownSlot = some own := (heardFrom_ownSlot i .sync body s).1.trans hown
  have hhere : (heardFrom i .sync body s).src.role = .follower ∧ (heardFrom i .sync body s).src.selection = some i := by
    rw [hsrc]
    exact ⟨hrole, hsel⟩
  rw [takeSync, howns]
  have hsettings : (heardFrom i .sync body s).tmu.settings = s.tmu.settings := by rw [htmu]
  dsimp only
  rw [if_pos hhere, hsettings]
  rfl

theorem exec_syncHeard_of_selected (hh : Hearing s i stamp) (hown : s.ownSlot = some own) (hrole : s.src.role = .follower)
    (hsel : s.src.selection = some i) (hp : (s.peer i).state = .present)
    (he : e = syncError (syncTime body) (pathUnits s.tmu.settings own i) stamp) :
    exec (.syncHeard i body) s = .next (reportDrained (judgeSample e 17592 (sampled i body e s))) := by
  have hk : FrameKind.sync.plain := ⟨nofun, nofun, nofun⟩
  have hframe : hearFrame i .sync body (fun stamp => takeSync i (syncTime body) stamp) s
      = reportDrained (judgeSample e 17592 (sampled i body e s)) := by
    rw [hearFrame_of_stays hk (.inl hp) hh fun t => peerStatesSame_of_ptb (by simp),
      takeSync_of_selected hown hrole hsel, he]
  exact congrArg Host.Outcome.next hframe

/-- The gate after a sample judged by a FOLLOWER is that of the servo state it leaves (R94). -/
theorem gateOpen_judgeSample (hgate : LawGate s) (hrole : s.src.role = .follower) (e f : Int) :
    (judgeSample e f s).tmu.gateOpen = validIn (judgeSample e f s).tmu.servo .follower := by
  have hlaw : LawGate (judgeSample e f s) := judgeSample_keeps (l := .gate) nofun e f hgate
  have hsame : (judgeSample e f s).src.role = .follower := by simp [hrole]
  rw [hlaw, State.timeValid, hsame]

end Sys2Proof.Machine
end

section
/-! A SYNC sample in each of the four servo states (R94, R111 to R121). -/

namespace Sys2Proof.Machine

open Sys2Proof

/-- Settles O21, state by state of the servo, on the state in which the sample is judged. -/
theorem syncSampleUpdatesServo : Obligations.SyncSampleUpdatesServo := by
  unfold Obligations.SyncSampleUpdatesServo
  intro i own body stamp s hh hown hrole hsel hp htable hgate e inStep inLock lock integral
  have htmu := sampled_tmu s e i body
  have hsrc := sampled_src s e i body
  have hcounter := fun j hj => sampled_counter (i := i) (body := body) (e := e) (j := j) hp hj
  have htableAt : LawTable (sampled i body e s) := by rwa [LawTable, sampled_alu]
  have hgateAt : LawGate (sampled i body e s) := by rwa [LawGate, State.timeValid, htmu, hsrc]
  have hopen := gateOpen_judgeSample hgateAt (by rw [hsrc]; exact hrole) e 17592
  have hexec := exec_syncHeard_of_selected (body := body) hh hown hrole hsel hp (e := e) rfl
  have hwithin : inStep ↔ within e (sampled i body e s).tmu.settings.stepThreshold = true := by
    rw [htmu]
    exact (within_iff e _).symm
  have hbeyond : ¬ inStep ↔ within e (sampled i body e s).tmu.settings.stepThreshold = false := by
    rw [hwithin, Bool.not_eq_true]
  have hservo : (sampled i body e s).tmu.servo = s.tmu.servo := by rw [htmu]
  have hfields : (sampled i body e s).tmu.time = s.tmu.time ∧ (sampled i body e s).tmu.integral = s.tmu.integral
      ∧ (sampled i body e s).tmu.rate = s.tmu.rate ∧ (sampled i body e s).tmu.outlierCount = s.tmu.outlierCount
      ∧ (sampled i body e s).tmu.everLocked = s.tmu.everLocked := by simp [htmu]
  obtain ⟨htime, hintegral, hrate, houtlier, hever⟩ := hfields
  have hcounted : ∀ c, c ≠ .framesHeard → c ≠ .samples →
      Counted c (sampled i body e s) (judgeSample e 17592 (sampled i body e s)) →
      Counted c s (reportDrained (judgeSample e 17592 (sampled i body e s))) := fun c hc hc' hjudged => by
    rw [Counted, reportDrained_counter, hjudged, hcounter c hc, if_neg hc']
  have hqueue : (reportDrained (judgeSample e 17592 (sampled i body e s))).queue .deadline
      = (judgeSample e 17592 (sampled i body e s)).queue .deadline := queue_congr (by simp) _
  refine ⟨_, hexec, by simp [htmu], ?_, by simp [hsrc], by simp [sampled_bau], ?_, fun j hj => ?_, by simp [htmu],
    by simp [htmu], by simp [htmu], by simp [htmu], ?_, fun hin => ?_, fun hout => ?_, fun hacquiring => ?_,
    fun hlocked => ?_, fun hholdover => ?_⟩
  · rw [Counted, reportDrained_counter, judgeSample_countersSame _ _ _ _ (by decide), hcounter .samples nofun, if_pos rfl]
  · rw [reportDrained_peer, peer_congr (s := sampled i body e s) (by simp), sampled_peer hp, if_pos rfl]
    rfl
  · rw [reportDrained_peer, peer_congr (s := sampled i body e s) (by simp), sampled_peer hp, if_neg hj]
  · exact sameOutside_trans (sampled_sameOutside (body := body) (e := e) hp) (by simp [sameOutside_iff])
  · obtain ⟨htime', hintegral', hrate', hcounters⟩ := judgeSample_updated (f := 17592) (hwithin.mp hin)
    have hsame : ∀ c : CounterId, c ≠ .framesHeard → c ≠ .samples → c ∉ [CounterId.raisesDropped, .evictions] →
        (judgeSample e 17592 (sampled i body e s)).counter c = s.counter c := fun c hc hc' hlost => by
      rw [hcounters c hlost, hcounter c hc, if_neg hc']
    simp only [reportDrained_frame, reportDrained_counter]
    exact ⟨htime'.trans htime, hintegral'.trans (by simp only [newIntegral, servoTerm, htmu, integral]),
      hrate'.trans (by simp only [newRate, newIntegral, servoTerm, htmu, integral]),
      hsame .steps nofun nofun (by decide), hsame .outliers nofun nofun (by decide)⟩
  · obtain ⟨hintegral', hrate'⟩ := judgeSample_beyond (f := 17592) (hbeyond.mp hout)
    simp only [reportDrained_frame]
    exact ⟨hintegral'.trans hintegral, hrate'.trans hrate⟩
  · rw [← hservo] at hacquiring
    have hcount := lockCountAfter_acquiring (e := e) hacquiring
    have hlock : (if (sampled i body e s).tmu.servo = .free then 0 else (sampled i body e s).tmu.lockCount) = lock := by
      simp only [htmu, lock]
    have hnear : inLock ↔ within e (sampled i body e s).tmu.settings.lockThreshold = true := by
      rw [htmu]
      exact (within_iff e _).symm
    rw [hlock] at hcount
    simp only [reportDrained_frame, hopen]
    refine ⟨fun hin hlk hfew => ?_, fun hin hlk hthree => ?_, fun hin hfar => ?_, fun hout => ?_⟩
    · rw [if_pos (hnear.mp hlk)] at hcount
      obtain ⟨hafter, hbelow, -⟩ := judgeSample_acquiring_counts (f := 17592) hacquiring (hwithin.mp hin)
      obtain ⟨hservo', hever'⟩ := hbelow (by omega)
      exact ⟨hservo', hafter.trans hcount, hever'.trans hever, by rw [hservo']; rfl⟩
    · rw [if_pos (hnear.mp hlk)] at hcount
      obtain ⟨hafter, -, hfour⟩ := judgeSample_acquiring_counts (f := 17592) hacquiring (hwithin.mp hin)
      obtain ⟨hservo', hever', houtlier'⟩ := hfour (by omega)
      exact ⟨hservo', hafter.trans (by omega), hever', houtlier', by rw [hservo']; rfl⟩
    · rw [if_neg fun h => hfar (hnear.mpr h)] at hcount
      obtain ⟨hafter, hbelow, -⟩ := judgeSample_acquiring_counts (f := 17592) hacquiring (hwithin.mp hin)
      obtain ⟨hservo', -⟩ := hbelow (by omega)
      exact ⟨hservo', hafter.trans hcount, by rw [hservo']; rfl⟩
    · obtain ⟨hservo', htime', hlock', hsteps⟩ := judgeSample_acquiring_steps (f := 17592) hacquiring (hbeyond.mp hout)
      exact ⟨hservo', htime'.trans (by rw [htime]), hlock', hcounted .steps nofun nofun hsteps, by rw [hservo']; rfl⟩
  · rw [← hservo] at hlocked
    simp only [reportDrained_frame, hopen, hqueue]
    refine ⟨fun hin => ?_, fun hout hfew => ?_, fun hout hmany => ?_⟩
    · obtain ⟨hservo', houtlier'⟩ := judgeSample_locked_stays (f := 17592) hlocked (hwithin.mp hin)
      exact ⟨hservo', houtlier', by rw [hservo']; rfl⟩
    · obtain ⟨hservo', htime', houtlier', houtliers⟩ :=
        judgeSample_locked_outlier (f := 17592) hlocked (hbeyond.mp hout) (by omega)
      exact ⟨hservo', htime'.trans htime, houtlier'.trans (by rw [houtlier]), hcounted .outliers nofun nofun houtliers,
        by rw [hservo']; rfl⟩
    · obtain ⟨hservo', htime', hlock', houtlier', houtliers, hsteps, hflying⟩ :=
        judgeSample_locked_reacquires (f := 17592) hlocked (hbeyond.mp hout) (by omega)
      exact ⟨hservo', htime'.trans (by rw [htime]), hlock', houtlier', hcounted .outliers nofun nofun houtliers,
        hcounted .steps nofun nofun hsteps, by rw [hservo']; rfl, hflying⟩
  · rw [← hservo] at hholdover
    obtain ⟨htimer, hcleared⟩ := judgeSample_holdover_ends (e := e) (f := 17592) hholdover htableAt
    simp only [reportDrained_frame, hopen, hqueue]
    refine ⟨htimer, fun y hy hkey => hcleared y.key hkey y hy rfl, fun hin => ?_, fun hout => ?_⟩
    · obtain ⟨hservo', houtlier'⟩ := judgeSample_holdover_locks (f := 17592) hholdover (hwithin.mp hin)
      exact ⟨hservo', houtlier', by rw [hservo']; rfl⟩
    · obtain ⟨hservo', htime', hlock', houtlier', hsteps, hflying⟩ :=
        judgeSample_holdover_reacquires (f := 17592) hholdover (hbeyond.mp hout)
      exact ⟨hservo', htime'.trans (by rw [htime]), hlock', houtlier', hcounted .steps nofun nofun hsteps,
        by rw [hservo']; rfl, hflying⟩

end Sys2Proof.Machine
end

section
/-! A frame on the pair and back (R7, R15, R197, R198): the line code, the markers, the header and the check. -/

namespace Sys2Proof.Machine

open Sys2Proof

variable {h : FrameHeader} {word : BitVec 6} {body : List Byte} {n : Nat}

/-! ### The line code (R7, R197) -/

theorem readClaim_drive (bits : List Bool) :
    readClaim ((bits.flatMap driveClaimBit).map Drive.level) = bits.map codeBit := by
  induction bits with
  | nil => rfl
  | cons b bits ih => cases b <;> simpa [driveClaimBit, readClaim, Drive.level, codeBit] using ih

theorem readBits_drive (bits : List Bool) : readBits ((bits.flatMap driveBit).map Drive.level) = bits.map codeBit := by
  induction bits with
  | nil => rfl
  | cons b bits ih => cases b <;> simpa [driveBit, readBits, Drive.level, codeBit] using ih

theorem length_flatMap_driveClaimBit (bits : List Bool) : (bits.flatMap driveClaimBit).length = 4 * bits.length := by
  induction bits with
  | nil => rfl
  | cons b bits ih => cases b <;> simp [driveClaimBit, ih] <;> omega

@[simp] theorem length_claim (h : FrameHeader) (word : BitVec 6) : (h.claim word).length = 12 := by
  simp [FrameHeader.claim, claimBits]

/-- A receiver reads off the pair the halves the sender drove (R197). -/
theorem readActivity_contentDrive (h : FrameHeader) (word : BitVec 6) (body : List Byte) :
    readActivity ((contentDrive h word body).map Drive.level) = cleanActivity h word body := by
  have hlength : (((h.claim word).flatMap driveClaimBit).map Drive.level).length = 48 := by
    rw [List.length_map, length_flatMap_driveClaimBit, length_claim]
  rw [contentDrive, List.map_append, readActivity, List.take_left' hlength, List.drop_left' hlength, readClaim_drive,
    readBits_drive]
  rfl

theorem isMarker_frameDrive (k : EdgeDelay) (h : FrameHeader) (word : BitVec 6) (body : List Byte) :
    PairStart.isMarker { delay := k, levels := false :: (frameDrive h word body).map Drive.level } = true := by
  simp [PairStart.isMarker, frameDrive, startMarker, Drive.level]

/-! ### The activity of a frame sent undisturbed -/

theorem bothDominant_cleanActivity : (cleanActivity h word body).bothDominant = false := by
  simp [Activity.bothDominant, cleanActivity, codeBit, Halves.bothH]

theorem cleanSymbols_cleanActivity : (cleanActivity h word body).cleanSymbols = true := by
  simp [Activity.cleanSymbols, cleanActivity, codeBit, Halves.clean]

theorem bytes_cleanActivity : (cleanActivity h word body).bytes = frameBytes h body := by
  have hfirst : Halves.first ∘ codeBit = id := rfl
  simp [Activity.bytes, cleanActivity, hfirst]

/-- The halves of a coded bit differ, so none of its bytes begins with H for two bit times. -/
theorem endsBefore_cleanActivity (k : Nat) : (cleanActivity h word body).endsBefore k = false := by
  refine decide_eq_false fun hends => ?_
  have hmem : (true, true) ∈ (((cleanActivity h word body).rest.drop (8 * k)).take 2).map (fun x => (x.first, x.second)) := by
    simp [hends]
  obtain ⟨x, hx, hpair⟩ := List.mem_map.mp hmem
  obtain ⟨b, -, rfl⟩ := List.mem_map.mp (List.mem_of_mem_drop (List.mem_of_mem_take hx))
  cases b <;> simp [codeBit] at hpair

theorem length_frameContent (h : FrameHeader) (body : List Byte) :
    (frameContent h body).length = (if h.due.isSome then 10 else 6) + body.length := by
  cases hdue : h.due <;> simp [frameContent, hdue] <;> omega

theorem length_frameBytes (h : FrameHeader) (body : List Byte) :
    (frameBytes h body).length = (frameContent h body).length + 4 := by
  simp [frameBytes, crcBytes]

theorem endRecognised_cleanActivity : (cleanActivity h word body).endRecognised = true := by
  have hlength : (cleanActivity h word body).rest.length = 8 * (frameBytes h body).length := by simp [cleanActivity]
  have hlong : 6 ≤ (frameBytes h body).length := by
    rw [length_frameBytes, length_frameContent]
    split <;> omega
  simp only [Activity.endRecognised, endsBefore_cleanActivity, hlength, Bool.and_eq_true, decide_eq_true_eq]
  exact ⟨⟨by omega, by omega⟩, by simp⟩

/-! ### The claim field -/

theorem claimClass_cleanActivity : (cleanActivity h word body).claimClass = BitVec.ofNat 2 h.cls.val := by
  have hfirst : Halves.first ∘ codeBit = id := rfl
  have hread : ∀ c : BitVec 2, BitVec.ofNat 2 (natOfBits ([1, 0].map c.getLsbD)) = c := by decide
  rw [← hread (BitVec.ofNat 2 h.cls.val)]
  simp [Activity.claimClass, cleanActivity, FrameHeader.claim, claimBits, codeBit]

theorem claimSlot_cleanActivity : (cleanActivity h word body).claimSlot = BitVec.ofNat 4 h.slot.val := by
  have hread : ∀ c : BitVec 4, BitVec.ofNat 4 (natOfBits ([3, 2, 1, 0].map c.getLsbD)) = c := by decide
  rw [← hread (BitVec.ofNat 4 h.slot.val)]
  simp [Activity.claimSlot, cleanActivity, FrameHeader.claim, claimBits, codeBit]

/-! ### Header, body and check read back (R197, R198) -/

theorem frameKindOf_code (k : FrameKind) : frameKindOf k.code = some k := by cases k <;> rfl

/-- The fields that the first four bytes of a frame hold. -/
theorem byteAt_frameBytes (h : FrameHeader) (body : List Byte) :
    byteAt (frameBytes h body) 0 = h.kind.code
      ∧ byteAt (frameBytes h body) 1 = BitVec.ofNat 8 (h.cls.val * 64 + h.slot.val)
      ∧ byteAt (frameBytes h body) 2 = BitVec.ofNat 8 ((if h.due.isSome then 128 else 0) + h.dest.val)
      ∧ byteAt (frameBytes h body) 3 = h.sequence := ⟨rfl, rfl, rfl, rfl⟩

/-- The first four bytes of a frame: kind, class and slot, destination, sequence (R197). -/
def fieldBytes (h : FrameHeader) : List Byte :=
  [h.kind.code, BitVec.ofNat 8 (h.cls.val * 64 + h.slot.val),
    BitVec.ofNat 8 ((if h.due.isSome then 128 else 0) + h.dest.val), h.sequence]

/-- The bytes of the due time in a header (R197). -/
def dueBytes (h : FrameHeader) : List Byte := match h.due with | none => [] | some d => beBytes 4 d.toNat

theorem frameContent_eq (h : FrameHeader) (body : List Byte) :
    frameContent h body = fieldBytes h ++ beBytes 2 body.length ++ dueBytes h ++ body := rfl

theorem frameBytes_eq (h : FrameHeader) (body : List Byte) : frameBytes h body
    = fieldBytes h ++ beBytes 2 body.length ++ (dueBytes h ++ (body ++ crcBytes (frameContent h body))) := by
  rw [frameBytes, frameContent_eq]
  simp only [List.append_assoc]

theorem dueBit (h : FrameHeader) :
    (BitVec.ofNat 8 ((if h.due.isSome then 128 else 0) + h.dest.val)).getLsbD 7 = h.due.isSome := by
  have hbit : ∀ d : Dest, (BitVec.ofNat 8 (128 + d.val)).getLsbD 7 = true ∧ (BitVec.ofNat 8 d.val).getLsbD 7 = false := by
    decide
  cases hdue : h.due with
  | none => simpa using (hbit h.dest).2
  | some d => simpa using (hbit h.dest).1

theorem headerLength_frameBytes (h : FrameHeader) (body : List Byte) :
    headerLength (frameBytes h body) = if h.due.isSome then 10 else 6 := by
  obtain ⟨-, -, hthird, -⟩ := byteAt_frameBytes h body
  rw [headerLength, hthird, dueBit]

theorem readHeader_frameBytes (h : FrameHeader) (body : List Byte) : readHeader (frameBytes h body) = some h := by
  obtain ⟨hkind, hfirst, hdest, hsequence⟩ := byteAt_frameBytes h body
  have hcls : Fin.ofNat 4 ((BitVec.ofNat 8 (h.cls.val * 64 + h.slot.val)).toNat / 64) = h.cls := by
    refine Fin.ext ?_
    simp only [Fin.ofNat, BitVec.toNat_ofNat]
    omega
  have hslot : Fin.ofNat 16 (BitVec.ofNat 8 (h.cls.val * 64 + h.slot.val)).toNat = h.slot := by
    refine Fin.ext ?_
    simp only [Fin.ofNat, BitVec.toNat_ofNat]
    omega
  have hdest' : Fin.ofNat 32 (BitVec.ofNat 8 ((if h.due.isSome then 128 else 0) + h.dest.val)).toNat = h.dest := by
    refine Fin.ext ?_
    simp only [Fin.ofNat, BitVec.toNat_ofNat]
    split <;> omega
  have hdue : (if h.due.isSome then some (BitVec.ofNat 32 (numAt (frameBytes h body) 6 4)) else none) = h.due := by
    cases hd : h.due with
    | none => rfl
    | some d =>
      have hnum : numAt (frameBytes h body) 6 4 = d.toNat :=
        numAt_of_eq (before := fieldBytes h ++ beBytes 2 body.length) (after := body ++ crcBytes (frameContent h body))
          (by simp [frameBytes_eq, dueBytes, hd]) (by simp [fieldBytes]) d.isLt
      simp [hnum]
  rw [readHeader, hkind, frameKindOf_code]
  simp only [hfirst, hdest, hsequence, hcls, hslot, hdest', dueBit, hdue]

theorem checkedPart_frameBytes (h : FrameHeader) (body : List Byte) : checkedPart (frameBytes h body) = frameContent h body := by
  rw [checkedPart, length_frameBytes, frameBytes]
  exact List.take_left' (by simp)

theorem readBody_frameBytes (h : FrameHeader) (body : List Byte) : readBody (frameBytes h body) = body := by
  rw [readBody, checkedPart_frameBytes, headerLength_frameBytes]
  cases hdue : h.due <;> simp [frameContent, hdue, beBytes]

theorem numAt_length_frameBytes (hbody : body.length ≤ 1024) : numAt (frameBytes h body) 4 2 = body.length :=
  numAt_of_eq (frameBytes_eq h body) rfl (by omega)

theorem failsCheck_frameBytes (h : FrameHeader) (body : List Byte) : failsCheck (frameBytes h body) = false := by
  have hnum : numAt (frameBytes h body) ((frameBytes h body).length - 4) 4 = (crc32 (frameContent h body)).toNat :=
    numAt_of_eq (before := frameContent h body) (after := []) (by simp [frameBytes, crcBytes]) (by simp [length_frameBytes])
      (crc32 (frameContent h body)).isLt
  rw [failsCheck, hnum, checkedPart_frameBytes]
  simp

theorem violatesCode_cleanActivity (hclass : h.kind.allowsClass h.cls.val = true) (hbody : body.length ≤ 1024) :
    violatesCode (cleanActivity h word body) = false := by
  have hlength : (frameBytes h body).length = headerLength (frameBytes h body) + numAt (frameBytes h body) 4 2 + 4 := by
    rw [length_frameBytes, length_frameContent, headerLength_frameBytes, numAt_length_frameBytes hbody]
  rw [violatesCode, bytes_cleanActivity, readHeader_frameBytes, claimClass_cleanActivity, claimSlot_cleanActivity]
  simp [hlength.symm, hclass]

/-- Settles O17. -/
theorem frameBytesReadBack : Obligations.FrameBytesReadBack := by
  unfold Obligations.FrameBytesReadBack
  intro n h word body hclass hslot hbody
  refine ⟨fun k => isMarker_frameDrive k h word body, readActivity_contentDrive h word body, endRecognised_cleanActivity,
    bytes_cleanActivity, ?_, readHeader_frameBytes h body, readBody_frameBytes h body⟩
  rw [judgeActivity, bothDominant_cleanActivity, cleanSymbols_cleanActivity, violatesCode_cleanActivity hclass hbody,
    bytes_cleanActivity, failsCheck_frameBytes, readHeader_frameBytes]
  simp [hslot]

end Sys2Proof.Machine
end

section
/-! The start record read (R192, R193): the items one by one, and the outcomes of a load. -/

namespace Sys2Proof.Machine

open Sys2Proof

variable {v w rest : List Byte} {g : RecordImage} {n : Nat}

/-! ### The items up to the terminator (R192) -/

/-- An item's bytes: number, length, value (spec 11.4). -/
def itemOf (number : Byte) (v : List Byte) : List Byte := [number, BitVec.ofNat 8 v.length] ++ v

theorem length_itemOf (number : Byte) (v : List Byte) : (itemOf number v).length = v.length + 2 := by simp [itemOf]

theorem readItems_item (fuel : Nat) (number : Byte) (hv : 1 ≤ v.length ∧ v.length ≤ 255) :
    readItems (fuel + 1) (itemOf number v ++ rest) g = readItems fuel rest (takeItem number.toNat v g) := by
  obtain ⟨hone, hmax⟩ := hv
  have hlength : (BitVec.ofNat 8 v.length).toNat = v.length := by
    rw [BitVec.toNat_ofNat]
    omega
  have hlong : ¬ (v ++ rest).length < v.length := by simp
  simp only [itemOf, List.cons_append, List.nil_append, readItems, hlength]
  rw [if_neg (by omega), if_neg hlong, List.drop_left, List.take_left]

theorem readItems_terminator (fuel : Nat) (number : Byte) : readItems (fuel + 1) (number :: 0 :: rest) g = some g := by
  simp [readItems]

/-- An item whose value does not end within the bytes is not taken (R192). -/
theorem readItems_cut (fuel : Nat) (number : Byte) (hn : n ≤ 255) (hshort : v.length < n) :
    readItems (fuel + 1) (number :: BitVec.ofNat 8 n :: v) g = none := by
  have hlength : (BitVec.ofNat 8 n).toNat = n := by
    rw [BitVec.toNat_ofNat]
    omega
  simp only [readItems, hlength]
  rw [if_neg (by omega), if_pos hshort]

/-! ### The outcome of a load (R192) -/

/-- A memory that acknowledged everything it was sent. -/
def answering (bytes : List Byte) : MemoryAnswer :=
  { ackWrite := true, ackHigh := true, ackLow := true, ackRead := true, bytes := bytes }

theorem judgeRecord_noAnswer_iff (m : MemoryAnswer) : judgeRecord m = .noAnswer ↔ m.answered = false := by
  unfold judgeRecord
  split
  next h =>
    simp only [h, Bool.true_eq_false, iff_false]
    split
    · split <;> nofun
    · nofun
  next h => simpa using h

theorem judgeRecord_badMarker {bytes : List Byte} (h : bytes.take 2 ≠ [0xD5, 0x1C]) :
    judgeRecord (answering bytes) = .badMarker := by
  have hanswered : (answering bytes).answered = true := rfl
  rw [judgeRecord, if_pos hanswered]
  split
  next rest hread =>
    have htake : bytes.take 2 = ((answering bytes).bytes.take Config.recordLimit).take 2 := by
      rw [List.take_take]
      rfl
    exact absurd (htake.trans (by rw [hread]; rfl)) h
  next => rfl

/-- The outcome that the items give: a record, or no terminator within the bytes (R192). -/
def outcomeOf : Option RecordImage → LoadOutcome
  | some g => .record g
  | none => .noTerminator

/-- What the items say of a load whose bytes begin with the marker. -/
theorem judgeRecord_marked (items : List Byte) :
    judgeRecord (answering ([0xD5, 0x1C] ++ items)) = outcomeOf (readItems 512 (items.take 510) .empty) := rfl

/-- A load of whole items with their terminator. -/
theorem judgeRecord_items {items : List Byte} (hlength : items.length ≤ 508)
    (hread : readItems 512 (items ++ [0, 0]) .empty = some g) :
    judgeRecord (answering ([0xD5, 0x1C] ++ items ++ [0, 0])) = .record g := by
  rw [List.append_assoc, judgeRecord_marked, List.take_of_length_le (by simp; omega), hread, outcomeOf]

/-- One item and the terminator. -/
theorem judgeRecord_item (number : Byte) (hv : 1 ≤ v.length ∧ v.length ≤ 255) :
    judgeRecord (answering ([0xD5, 0x1C] ++ itemOf number v ++ [0, 0])) = .record (takeItem number.toNat v .empty) := by
  refine judgeRecord_items (by rw [length_itemOf]; omega) ?_
  rw [readItems_item 511 number hv, readItems_terminator 510 0]

/-- Two items and the terminator. -/
theorem judgeRecord_items_two (number : Byte) (hv : 1 ≤ v.length ∧ v.length ≤ 10) (hw : 1 ≤ w.length ∧ w.length ≤ 255) :
    judgeRecord (answering ([0xD5, 0x1C] ++ (itemOf number v ++ itemOf number w) ++ [0, 0]))
      = .record (takeItem number.toNat w (takeItem number.toNat v .empty)) := by
  refine judgeRecord_items (by simp only [List.length_append, length_itemOf]; omega) ?_
  rw [List.append_assoc, readItems_item 511 number ⟨hv.1, by omega⟩, readItems_item 510 number hw, readItems_terminator 509 0]

/-! ### Which items are taken (R193) -/

/-- The table of item lengths, item 0 standing for none. -/
def lengthTable : List Nat := [0, 1, 1, 1, 2, 1, 1, 4, 2, 4, 1, 2, 1, 6, 6, 5, 5, 5, 5, 5, 5, 5, 5, 10]

theorem itemLength_eq (number : Byte) :
    itemLength number.toNat = if number = 0 then none else lengthTable[number.toNat]? := by
  revert number
  decide

theorem lengthTable_le {l : Nat} (number : Byte) (h : lengthTable[number.toNat]? = some l) : l ≤ 10 := by
  have hall : ∀ x ∈ lengthTable, x ≤ 10 := by decide
  exact hall l (List.mem_of_getElem? h)

theorem takeItem_skipped {l : Option Nat} (h : itemLength n = l) (hv : l ≠ some v.length) : takeItem n v g = g :=
  if_neg (h ▸ hv)

theorem takeItem_of_length (h : itemLength n = some v.length) : takeItem n v g = acceptItem n v g := if_pos h

theorem acceptItem_input (i : Fin 8) (v : List Byte) (g : RecordImage) :
    acceptItem (15 + i.val) v g = { g with inputs := g.inputs.set i.val (some (readInput v)) i.isLt } :=
  forall_fin_eight
    (P := fun i => acceptItem (15 + i.val) v g = { g with inputs := g.inputs.set i.val (some (readInput v)) i.isLt })
    ⟨rfl, rfl, rfl, rfl, rfl, rfl, rfl, rfl⟩ i

/-- Of two accepted items of a number the later stands (R193). -/
theorem acceptItem_acceptItem (n : Nat) (v w : List Byte) (g : RecordImage) :
    acceptItem n w (acceptItem n v g) = acceptItem n w g := by
  by_cases hinput : 15 ≤ n ∧ n ≤ 22
  · obtain ⟨i, rfl⟩ : ∃ i : Fin 8, n = 15 + i.val := ⟨⟨n - 15, by omega⟩, by simp; omega⟩
    simp [acceptItem_input]
  · unfold acceptItem
    split <;> simp [hinput]

end Sys2Proof.Machine
end

section
/-! The fields of the start record's items (R193, spec 11.4): numbers, clamps, strobes, inputs and the event map. -/

namespace Sys2Proof.Machine

open Sys2Proof

/-! ### Numbers and clamps -/

theorem numAt_one (v : List Byte) (i : Nat) : numAt v i 1 = (byteAt v i).toNat := by
  have htake : (v.drop i ++ List.replicate 1 0).take 1 = [byteAt v i] := by
    cases hdrop : v.drop i with
    | nil => simp [byteAt, List.getD_eq_getElem?_getD, List.getElem?_eq_none (List.drop_eq_nil_iff.mp hdrop)]
    | cons b more =>
      have hat : v[i]? = some b := by simpa using congrArg List.head? hdrop
      simp [byteAt, List.getD_eq_getElem?_getD, hat]
  rw [numAt, htake]
  simp [beNat]

theorem numAt_two (a b : Byte) (rest : List Byte) : numAt (a :: b :: rest) 0 2 = 256 * a.toNat + b.toNat := by
  simp [numAt, beNat]

theorem numAt_four (a b c d : Byte) (rest : List Byte) :
    numAt (a :: b :: c :: d :: rest) 0 4 = 16777216 * a.toNat + 65536 * b.toNat + (256 * c.toNat + d.toNat) := by
  simp only [numAt, beNat, List.drop_zero, List.cons_append, List.take_succ_cons, List.take_zero, List.foldl_cons, List.foldl_nil]
  omega

theorem clampTo_zero (hi n : Nat) : clampTo 0 hi n = min hi n := Nat.max_eq_right (Nat.zero_le _)

/-- A field with two values takes any byte but 0 as 1. -/
theorem clampTo_flag (b : Byte) : decide (clampTo 0 1 b.toNat = 1) = decide (b ≠ 0) := by
  revert b
  decide

theorem clampTo_width (b : Byte) : clampTo 1 255 b.toNat = max 1 b.toNat := by
  rw [clampTo, Nat.min_eq_right (by have := b.isLt; omega)]

/-- The low bit of a number in sixteen bits cleared. -/
theorem ofNat_and_even (x : Nat) : BitVec.ofNat 16 x &&& 0xFFFE = BitVec.ofNat 16 (x / 2 * 2) := by
  refine BitVec.eq_of_getLsbD_eq fun i hi => ?_
  have hmask : ∀ j : Fin 15, (0xFFFE : BitVec 16).getLsbD (j.val + 1) = true := by decide
  have hlow : (0xFFFE : BitVec 16).getLsbD 0 = false := by decide
  rw [BitVec.getLsbD_and, BitVec.getLsbD_ofNat, BitVec.getLsbD_ofNat]
  cases i with
  | zero => simp only [hlow, Nat.testBit_zero, Nat.mul_mod_left, Bool.and_false, Nat.zero_ne_one, decide_false]
  | succ i =>
    have hbit : (0xFFFE : BitVec 16).getLsbD (i + 1) = true := hmask ⟨i, by omega⟩
    simp only [hbit, Nat.testBit_succ, Nat.mul_div_cancel _ Nat.two_pos, Bool.and_true]

/-! ### Strobes, inputs, the event map (spec 11.4) -/

theorem periodNs_clamped (p : Byte) : periodNs (Fin.ofNat 8 (clampTo 0 7 p.toNat))
    = [1000000000, 100000000, 10000000, 5000000, 2000000, 1000000, 500000, 250000].getD p.toNat 250000 := by
  revert p
  decide

theorem readStrobe_eq (p a b c d w : Byte) : readStrobe [p, a, b, c, d, w] = {
    period := Fin.ofNat 8 (min 7 p.toNat), width := max 1 w.toNat
    offset := (16777216 * a.toNat + 65536 * b.toNat + (256 * c.toNat + d.toNat))
      % [1000000000, 100000000, 10000000, 5000000, 2000000, 1000000, 500000, 250000].getD p.toNat 250000 } := by
  have hperiod : numAt [p, a, b, c, d, w] 0 1 = p.toNat := numAt_one _ 0
  have hoffset : numAt [p, a, b, c, d, w] 1 4 = numAt [a, b, c, d, w] 0 4 := rfl
  have hwidth : numAt [p, a, b, c, d, w] 5 1 = w.toNat := numAt_one _ 5
  simp only [readStrobe, hperiod, hoffset, hwidth, numAt_four, periodNs_clamped, clampTo_width]
  simp only [clampTo_zero]

theorem readInput_severity (m p l v d : Byte) : (readInput [m, p, l, v, d]).severity
    = if v.toNat ≤ 1 then .warning else if v.toNat = 2 then .minor else if v.toNat = 3 then .major else .critical := by
  have hall : ∀ x : Byte, (readInput [0, 0, 0, x, 0]).severity
      = if x.toNat ≤ 1 then .warning else if x.toNat = 2 then .minor else if x.toNat = 3 then .major else .critical := by
    decide
  exact hall v

theorem readInput_eq (m p l v d : Byte) : readInput [m, p, l, v, d] = {
    masked := decide (m ≠ 0), activeHigh := decide (p ≠ 0), latched := decide (l ≠ 0)
    severity := if v.toNat ≤ 1 then .warning else if v.toNat = 2 then .minor else if v.toNat = 3 then .major else .critical
    debounceMs := max 1 d.toNat } := by
  have hbyte : ∀ i, numAt [m, p, l, v, d] i 1 = (byteAt [m, p, l, v, d] i).toNat := numAt_one _
  have hat : byteAt [m, p, l, v, d] 0 = m ∧ byteAt [m, p, l, v, d] 1 = p ∧ byteAt [m, p, l, v, d] 2 = l
      ∧ byteAt [m, p, l, v, d] 3 = v ∧ byteAt [m, p, l, v, d] 4 = d := ⟨rfl, rfl, rfl, rfl, rfl⟩
  obtain ⟨hm, hp, hl, hv, hd⟩ := hat
  rw [← readInput_severity m p l v d]
  simp only [readInput, hbyte, hm, hp, hl, hv, hd, clampTo_flag, clampTo_width]

theorem lineOfCode_eq (b : Byte) : lineOfCode b = if b = 0 then .off else if b = 1 then .attention else .urgent := by
  revert b
  decide

theorem readEventMap_get (v : List Byte) (i : Fin 10) :
    (readEventMap v)[i] = if v.getD i.val 0 = 0 then .off else if v.getD i.val 0 = 1 then .attention else .urgent := by
  rw [← lineOfCode_eq]
  simp [readEventMap, byteAt]

end Sys2Proof.Machine
end

section
/-! The settings that a completed load hands to the strobes and the alarm inputs, and what the entry into LISTENING leaves
of them (R194, R137). -/

namespace Sys2Proof.Machine

open Sys2Proof

variable {g : RecordImage} {s t : State}

/-- An alarm input that has taken its settings: level and cause start afresh (R154). -/
def InputTaken (g : RecordImage) (n : Fin 8) (s : State) : Prop :=
  (s.input n).settings = g.input n ∧ (s.input n).asserted = false ∧ (s.input n).cause = false

/-- The strobes and the alarm inputs hold the settings of an image (R194). -/
structure Configured (g : RecordImage) (s : State) : Prop where
  sta : s.tmu.sta.settings = g.sta.getD .staDefault
  stb : s.tmu.stb.settings = g.stb.getD .stbDefault
  inputs : ∀ n, InputTaken g n s

theorem configured_congr (htmu : t.tmu.sta.settings = s.tmu.sta.settings ∧ t.tmu.stb.settings = s.tmu.stb.settings)
    (hinputs : t.alu.inputs = s.alu.inputs) (h : Configured g s) : Configured g t := by
  obtain ⟨hsta, hstb, htaken⟩ := h
  have hinput : ∀ n, t.input n = s.input n := fun n => by rw [State.input, State.input, hinputs]
  exact ⟨htmu.1.trans hsta, htmu.2.trans hstb, fun n => by simpa only [InputTaken, hinput] using htaken n⟩

/-! ### Alarm keys: a raise can end an input's cause, and takes no settings (R162) -/

theorem setCause_configured (n : Fin 8) (h : Configured g s) : Configured g (setCause n false s) := by
  obtain ⟨hsta, hstb, htaken⟩ := h
  refine ⟨hsta, hstb, fun m => ?_⟩
  by_cases hm : m = n
  · subst hm
    obtain ⟨hsettings, hasserted, -⟩ := htaken m
    simp [InputTaken, setCause, hsettings, hasserted]
  · have hsame : (setCause n false s).input m = s.input m := State.input_setInput_ne s _ hm
    simpa only [InputTaken, hsame] using htaken m

theorem evictCause_configured (e : AlarmEntry) (h : Configured g s) : Configured g (evictCause e s) := by
  unfold evictCause
  split
  · exact h
  · split
    · split
      · exact setCause_configured _ h
      · exact configured_congr (by simp) (by simp) h
    · exact configured_congr (by simp) (by simp) h

theorem raiseKey_configured (k : AlarmKey) (v : Severity) (h : Configured g s) : Configured g (raiseKey k v s) := by
  by_cases hmark : k ∈ s.alu.suppressed
  · simpa [raiseKey, hmark] using h
  refine raiseKey_cases hmark (Configured g) (fun e hfind => ?_) (fun _ => ?_) (fun e _ _ => ?_) fun hnone hfull hvictim => ?_
  · exact configured_congr (by simp) (raiseKey_table_of_entry hmark hfind).1 h
  · exact configured_congr (by simp) (by simp) h
  · have hbumped : Configured g (bump .evictions s) := configured_congr (by simp) (by simp) h
    exact configured_congr (by simp) (by simp) (evictCause_configured e hbumped)
  · obtain ⟨-, -, -, hinputs, -⟩ := raiseKey_dropped_fields hmark hnone hfull hvictim
    exact configured_congr (by simp) hinputs h

theorem raiseInternal_configured (k : AlarmKey) (h : Configured g s) : Configured g (raiseInternal k s) :=
  raiseKey_configured k _ h

/-! ### A card entry returned to its place (R10, R31, R32) -/

theorem retireLate_configured (e : QueueEntry) (h : Configured g s) : Configured g (retireLate e s) := by
  have hretired : Configured g (bump .late (appendResults [e.result .late] (freeUnits e.units s))) :=
    configured_congr (by simp) (by simp) h
  exact configured_congr (by exact ⟨rfl, rfl⟩) (by rfl) (raiseInternal_configured keyX3 hretired)

theorem retireAll_configured (l : List QueueEntry) (h : Configured g s) : Configured g (retireAll l s) := by
  induction l generalizing s with
  | nil => exact h
  | cons e rest ih => exact ih (retireLate_configured e h)

theorem returnFlight_configured (c : CardClass) (n : Nat) (h : Configured g s) : Configured g (returnFlight c n s) := by
  have hset : ∀ (u : State) (q : List QueueEntry), Configured g u → Configured g (u.setQueue c q) := fun u q hu =>
    configured_congr (by simp) (by simp) hu
  cases c with
  | deadline => exact retireAll_configured _ (hset _ _ (hset _ _ h))
  | control | bulk => exact hset _ _ h

/-- An own frame cut: its entry returns to its place, or leaves by its mark (R9, R10). -/
theorem lostOutcome_cut_configured (x : Transmission) (h : Configured g s) : Configured g (lostOutcome x .cut s) := by
  unfold lostOutcome cardOutcome
  split
  · split
    · exact h
    · split
      · exact configured_congr (by simp) (by simp) h
      · split
        · exact configured_congr (by simp) (by simp) h
        · split
          · exact configured_congr (by simp [outcomeMarked]) (by simp [outcomeMarked]) h
          · exact returnFlight_configured _ _ h
  · exact configured_congr (by simp) (by simp) h

theorem enterBus_listening_configured (h : Configured g s) : Configured g (enterBus .listening s) := by
  have hcut : Configured g (enterCut .listening s) := by
    unfold enterCut
    split
    · split
      · exact lostOutcome_cut_configured _ (configured_congr (by simp) (by simp) h)
      · exact h
    · exact h
  exact configured_congr (by simp [enterBus, takesPart]) (by simp [enterBus, takesPart]) hcut

/-! ### The source table emptied (R100, R107, R108) -/

theorem reevaluate_strobes (before : Bool) (s : State) : (reevaluate before s).tmu.sta.settings = s.tmu.sta.settings
    ∧ (reevaluate before s).tmu.stb.settings = s.tmu.stb.settings := by
  unfold reevaluate
  split
  · exact ⟨rfl, rfl⟩
  · split <;> simp [shutGate, StrobeGen.low]

theorem setServo_configured (v : Servo) (h : Configured g s) : Configured g (setServo v s) := by
  refine configured_congr ?_ (by simp) h
  unfold setServo
  split
  · exact ⟨rfl, rfl⟩
  · simp [reevaluate_strobes]

theorem setRole_configured (r : Role) (h : Configured g s) : Configured g (setRole r s) := by
  refine configured_congr ?_ (by simp) h
  unfold setRole
  split
  · exact ⟨rfl, rfl⟩
  · simp [reevaluate_strobes]

theorem loseSource_configured (h : Configured g s) : Configured g (loseSource s) := by
  have hholdover : Configured g (enterHoldover s) := by
    have hrate : Configured g { s with tmu := { s.tmu with rate := s.tmu.integral, outlierCount := 0 } } :=
      configured_congr (s := s) ⟨rfl, rfl⟩ rfl h
    exact configured_congr (by exact ⟨rfl, rfl⟩) (by rfl) (raiseInternal_configured keyT2 (setServo_configured .holdover hrate))
  unfold loseSource
  split
  · exact hholdover
  · split
    · exact hholdover
    · exact setServo_configured .free h
  · exact h
  · exact h

theorem judgeSourceLost_configured (h : Configured g s) : Configured g (judgeSourceLost s) := by
  unfold judgeSourceLost
  dsimp only
  split
  · exact h
  · split
    · exact raiseInternal_configured keyT1 (configured_congr (s := s) ⟨rfl, rfl⟩ rfl h)
    · exact configured_congr (by simp) (by simp) h

theorem clearSources_configured (h : Configured g s) : Configured g (clearSources s) := by
  unfold clearSources runSelection selectSource changeSelection
  dsimp only
  split
  · exact judgeSourceLost_configured (configured_congr (s := s) ⟨rfl, rfl⟩ rfl h)
  · split
    · exact judgeSourceLost_configured (loseSource_configured (setRole_configured _ (configured_congr (by simp) (by simp) h)))
    · exact judgeSourceLost_configured (setRole_configured _ (configured_congr (by simp) (by simp) h))

/-- The entry into LISTENING takes no settings (R137). -/
theorem enterListening_configured (h : Configured g s) : Configured g (enterListening s) := by
  have hslots : Configured g (enterSlots .listening (enterQueues .listening (enterBase .listening s))) :=
    configured_congr (by simp) (by simp [enterSlots, enterQueues, purgesOn, enterBase]) h
  have hpeers : Configured g (enterPeers .listening (enterPool .listening (enterBus .listening
      (enterSlots .listening (enterQueues .listening (enterBase .listening s)))))) :=
    configured_congr (by simp) (by simp) (enterBus_listening_configured hslots)
  have hstate : Configured g (enterState .listening s) := by
    rw [enterState]
    exact configured_congr (by simp [enterSources]) (by simp [enterSources]) (clearSources_configured hpeers)
  exact configured_congr (by simp [enterListening, State.setSec, clearCauses])
    (by simp [enterListening, State.setSec, clearCauses]) hstate

end Sys2Proof.Machine
end

section
/-! The completion of a load (R136, R192 to R195): the hand-on of the image, the entry into LISTENING, and S1. -/

namespace Sys2Proof.Machine

open Sys2Proof

variable {g : RecordImage} {s t : State} {v w : List Byte}

/-! ### The hand-on (R154, R194) -/

theorem takeInputSettings_input (x : InputSettings) (n m : Fin 8) (s : State) :
    (m = n → ((takeInputSettings x n s).input m).settings = x ∧ ((takeInputSettings x n s).input m).asserted = false
        ∧ ((takeInputSettings x n s).input m).cause = false)
      ∧ (m ≠ n → (takeInputSettings x n s).input m = s.input m) := by
  have hcleared : ∀ k, (clearKey (.input n) (setCause n false s)).input k = (setCause n false s).input k := fun k => by
    simp [State.input]
  have hcause : ((setCause n false s).input n).cause = false := by simp [setCause]
  refine ⟨?_, fun hm => ?_⟩
  · rintro rfl
    simp [takeInputSettings, hcleared, hcause]
  · rw [takeInputSettings, State.input_setInput_ne _ _ hm, hcleared, setCause, State.input_setInput_ne _ _ hm]

/-- Each of the inputs in a list, and each that had taken its settings before, has taken them. -/
theorem foldl_takeInputSettings (ns : List (Fin 8)) (s : State) (m : Fin 8) (h : m ∈ ns ∨ InputTaken g m s) :
    InputTaken g m (ns.foldl (fun t n => takeInputSettings (g.input n) n t) s) := by
  induction ns generalizing s with
  | nil => simpa using h
  | cons n rest ih =>
    refine ih _ ?_
    obtain ⟨hsame, hother⟩ := takeInputSettings_input (g.input n) n m s
    by_cases hm : m = n
    · obtain ⟨hsettings, hasserted, hcause⟩ := hsame hm
      exact .inr ⟨by rw [hsettings, hm], hasserted, hcause⟩
    · refine h.imp (fun hmem => (List.mem_cons.mp hmem).resolve_left hm) fun htaken => ?_
      rw [InputTaken, hother hm]
      exact htaken

theorem giveInputs_taken (g : RecordImage) (s : State) (m : Fin 8) : InputTaken g m (giveInputs g s) := by
  have hall : ∀ m : Fin 8, m ∈ ([0, 1, 2, 3, 4, 5, 6, 7] : List (Fin 8)) := by decide
  exact foldl_takeInputSettings _ s m (.inl (hall m))

@[simp] theorem giveInputs_frame (g : RecordImage) (s : State) :
    (giveInputs g s).rxp = s.rxp ∧ (giveInputs g s).tmu = s.tmu ∧ (giveInputs g s).src = s.src
      ∧ (giveInputs g s).sec = s.sec ∧ (giveInputs g s).stl = s.stl := by
  unfold giveInputs
  generalize ([0, 1, 2, 3, 4, 5, 6, 7] : List (Fin 8)) = ns
  induction ns generalizing s with
  | nil => simp
  | cons n rest ih => simp [ih]

theorem effectiveCapable_eq (straps : Option Straps) (g : RecordImage) :
    effectiveCapable straps (some g) = g.override.getD ((straps.map Straps.sourceCapable).getD false) := by
  cases h : g.override <;> simp [effectiveCapable, h]

/-- The event map of the port and its lines change nothing outside the port. -/
theorem giveEventMap_frame (g : RecordImage) (s : State) : (giveEventMap g s).tmu = s.tmu ∧ (giveEventMap g s).alu = s.alu
    ∧ (giveEventMap g s).src = s.src ∧ (giveEventMap g s).rxp = s.rxp ∧ (giveEventMap g s).stl = s.stl
    ∧ (giveEventMap g s).cpt.eventMap = g.eventMap.getD defaultEventMap := ⟨rfl, rfl, rfl, rfl, rfl, rfl⟩

theorem handOn_configured (g : RecordImage) (s : State) : Configured g (handOn g s) := by
  have hgiven : Configured g (giveInputs g (giveTime g (givePool g (giveSources g s)))) :=
    ⟨by simp [giveTime], by simp [giveTime], giveInputs_taken g _⟩
  obtain ⟨htmu, halu, -⟩ := giveEventMap_frame g (giveInputs g (giveTime g (givePool g (giveSources g s))))
  rw [handOn]
  exact configured_congr (by rw [htmu]; exact ⟨rfl, rfl⟩) (by rw [halu]) hgiven

/-- The fields that the image's items give, in the blocks that own them (R194). -/
structure HandedOn (g : RecordImage) (straps : Option Straps) (s : State) : Prop where
  priority : s.src.priority = g.priority.getD 128
  quality : s.src.quality = g.quality.getD 2
  capable : s.src.capable = g.override.getD ((straps.map Straps.sourceCapable).getD false)
  groups : s.rxp.groups = g.groups.getD 0
  readyLevel : s.rxp.readyLevel = g.readyLevel.getD 48
  servo : s.tmu.settings = g.servo
  eventMap : s.cpt.eventMap = g.eventMap.getD defaultEventMap

theorem handOn_handedOn (g : RecordImage) (s : State) : HandedOn g s.stl.straps (handOn g s) := by
  constructor <;> simp [handOn, giveEventMap, giveTime, givePool, giveSources, effectiveCapable_eq, Cpt.refreshLines]

theorem handOn_frame (g : RecordImage) (s : State) : (handOn g s).tmu.time = s.tmu.time ∧ (handOn g s).stl = s.stl := by
  simp [handOn, giveEventMap, giveTime, givePool, giveSources]

/-! ### The completion (R136, R195) -/

/-- LISTENING as a completed load enters it, before S1 reports defaults. -/
def loadedListening (g : RecordImage) (s : State) : State :=
  enterListening ((handOn g { s with stl := { s.stl with load := none, image := some g } }).setSec
    (fun c => { c with recordLoaded := true }))

theorem completeLoad_eq (o : LoadOutcome) (s : State) : completeLoad o s = if o.defaulted then
    clearKey .start (raiseInternal .start (loadedListening o.image s)) else loadedListening o.image s := rfl

theorem setSec_configured (f : Sec → Sec) (h : Configured g s) : Configured g (s.setSec f) :=
  configured_congr (s := s) ⟨rfl, rfl⟩ rfl h

theorem loadedListening_configured (g : RecordImage) (s : State) : Configured g (loadedListening g s) := by
  rw [loadedListening]
  exact enterListening_configured (setSec_configured _ (handOn_configured g _))

theorem enterListening_stl (s : State) : (enterListening s).stl = { s.stl with load := none } := by
  simp [enterListening, State.setSec, clearCauses, enterState_stl]

theorem loadedListening_handedOn (g : RecordImage) (s : State) : HandedOn g s.stl.straps (loadedListening g s) := by
  obtain ⟨hpriority, hquality, hcapable, hgroups, hready, hservo, hmap⟩ :=
    handOn_handedOn g { s with stl := { s.stl with load := none, image := some g } }
  constructor <;> simp [loadedListening, State.setSec, *]

theorem loadedListening_fields (g : RecordImage) (s : State) : (loadedListening g s).sec.state = .listening
    ∧ (loadedListening g s).sec.recordLoaded = true ∧ (loadedListening g s).sec.listenTimer = some 37500000
    ∧ (loadedListening g s).stl = { s.stl with load := none, image := some g } ∧ (loadedListening g s).tmu.time = s.tmu.time := by
  obtain ⟨htime, hstl⟩ := handOn_frame g { s with stl := { s.stl with load := none, image := some g } }
  simp [loadedListening, enterListening_sec, enterListening_stl, State.setSec, htime, hstl]

/-- S1 reports defaults and ends at once: what it changes besides the alarm picture (R195). -/
theorem startReported_frame (s : State) : (clearKey .start (raiseInternal .start s)).sec = s.sec
    ∧ (clearKey .start (raiseInternal .start s)).stl = s.stl ∧ (clearKey .start (raiseInternal .start s)).src = s.src
    ∧ (clearKey .start (raiseInternal .start s)).rxp = s.rxp ∧ (clearKey .start (raiseInternal .start s)).tmu = s.tmu
    ∧ (clearKey .start (raiseInternal .start s)).cpt.eventMap = s.cpt.eventMap := by simp

/-- What a completed load leaves, whatever its outcome. -/
structure LoadTaken (g : RecordImage) (s t : State) : Prop where
  listening : t.sec.state = .listening ∧ t.sec.recordLoaded = true ∧ t.sec.listenTimer = some 37500000
  loader : t.stl = { s.stl with load := none, image := some g }
  handed : HandedOn g s.stl.straps t
  configured : Configured g t
  time : t.tmu.time = s.tmu.time

theorem loadedListening_taken (g : RecordImage) (s : State) : LoadTaken g s (loadedListening g s) := by
  obtain ⟨hstate, hloaded, htimer, hstl, htime⟩ := loadedListening_fields g s
  exact ⟨⟨hstate, hloaded, htimer⟩, hstl, loadedListening_handedOn g s, loadedListening_configured g s, htime⟩

theorem startReported_taken (h : LoadTaken g s t) : LoadTaken g s (clearKey .start (raiseInternal .start t)) := by
  obtain ⟨hlistening, hstl, ⟨hpriority, hquality, hcapable, hgroups, hready, hservo, heventMap⟩, hconfigured, htime⟩ := h
  obtain ⟨hsec, hstl', hsrc, hrxp, htmu, hmap⟩ := startReported_frame t
  have hraised : Configured g (clearKey .start (raiseInternal .start t)) :=
    configured_congr (by simp) (by simp) (raiseInternal_configured .start hconfigured)
  exact ⟨by rwa [hsec], by rwa [hstl'], ⟨by rwa [hsrc], by rwa [hsrc], by rwa [hsrc], by rwa [hrxp], by rwa [hrxp],
    by rwa [htmu], by rwa [hmap]⟩, hraised, by rwa [htmu]⟩

theorem completeLoad_taken (o : LoadOutcome) (s : State) : LoadTaken o.image s (completeLoad o s) := by
  rw [completeLoad_eq]
  split
  · exact startReported_taken (loadedListening_taken o.image s)
  · exact loadedListening_taken o.image s

/-- S1 is neither ACTIVE nor ACKED once defaults have been reported (R195). -/
theorem completeLoad_start (hlaw : LawTable s) {o : LoadOutcome} (h : o.defaulted = true) :
    IsCleared .start (completeLoad o s) := by
  have hhanded : LawTable ((handOn o.image { s with stl := { s.stl with load := none, image := some o.image } }).setSec
      (fun c => { c with recordLoaded := true })) :=
    setRecordLoaded_keeps (l := .table) (handOn_keeps (l := .table) _ (setStl_keeps (l := .table) _ hlaw))
  have hlistening : LawTable (loadedListening o.image s) := enterListening_keeps (l := .table) hhanded
  rw [completeLoad_eq, if_pos h]
  exact isCleared_clearKey (raiseInternal_keeps (l := .table) _ hlistening)

theorem exec_loadComplete (hstate : s.sec.state = .config) (hload : s.stl.load.isSome = true) (memory : MemoryAnswer) :
    exec (.loadComplete memory) s = .next (completeLoad (judgeRecord memory) s) :=
  congrArg Host.Outcome.next (if_pos ⟨hstate, hload⟩)

end Sys2Proof.Machine
end

section
/-! The outcomes and items of a load as R192 and R193 give them, and its completion (R136, R194, R195). -/

namespace Sys2Proof.Machine

open Sys2Proof

variable {v w rest : List Byte} {g : RecordImage}

/-! ### Byte 512 (R192) -/

theorem takeItem_of_long (number : Byte) (hv : 11 ≤ v.length) : takeItem number.toNat v g = g := by
  refine takeItem_skipped (itemLength_eq number) fun h => ?_
  split at h
  · exact absurd h nofun
  · have hshort := lengthTable_le number h
    omega

/-- A longest item taken off the front: the 253 bytes after it are read. -/
theorem judgeRecord_longItem (number : Byte) (hv : v.length = 255) (tail : List Byte) :
    judgeRecord (answering ([0xD5, 0x1C] ++ (itemOf number v ++ tail)))
      = outcomeOf (readItems 511 (tail.take 253) .empty) := by
  have htake : (itemOf number v ++ tail).take 510 = itemOf number v ++ tail.take 253 := by
    rw [List.take_append, length_itemOf, hv, List.take_of_length_le (by rw [length_itemOf]; omega)]
  rw [judgeRecord_marked, htake, readItems_item 511 number (by omega), takeItem_of_long number (by omega)]

/-- A second long item, of which the bytes up to byte 512 are read. -/
theorem readItems_longItem (number : Byte) (hw : 11 ≤ w.length ∧ w.length ≤ 251) (tail : List Byte) :
    readItems 511 ((itemOf number w ++ tail).take 253) .empty = readItems 510 (tail.take (251 - w.length)) .empty := by
  have htake : (itemOf number w ++ tail).take 253 = itemOf number w ++ tail.take (251 - w.length) := by
    rw [List.take_append, length_itemOf, List.take_of_length_le (by rw [length_itemOf]; omega)]
    congr 2
    omega
  rw [htake, readItems_item 510 number (by omega), takeItem_of_long number (by omega)]

/-! ### One accepted item (R193) -/

theorem judgeRecord_accepted {number : Byte} (hlength : itemLength number.toNat = some v.length)
    (hv : 1 ≤ v.length ∧ v.length ≤ 255) :
    judgeRecord (answering ([0xD5, 0x1C] ++ itemOf number v ++ [0, 0])) = .record (acceptItem number.toNat v .empty) := by
  rw [judgeRecord_item number hv, takeItem_of_length hlength]

/-- An item that is not in the table, or not of its length, is skipped (R193). -/
theorem judgeRecord_skipped (number : Byte) (hv : 1 ≤ v.length ∧ v.length ≤ 255)
    (h : lengthTable[number.toNat]? ≠ some v.length) :
    judgeRecord (answering ([0xD5, 0x1C] ++ itemOf number v ++ [0, 0])) = .record .empty := by
  rw [judgeRecord_item number hv, takeItem_skipped (itemLength_eq number)]
  split
  · exact nofun
  · exact h

/-- Two items of one number, the first of its tabled length: the later stands where its length is right too, and leaves the
earlier where it is not (R193). -/
theorem judgeRecord_repeated (number : Byte) (h : lengthTable[number.toNat]? = some v.length)
    (hw : 1 ≤ w.length ∧ w.length ≤ 255) :
    judgeRecord (answering ([0xD5, 0x1C] ++ (itemOf number v ++ itemOf number w) ++ [0, 0]))
      = if w.length = v.length then judgeRecord (answering ([0xD5, 0x1C] ++ itemOf number w ++ [0, 0]))
        else judgeRecord (answering ([0xD5, 0x1C] ++ itemOf number v ++ [0, 0])) := by
  have hpositive : ∀ x : Byte, x ≠ 0 → lengthTable[x.toNat]? ≠ some 0 := by decide
  by_cases hzero : number = 0
  · subst hzero
    have hnil : v = [] := List.length_eq_zero_iff.mp (Option.some.inj h).symm
    subst hnil
    rw [if_neg (by rw [List.length_nil]; omega)]
    rfl
  · have hv : 1 ≤ v.length ∧ v.length ≤ 10 := by
      refine ⟨Nat.one_le_iff_ne_zero.mpr fun hempty => hpositive number hzero (hempty ▸ h), lengthTable_le number h⟩
    have hlength : itemLength number.toNat = some v.length := by rw [itemLength_eq, if_neg hzero, h]
    rw [judgeRecord_items_two number hv hw, judgeRecord_item number hw, judgeRecord_item number ⟨hv.1, by omega⟩,
      takeItem_of_length hlength]
    split
    next hsame =>
      have hlength' : itemLength number.toNat = some w.length := hsame ▸ hlength
      rw [takeItem_of_length hlength', takeItem_of_length hlength', acceptItem_acceptItem]
    next hne => rw [takeItem_skipped hlength fun heq => hne (Option.some.inj heq).symm]

/-! ### The outcome and the image (R194, R195) -/

/-- The image that a load hands on: that of its record, or the defaults. -/
theorem image_eq {o : LoadOutcome} (h : o = .record g
    ∨ ((o = .noAnswer ∨ o = .badMarker ∨ o = .noTerminator) ∧ g = RecordImage.empty)) : o.image = g := by
  rcases h with rfl | ⟨rfl | rfl | rfl, rfl⟩ <;> rfl

theorem defaulted_of_no_record {o : LoadOutcome} (h : ∀ g, o ≠ .record g) : o.defaulted = true := by
  cases o with
  | record g => exact absurd rfl (h g)
  | _ => rfl

/-- Settles O53. -/
theorem loadComplete : Obligations.LoadComplete := by
  unfold Obligations.LoadComplete
  intro read load lengths fresh two four strobe
  have hone : ∀ (number a : Byte), itemLength number.toNat = some 1 →
      load [number, 1, a] = .record (acceptItem number.toNat [a] fresh) := fun number a h =>
    judgeRecord_accepted (v := [a]) h (by simp)
  have htwo : ∀ (number a b : Byte), itemLength number.toNat = some 2 →
      load [number, 2, a, b] = .record (acceptItem number.toNat [a, b] fresh) := fun number a b h =>
    judgeRecord_accepted (v := [a, b]) h (by simp)
  have hfour : ∀ (number a b c d : Byte), itemLength number.toNat = some 4 →
      load [number, 4, a, b, c, d] = .record (acceptItem number.toNat [a, b, c, d] fresh) := fun number a b c d h =>
    judgeRecord_accepted (v := [a, b, c, d]) h (by simp)
  refine ⟨fun m => ?_, fun bytes h => judgeRecord_badMarker h, fun n m k v w rest hv => ⟨fun hw => ?_, fun hw => ?_,
    fun hw => ?_, fun hw => ?_⟩, fun n v hlow hhigh h => judgeRecord_skipped n ⟨hlow, hhigh⟩ h,
    fun n v w h hlow hhigh => ?_, fun a => ⟨?_, ?_, ?_, ?_, ?_, ?_, ?_⟩, fun a b => ⟨?_, ?_, ?_⟩, fun a b c d => ⟨?_, ?_⟩,
    fun p a b c d w => ⟨?_, ?_⟩, fun n m p l v d => ?_, fun v hv => ?_, fun memory g s hstate hload hlaw houtcome => ?_⟩
  · rw [judgeRecord_noAnswer_iff, MemoryAnswer.answered, ← Bool.not_eq_true]
    simp only [Bool.and_eq_true, and_assoc]
  · have hbytes : [0xD5, 0x1C, n, 255] ++ v ++ [m, 249] ++ w ++ [k, 0] ++ rest
        = [0xD5, 0x1C] ++ (itemOf n v ++ (itemOf m w ++ (k :: 0 :: rest))) := by simp [itemOf, hv, hw]
    have hread : read _ = _ := judgeRecord_longItem n hv (itemOf m w ++ (k :: 0 :: rest))
    rw [hbytes, hread, readItems_longItem m (by omega), hw]
    simp [readItems, fresh, outcomeOf]
  · have hbytes : [0xD5, 0x1C, n, 255] ++ v ++ [m, 250] ++ w ++ [k, 0] ++ rest
        = [0xD5, 0x1C] ++ (itemOf n v ++ (itemOf m w ++ (k :: 0 :: rest))) := by simp [itemOf, hv, hw]
    have hread : read _ = _ := judgeRecord_longItem n hv (itemOf m w ++ (k :: 0 :: rest))
    rw [hbytes, hread, readItems_longItem m (by omega), hw]
    simp [readItems, outcomeOf]
  · have hbytes : [0xD5, 0x1C, n, 255] ++ v ++ [m, 251] ++ w ++ [k, 0] ++ rest
        = [0xD5, 0x1C] ++ (itemOf n v ++ (itemOf m w ++ (k :: 0 :: rest))) := by simp [itemOf, hv, hw]
    have hread : read _ = _ := judgeRecord_longItem n hv (itemOf m w ++ (k :: 0 :: rest))
    rw [hbytes, hread, readItems_longItem m (by omega), hw]
    simp [readItems, outcomeOf]
  · have hbytes : [0xD5, 0x1C, n, 255] ++ v ++ [m, 252] ++ w
        = [0xD5, 0x1C] ++ (itemOf n v ++ (m :: BitVec.ofNat 8 252 :: w)) := by simp [itemOf, hv]
    have hread : read _ = _ := judgeRecord_longItem n hv (m :: BitVec.ofNat 8 252 :: w)
    have hcut : readItems 511 ((m :: BitVec.ofNat 8 252 :: w).take 253) .empty = none :=
      readItems_cut (v := w.take 251) 510 m (by omega) (by rw [List.length_take]; omega)
    rw [hbytes, hread, hcut, outcomeOf]
  · have hrepeated := judgeRecord_repeated n h ⟨hlow, hhigh⟩
    have hbytes : [n, BitVec.ofNat 8 v.length] ++ v ++ [n, BitVec.ofNat 8 w.length] ++ w = itemOf n v ++ itemOf n w := by
      simp [itemOf]
    rw [hbytes]
    exact hrepeated
  · exact hone 1 a rfl
  · exact (hone 2 a rfl).trans (by simp [acceptItem, numAt_one, clampTo_zero, byteAt])
  · refine (hone 3 a rfl).trans ?_
    simp only [acceptItem, numAt_one]
    rw [clampTo_flag]
    rfl
  · exact (hone 5 a rfl).trans (by simp [acceptItem, numAt_one, clampTo_zero, byteAt])
  · exact (hone 6 a rfl).trans (by simp [acceptItem, numAt_one, clampTo_zero, byteAt])
  · exact (hone 10 a rfl).trans (by simp [acceptItem, numAt_one, clampTo_zero, byteAt])
  · exact (hone 12 a rfl).trans (by simp [acceptItem, numAt_one, clampTo, byteAt])
  · exact (htwo 4 a b rfl).trans (by simp only [acceptItem, numAt_two, ofNat_and_even]; rfl)
  · exact (htwo 8 a b rfl).trans (by simp [acceptItem, numAt_two, clampTo, two])
  · exact (htwo 11 a b rfl).trans (by simp [acceptItem, numAt_two, clampTo_zero, two])
  · exact (hfour 7 a b c d rfl).trans (by simp [acceptItem, numAt_four, clampTo, two, four])
  · exact (hfour 9 a b c d rfl).trans (by simp [acceptItem, numAt_four, clampTo, two, four])
  · refine (judgeRecord_accepted (number := 13) (v := [p, a, b, c, d, w]) rfl (by simp)).trans ?_
    simp only [acceptItem, readStrobe_eq, strobe, two, four]
    rfl
  · refine (judgeRecord_accepted (number := 14) (v := [p, a, b, c, d, w]) rfl (by simp)).trans ?_
    simp only [acceptItem, readStrobe_eq, strobe, two, four]
    rfl
  · have hnumber : ∀ i : Fin 8, ((15 : Byte) + BitVec.ofNat 8 i.val).toNat = 15 + i.val
        ∧ itemLength (15 + i.val) = some 5 := by decide
    obtain ⟨hnat, hlength⟩ := hnumber n
    refine (judgeRecord_accepted (number := 15 + BitVec.ofNat 8 n.val) (v := [m, p, l, v, d]) (by rw [hnat]; exact hlength)
      (by simp)).trans ?_
    rw [hnat, acceptItem_input, readInput_eq]
  · refine ⟨readEventMap v, ?_, fun i => readEventMap_get v i⟩
    have hbytes : [23, 10] ++ v = itemOf 23 v := by simp [itemOf, hv]
    rw [hbytes]
    exact judgeRecord_accepted (number := 23) (by rw [hv]; rfl) (by omega)
  · have himage := image_eq houtcome
    obtain ⟨⟨hlistening, hloaded, htimer⟩, hstl, ⟨hpriority, hquality, hcapable, hgroups, hready, hservo, hmap⟩,
      ⟨hsta, hstb, hinputs⟩, htime⟩ := himage ▸ completeLoad_taken (judgeRecord memory) s
    exact ⟨_, exec_loadComplete hstate hload memory, hlistening, hloaded, htimer, by rw [hstl], by rw [hstl], by rw [hstl],
      hpriority, hquality, hcapable, hgroups, hready, hservo, hsta, hstb, hinputs, hmap,
      fun hno => completeLoad_start hlaw (defaulted_of_no_record hno), htime⟩

end Sys2Proof.Machine
end

section
/-! The codings of the READ items' fields (R199), against the forms in which their bytes stand written out. -/

namespace Sys2Proof.Machine

open Sys2Proof

variable {s : State} {n : Nat}

/-! ### Numbers -/

theorem beBytes_eq_map (k n : Nat) : beBytes k n = (List.range k).map (fun i => BitVec.ofNat 8 (n / 256 ^ (k - 1 - i))) := by
  induction k with
  | zero => rfl
  | succ k ih =>
    have hrest : ∀ i, k + 1 - 1 - Nat.succ i = k - 1 - i := fun i => by omega
    rw [beBytes, ih, List.range_succ_eq_map, List.map_cons, List.map_map]
    refine congrArg _ (List.map_congr_left fun i _ => ?_)
    rw [Function.comp_apply, hrest]

theorem beBytes_one (n : Nat) : beBytes 1 n = [BitVec.ofNat 8 n] := by simp [beBytes]

theorem ofNat_toNat_eq_flagByte (b : Bool) : BitVec.ofNat 8 b.toNat = flagByte b := by cases b <;> rfl

/-- Whole units need no rounding (log 2). -/
theorem wholeUnits_of_whole {unit : Nat} {up : Bool} (h : n % unit = 0) : wholeUnits unit up n = n / unit :=
  if_neg fun hpart => hpart.1 h

theorem timerBytes_of_whole (h : n % 125 = 0) :
    timerBytes (some n) = (List.range 8).map (fun i => BitVec.ofNat 8 (n / 125 / 256 ^ (8 - 1 - i))) := by
  have hwhole : microseconds n = n / 125 := wholeUnits_of_whole h
  simp only [timerBytes, hwhole, beBytes_eq_map]

theorem ageBytes_of_whole (h : n % 125000 = 0) : ageBytes n = beBytes 2 (n / 125000) :=
  congrArg (beBytes 2) (wholeUnits_of_whole h)

/-! ### Lists -/

theorem listBytes_eq {α : Type} (f : α → List Byte) (l : List α) :
    listBytes f l = BitVec.ofNat 8 (l.map f).length :: (l.map f).flatten := by
  rw [listBytes, List.length_map, List.flatMap]

/-! ### Names by their numbers -/

theorem seatingByte (x : Seating) : namedByte (some x.ctorIdx)
    = BitVec.ofNat 8 (([.unseated, .seated, .powering, .config, .listening, .joining, .joined, .draining, .forced,
        .withdrawn, .isolated, .conflict, .powerFault] : List Seating).idxOf x + 1) := by
  cases x <;> rfl

theorem withdrawByte (x : Option WithdrawCause) : namedByte (x.map WithdrawCause.ctorIdx)
    = BitVec.ofNat 8 ([none, some .ejector, some .card].idxOf x) := by
  rcases x with - | x
  · rfl
  · cases x <;> rfl

theorem forceByte (x : Option ForceCause) : namedByte (x.map ForceCause.ctorIdx)
    = BitVec.ofNat 8 ([none, some .drain, some .power].idxOf x) := by
  rcases x with - | x
  · rfl
  · cases x <;> rfl

theorem conflictByte (x : Option ConflictCause) : namedByte (x.map ConflictCause.ctorIdx)
    = BitVec.ofNat 8 ([none, some .ownSlotHeard, some .slotHeardWhileListening, some .suspectedDuplicateSlot].idxOf x) := by
  rcases x with - | x
  · rfl
  · cases x <;> rfl

theorem slotStateByte (x : SlotState) : namedByte (some x.ctorIdx)
    = BitVec.ofNat 8 (([.empty, .pending, .inFlight, .inFlightPending] : List SlotState).idxOf x + 1) := by
  cases x <;> rfl

theorem lineByte_eq (x : NoticeLine) :
    lineByte x = BitVec.ofNat 8 (([.off, .urgent, .attention] : List NoticeLine).idxOf x) := by
  cases x <;> rfl

theorem map_lineByte (l : List NoticeLine) : l.map lineByte
    = l.flatMap (fun x => [BitVec.ofNat 8 (([.off, .urgent, .attention] : List NoticeLine).idxOf x)]) := by
  induction l with
  | nil => rfl
  | cons x rest ih => simp [ih, lineByte_eq]

theorem servoByte (x : Servo) : namedByte (some x.ctorIdx)
    = BitVec.ofNat 8 (([.free, .acquire, .locked, .holdover] : List Servo).idxOf x + 1) := by
  cases x <;> rfl

theorem roleByte (x : Role) : namedByte (some x.ctorIdx)
    = BitVec.ofNat 8 (([.follower, .source] : List Role).idxOf x + 1) := by
  cases x <;> rfl

theorem sampleByte (x : SampleKind) : namedByte (some x.ctorIdx)
    = BitVec.ofNat 8 (([.sync, .ref] : List SampleKind).idxOf x + 1) := by
  cases x <;> rfl

theorem severityByte_eq (x : Option Severity) : severityByte x
    = BitVec.ofNat 8 ([none, some .warning, some .minor, some .major, some .critical].idxOf x) := by
  rcases x with - | x
  · rfl
  · cases x <;> rfl

theorem alarmStateCode_eq (x : AlarmState) :
    x.code = BitVec.ofNat 8 (([.active, .acked, .cleared] : List AlarmState).idxOf x + 1) := by
  cases x <;> rfl

/-! ### Counters -/

/-- The counters in the order of R185. -/
def counterOrder : List CounterId :=
  [.framesHeard, .framesSent, .ownCollisions, .collisionsSeen, .codeFaults, .checkFaults, .foreignSlot, .framesCut,
    .repliesSent, .noReply, .replyFaults, .sent, .late, .undeliverable, .peerLeft, .fullReplies, .refusedSends, .framesStored,
    .framesDelivered, .duplicates, .gapFrames, .fullSent, .groupDrops, .lateArrivals, .notReceiving, .ownSlotFrames,
    .peersLost, .impliedJoins, .announcesSent, .syncsSent, .syncsIgnored, .samples, .steps, .outliers, .syncTimeouts,
    .refTimeouts, .raisesDropped, .evictions, .summariesSent, .linkFaults, .overruns]

theorem counters_toList (s : State) : s.counters.toList = counterOrder.map s.counter := by
  have hindex : ∀ i : Fin 41, (counterOrder[i.val]'i.isLt).index = i := by decide
  refine List.ext_getElem (by simp [counterOrder]) fun i hi hi' => ?_
  have hi'' : i < 41 := by simpa [counterOrder] using hi'
  have hat : (counterOrder[i]).index.val = i := congrArg Fin.val (hindex ⟨i, hi''⟩)
  rw [List.getElem_map, Vector.getElem_toList]
  exact getElem_congr_idx hat.symm

theorem counterBytes_eq (c : Counter) : counterBytes c = [BitVec.ofNat 8 (c.val / 16777216), BitVec.ofNat 8 (c.val / 65536),
    BitVec.ofNat 8 (c.val / 256), BitVec.ofNat 8 c.val] := by
  simp [counterBytes, beBytes]

theorem countersItem_eq (s : State) : countersItem s = counterOrder.flatMap (fun i =>
    [BitVec.ofNat 8 ((s.counter i).val / 16777216), BitVec.ofNat 8 ((s.counter i).val / 65536),
      BitVec.ofNat 8 ((s.counter i).val / 256), BitVec.ofNat 8 (s.counter i).val]) := by
  rw [countersItem, counters_toList, List.flatMap_map]
  exact congrArg (List.flatMap · counterOrder) (funext fun i => counterBytes_eq (s.counter i))

/-! ### A peer entry of which nothing is known (R81) -/

theorem peerItem_of_hidden {i : Slot} (hpeer : s.shownPeer i = .cleared) (hsource : s.shownSource i = none) :
    peerItem i s = [1, 0, 0] ++ List.replicate 8 0xFF ++ List.replicate 8 0 ++ List.replicate 12 0 := by
  rw [peerItem, hpeer, hsource]
  rfl

theorem shownPeer_of_hidden {i : Slot} (h : s.ownSlot = some i ∨ s.cabinet ≤ i.val) :
    s.shownPeer i = .cleared ∧ s.shownSource i = none := ⟨if_pos h, if_pos h⟩

theorem shownPeer_reset (i : Slot) : State.reset.shownPeer i = .cleared ∧ State.reset.shownSource i = none := by
  have hpeer : ∀ j : Slot, State.reset.peer j = .cleared := by decide +kernel
  have hsource : findSource i State.reset.src.table = none := rfl
  unfold State.shownPeer State.shownSource
  split
  · exact ⟨rfl, rfl⟩
  · exact ⟨hpeer i, hsource⟩

/-! ### The source table in its order (R106, R126) -/

theorem before_iff (a b : SourceEntry) : a.before b = true ↔ a.quality.val < b.quality.val
    ∨ (a.quality.val = b.quality.val ∧ (a.priority.toNat < b.priority.toNat
      ∨ (a.priority.toNat = b.priority.toNat ∧ a.slot.val < b.slot.val))) := by
  simp [SourceEntry.before]

theorem before_trans {a b c : SourceEntry} (h : a.before b = true) (h' : b.before c = true) : a.before c = true := by
  rw [before_iff] at *
  omega

theorem before_asymm {a b : SourceEntry} (h : a.before b = true) (h' : b.before a = true) : False := by
  rw [before_iff] at *
  omega

theorem insertByOrder_perm (e : SourceEntry) (l : List SourceEntry) : (insertByOrder e l).Perm (e :: l) := by
  induction l with
  | nil => exact .refl _
  | cons x rest ih =>
    unfold insertByOrder
    split
    · exact .refl _
    · exact (ih.cons x).trans (.swap e x rest)

theorem selectionOrder_perm (l : List SourceEntry) : (selectionOrder l).Perm l := by
  induction l with
  | nil => exact .refl _
  | cons e rest ih => exact (insertByOrder_perm e _).trans (ih.cons e)

/-- Two entries of which one stands before the other. -/
def Ranked (a b : SourceEntry) : Prop := a.before b = true ∨ b.before a = true

theorem insertByOrder_sorted {e : SourceEntry} {l : List SourceEntry} (hranked : ∀ x ∈ l, Ranked e x)
    (h : l.Pairwise (fun a b => a.before b = true)) : (insertByOrder e l).Pairwise (fun a b => a.before b = true) := by
  induction l with
  | nil => exact List.pairwise_singleton _ _
  | cons x rest ih =>
    obtain ⟨hx, hrest⟩ := List.pairwise_cons.mp h
    unfold insertByOrder
    split
    next hbefore =>
      refine List.pairwise_cons.mpr ⟨fun y hy => ?_, h⟩
      rcases List.mem_cons.mp hy with rfl | hy
      · exact hbefore
      · exact before_trans hbefore (hx y hy)
    next hafter =>
      have hxe : x.before e = true := (hranked x List.mem_cons_self).resolve_left hafter
      refine List.pairwise_cons.mpr ⟨fun y hy => ?_, ih (fun y hy => hranked y (List.mem_cons_of_mem _ hy)) hrest⟩
      rcases List.mem_cons.mp ((insertByOrder_perm e rest).mem_iff.mp hy) with rfl | hy
      · exact hxe
      · exact hx y hy

theorem selectionOrder_sorted {l : List SourceEntry} (h : l.Pairwise Ranked) :
    (selectionOrder l).Pairwise (fun a b => a.before b = true) := by
  induction l with
  | nil => exact .nil
  | cons e rest ih =>
    obtain ⟨he, hrest⟩ := List.pairwise_cons.mp h
    exact insertByOrder_sorted (fun x hx => he x ((selectionOrder_perm rest).mem_iff.mp hx)) (ih hrest)

/-- The table listed best first is its one arrangement in the order of R106. -/
theorem selectionOrder_eq {l table : List SourceEntry} (hperm : l.Perm table)
    (hsorted : l.Pairwise (fun a b => a.before b = true)) : selectionOrder table = l := by
  have hranked : table.Pairwise Ranked :=
    (hperm.pairwise_iff fun hab => hab.symm).mp (hsorted.imp fun hab => .inl hab)
  refine ((selectionOrder_perm table).trans hperm.symm).eq_of_pairwise (fun a b _ _ hab hba => ?_)
    (selectionOrder_sorted hranked) hsorted
  exact (before_asymm hab hba).elim

end Sys2Proof.Machine
end

section
/-! READ answered and refused (R179, R184, R185), and the bytes of its six items (R199). -/

namespace Sys2Proof.Machine

open Sys2Proof

variable {s : State}

/-! ### READ handled (R179, R185) -/

/-- The state with a REPLY appended to the reply queue (R180). -/
def State.answered (s : State) (r : Reply) : State := { s with cpt := { s.cpt with replies := s.cpt.replies ++ [r] } }

section
variable (hready : PortReady s)
include hready

theorem handle_read (item : ReadItem) (n : Byte) (fields : State → List Byte) :
    handle (.read item n false) (actRead item n false fields) s = s.answered (.item item n (fields s)) :=
  handle_of_ready hready _ _

/-- The clear option with another item than COUNTERS is refused (R179). -/
theorem handle_read_clear (item : ReadItem) (n : Byte) (fields : State → List Byte) :
    handle (.read item n true) (actRead item n true fields) s = s.answered (.refusal .badRequest 10 none) :=
  handle_of_ready hready _ _

theorem exec_readState (n : Byte) : exec (.readState n false) s = .next (s.answered (.item .state n (stateItem s))) :=
  congrArg Host.Outcome.next (handle_read hready .state n stateItem)

theorem exec_readTime (k : EdgeDelay) (n : Byte) :
    exec (.readTime k n false) s = .next (s.answered (.item .time n (timeItem k s))) :=
  congrArg Host.Outcome.next (handle_read hready .time n (timeItem k))

theorem exec_readSources (n : Byte) : exec (.readSources n false) s = .next (s.answered (.item .sources n (sourcesItem s))) :=
  congrArg Host.Outcome.next (handle_read hready .sources n sourcesItem)

theorem exec_readAlarms (n : Byte) : exec (.readAlarms n false) s = .next (s.answered (.item .alarms n (alarmsItem s))) :=
  congrArg Host.Outcome.next (handle_read hready .alarms n alarmsItem)

theorem exec_readCounters (n : Byte) : exec (.readCounters n) s = .next (s.answered (.item .counters n (countersItem s))) :=
  congrArg Host.Outcome.next (handle_read hready .counters n countersItem)

/-- READ PEER is answered for a number in 0..15, and refused for another (R81, R179). -/
theorem exec_readPeer (n : Byte) :
    (n.toNat < 16 → exec (.readPeer n false) s
      = .next (s.answered (.item .peer n (peerItem (Fin.ofNat 16 n.toNat) s))))
    ∧ (16 ≤ n.toNat → exec (.readPeer n false) s = .next (s.answered (.refusal .badRequest 10 none))) := by
  have hhandled : exec (.readPeer n false) s = .next (actReadPeer n false s) :=
    congrArg Host.Outcome.next (handle_of_ready hready _ _)
  refine ⟨fun h => hhandled.trans (congrArg Host.Outcome.next (if_pos h)), fun h => ?_⟩
  exact hhandled.trans (congrArg Host.Outcome.next (if_neg (Nat.not_lt.mpr h)))

theorem exec_readClear {n : Byte} {c : Instr} (h : c = .readState n true ∨ (∃ k, c = .readTime k n true)
    ∨ c = .readPeer n true ∨ c = .readSources n true ∨ c = .readAlarms n true) :
    exec c s = .next (s.answered (.refusal .badRequest 10 none)) := by
  rcases h with rfl | ⟨k, rfl⟩ | rfl | rfl | rfl
  · exact congrArg Host.Outcome.next (handle_read_clear hready .state n stateItem)
  · exact congrArg Host.Outcome.next (handle_read_clear hready .time n (timeItem k))
  · have hboth : actReadPeer n true s = s.answered (.refusal .badRequest 10 none) := by
      unfold actReadPeer
      split <;> rfl
    exact congrArg Host.Outcome.next ((handle_of_ready hready _ _).trans hboth)
  · exact congrArg Host.Outcome.next (handle_read_clear hready .sources n sourcesItem)
  · exact congrArg Host.Outcome.next (handle_read_clear hready .alarms n alarmsItem)

/-- READ COUNTERS with the clear option: the values are taken, then every counter is 0 (R19, R185). -/
theorem exec_readCountersClear (n : Byte) : ∃ t, exec (.readCountersClear n) s = .next t
    ∧ t.cpt = { s.cpt with replies := s.cpt.replies ++ [.item .counters n (countersItem s)] }
    ∧ (∀ i : CounterId, t.counter i = 0)
    ∧ (∀ i : Slot, t.peer i = { s.peer i with frames := 0, gaps := 0, duplicates := 0 })
    ∧ SameOutside [.ptb, .cpt, .counters] s t := by
  refine ⟨clearCounters (s.answered (.item .counters n (countersItem s))),
    congrArg Host.Outcome.next (handle_of_ready hready _ _), rfl, fun i => ?_, fun i => ?_, ?_⟩
  · simp [State.counter, clearCounters]
  · simp [State.peer, clearCounters, mapVector, State.answered]
  · simp [sameOutside_iff, clearCounters, State.answered]

end

/-- Settles O58, item by item. -/
theorem readsAnswered : Obligations.ReadsAnswered := by
  unfold Obligations.ReadsAnswered
  intro zeros stopped one big flag known many timer fullTime r
  have hbig : ∀ k n, beBytes k n = big k n := beBytes_eq_map
  have hone : ∀ n, beBytes 1 n = one n := beBytes_one
  have hknown : ∀ {α : Type} (f : α → List Byte) (o : Option α), optBytes f o = known (o.map f) := fun f o => by
    cases o <;> rfl
  have hflag : ∀ b, flag b = [flagByte b] := fun _ => rfl
  have hmany : ∀ {α : Type} (f : α → List Byte) (l : List α), listBytes f l = many (l.map f) := listBytes_eq
  have htimer : ∀ x : Timer, (∀ n, some n = x → n % 125 = 0) → timerBytes x = timer x := fun x h => by
    cases x with
    | none => rfl
    | some n => exact timerBytes_of_whole (h n rfl)
  refine ⟨⟨?_, ?_, ?_, ?_, ?_, ?_⟩, fun s h => ?_, fun k s h => ?_, fun l s hperm hsorted h hage => ?_, fun s h => ?_,
    countersItem_eq, fun i s h => ?_, fun i ms a s hown hcab hms hnone hpeer => ?_, ?_⟩
  · decide +kernel
  · decide +kernel
  · exact fun i => peerItem_of_hidden (shownPeer_reset i).1 (shownPeer_reset i).2
  · decide +kernel
  · decide +kernel
  · decide +kernel
  · intro strap groups
    have ht : ∀ x, x ∈ [s.sec.powerGoodTimer, s.sec.listenTimer, s.sec.drainTimer, s.sec.goneTimer, s.sec.noticeTimer] →
        timerBytes x = timer x := fun x hx => htimer x fun n hn => h n (hn ▸ hx)
    simp only [stateItem, seatingBytes, busBytes, schedulerBytes, poolBytes, portBytes, ht s.sec.powerGoodTimer (by simp),
      ht s.sec.listenTimer (by simp), ht s.sec.drainTimer (by simp), ht s.sec.goneTimer (by simp),
      ht s.sec.noticeTimer (by simp), hone, hknown, hmany, hflag, strap, seatingByte,
      withdrawByte, forceByte, conflictByte, slotStateByte, map_lineByte]
    simp only [one, groups, groupList, slotByte, Slots.get, ofNat_toNat_eq_flagByte, List.append_assoc, List.cons_append,
      List.nil_append, List.flatMap_cons, List.flatMap_nil, List.map_cons, List.map_nil]
    cases hstraps : s.stl.straps with
    | none => rfl
    | some x => cases hsize : x.size <;> simp only [hsize, CabinetSize.slots, Option.map_some]
  · intro strobe c
    have ht : ∀ x, x ∈ [s.tmu.holdoverTimer, s.src.refTimeout] → timerBytes x = timer x :=
      fun x hx => htimer x fun n hn => h n (hn ▸ hx)
    have htime : timeBytes = fullTime := funext fun x => by simp only [timeBytes, hbig, fullTime]
    have hwrap : ((256 ^ 4 : Nat) : Int) = 4294967296 ∧ ((256 ^ 12 : Nat) : Int) = 79228162514264337593543950336 :=
      ⟨rfl, rfl⟩
    obtain ⟨hwrap4, hwrap12⟩ := hwrap
    -- opened by `delta`: an equation lemma for so long an item costs more than its proof
    delta timeItem
    simp only [htime, strobeBytes, settingsBytes, State.countersBytes, counterBytes, intBytes,
      ht s.tmu.holdoverTimer (by simp), ht s.src.refTimeout (by simp), hone, hbig, hknown, hflag, strobe, c, servoByte,
      roleByte, sampleByte, hwrap4, hwrap12]
    simp only [one, List.append_assoc, List.cons_append, List.nil_append]
  · have ht : ∀ x, x ∈ [s.src.syncTimeout, s.src.announceTimer] → timerBytes x = timer x :=
      fun x hx => htimer x fun n hn => h n (hn ▸ hx)
    have hages : ∀ x ∈ l, x.age.map ageBytes = x.age.map (fun n => big 2 (n / 125000)) := fun x hx => by
      cases hx' : x.age with
      | none => rfl
      | some n => exact congrArg some ((ageBytes_of_whole (hage x n hx hx')).trans (hbig 2 _))
    have hentries : l.map (fun x : SourceEntry => [slotByte x.slot] ++ beBytes 1 x.quality.val ++ [x.priority]
        ++ optBytes ageBytes x.age) = l.map (fun x => one x.slot.val ++ one x.quality.val ++ [x.priority]
        ++ known (x.age.map (fun n => big 2 (n / 125000)))) := List.map_congr_left fun x hx => by
      simp only [hone, hknown, hages x hx, slotByte, one]
    have hcandidate : s.candidate
        = decide (s.sec.state = .joined ∧ s.src.capable = true ∧ s.src.quality.val ≤ 2) := by
      simp [State.candidate, Bool.and_assoc]
    rw [sourcesItem, selectionOrder_eq hperm hsorted, hmany, hentries]
    simp only [ht s.src.syncTimeout (by simp), ht s.src.announceTimer (by simp), hone, hknown, hflag, hcandidate, roleByte]
    simp only [one, slotByte, List.append_assoc, List.cons_append, List.nil_append]
  · intro severity state v
    have ht : ∀ x, x ∈ [s.alu.intervalTimer, s.alu.holdOffTimer] → timerBytes x = timer x :=
      fun x hx => htimer x fun n hn => h n (hn ▸ hx)
    have hcode : ∀ (b : Bool) (m n : Nat), (if b = true then one m else one n)
        = [if b = true then BitVec.ofNat 8 m else BitVec.ofNat 8 n] := fun b m n => by cases b <;> rfl
    have halarm : alarmBytes = fun e => [e.key.origin, e.key.code] ++ severity (some e.severity) ++ state e.state
        ++ one e.raises ++ big 4 e.firstRaise.val ++ big 4 e.lastChange.val := funext fun e => by
      simp only [alarmBytes, keyBytes, severityByte_eq, alarmStateCode_eq, hone, hbig, severity, state]
      simp only [one, List.cons_append, List.nil_append]
    have hlisted : summaryEntryBytes = fun e => [e.origin, e.code] ++ severity e.severity ++ state e.state := funext fun e => by
      simp only [summaryEntryBytes, severityByte_eq, alarmStateCode_eq, severity, state]
      rfl
    have hinput : inputBytes = fun x => (if x.settings.masked then one 1 else one 2)
        ++ (if x.settings.activeHigh then one 2 else one 1) ++ (if x.settings.latched then one 2 else one 1)
        ++ severity (some x.settings.severity) ++ one x.settings.debounceMs ++ flag x.asserted ++ flag x.cause :=
      funext fun x => by
        simp only [inputBytes, severityByte_eq, hcode, hone, hflag, severity]
        rfl
    have hkeys : keyBytes = fun k => [k.origin, k.code] := rfl
    simp only [alarmsItem, halarm, hlisted, hinput, hkeys, summaryFields, State.countersBytes, counterBytes,
      ht s.alu.intervalTimer (by simp), ht s.alu.holdOffTimer (by simp), hone, hbig, hmany, hflag, severityByte_eq]
    simp only [one, severity, v, List.append_assoc, List.cons_append, List.nil_append]
  · exact peerItem_of_hidden (shownPeer_of_hidden h).1 (shownPeer_of_hidden h).2
  · have hshown : s.shownPeer i = s.peer i ∧ s.shownSource i = none := by
      have hhere : ¬ (s.ownSlot = some i ∨ s.cabinet ≤ i.val) := by simp [hown, hcab]
      refine ⟨if_neg hhere, (if_neg hhere).trans (List.find?_eq_none.mpr fun e he => ?_)⟩
      simp [hnone e he]
    have hage : ageBytes (125000 * ms) = [BitVec.ofNat 8 (ms / 256), BitVec.ofNat 8 ms] := by
      rw [ageBytes_of_whole (by omega), Nat.mul_div_cancel_left _ (by omega)]
      simp [beBytes]
    rw [peerItem, hshown.1, hshown.2, hpeer]
    have hstate : namedByte (some PeerState.present.ctorIdx) = 2 ∧ namedByte none = 0 := ⟨rfl, rfl⟩
    have hcount : counterBytes 0 = [0, 0, 0, 0] := rfl
    simp [PeerEntry.cleared, optBytes, hage, hstate, hcount, flagByte, timerBytes, stopped, zeros]
  · intro n s hready answered
    obtain ⟨hincluded, hexcluded⟩ := exec_readPeer hready n
    refine ⟨exec_readState hready n, fun k => exec_readTime hready k n, fun i hi => ?_, hexcluded, exec_readSources hready n,
      exec_readAlarms hready n, exec_readCounters hready n, fun c hc => ?_, exec_readCountersClear hready n⟩
    · have hslot : Fin.ofNat 16 n.toNat = i := Fin.ext (by simp [hi])
      rw [hincluded (by omega), hslot]
      rfl
    · exact exec_readClear hready hc

end Sys2Proof.Machine
end
